-- ==== Sys2Proof/Word.lean ====
section
/-! DEFINITION. The words of the part: bytes, card identities, lane and slot numbers. -/

namespace Sys2Proof

/-- A byte is 8 bits (00_scope, 5.1). -/
abbrev Byte := BitVec 8

/-- A card identity, the 64-bit number that names a card (00_scope, 4). -/
abbrev Identity := BitVec 64

/-- A lane number, 0 to 7. -/
abbrev LaneId := Fin 8

/-- A recovery slot number, 0 to 7 (R96). -/
abbrev SlotId := Fin 8

end Sys2Proof
end

