-- ==== Sys2Proof/Syntax.lean ====
section
/-! DEFINITION. The commands of the part: one constructor for each row of spec/opcode_table.json. -/

namespace Sys2Proof

/-- A side of a lane: S (street) or P (platform). -/
inductive Side where
  | s
  | p
  deriving DecidableEq, Repr

/-- What SLRX delivers: a character, or a framing error (R168). -/
inductive LineChar where
  | char (b : Byte)
  | framingError
  deriving DecidableEq, Repr

/-- The commands. A request's operands stand in the frame at the front of the request queue (R173, log 2); the row of a request that
makes the store-protected test carries the level of NVWP at that test, true for high, the level of an open pin (R196, log 11). -/
inductive Instr where
  /-- POWER_ON with the levels of SLB1, SLB0 and NVWP, true for high (R46, R168, log 11). -/
  | powerOn (slb1 slb0 nvwp : Bool)
  | powerLoss
  | receiveCharacter (c : LineChar)
  | transmitFrame
  | frameSendComplete
  | unknownCommand
  | testReady
  | requestSense
  | readStatus
  | setTime
  | setParameters (nvwp : Bool := true)
  | readConditions
  | readJournal
  | releaseJournal (nvwp : Bool := true)
  | hotlistBegin (nvwp : Bool := true)
  | hotlistSegment (nvwp : Bool := true)
  | hotlistAbandon
  | localListRead
  | localListRemove (nvwp : Bool := true)
  | findCard
  | fareBegin (nvwp : Bool := true)
  | fareSection (nvwp : Bool := true)
  | fareCommit (nvwp : Bool := true)
  | incidentAdd (nvwp : Bool := true)
  | incidentClose (nvwp : Bool := true)
  | incidentRemove (nvwp : Bool := true)
  | incidentRead
  | resetPart
  | initialiseStore (nvwp : Bool := true)
  | initialiseStoreClear
  /-- INITIALISE_STORE_END with the first clearing step (0 for step 1) whose block failed its read-back, if any (R199, log 14). -/
  | initialiseStoreEnd (failed : Option (Fin 4))
  | configureLane (nvwp : Bool := true)
  | laneService (nvwp : Bool := true)
  | holdOpen
  | releaseHold
  | grantPassage
  | readLane
  | resetLane
  | setNoticeLevels (nvwp : Bool := true)
  | loadKey (nvwp : Bool := true)
  | fareVerificationEnd
  /-- HOTLIST_VERIFICATION_END with the outcome of the read-back (R87, log 14). -/
  | hotlistVerificationEnd (good : Bool)
  | headReady (n : LaneId) (side : Side)
  | headFaultReport (n : LaneId) (side : Side)
  | headAnswerTimeout (n : LaneId) (side : Side)
  | faultPoll (n : LaneId) (side : Side)
  | headPresent (n : LaneId) (side : Side) (id : Identity)
  | headMultiple (n : LaneId) (side : Side)
  | headGone (n : LaneId) (side : Side)
  | headData (n : LaneId) (side : Side) (image : List Byte)
  | headLost (n : LaneId) (side : Side)
  | headDone (n : LaneId) (side : Side)
  | headLostBefore (n : LaneId) (side : Side)
  | headLostDuring (n : LaneId) (side : Side)
  | admissionRequest (n : LaneId)
  | journalAdmissionCheck (n : LaneId)
  | hotlistLookup (n : LaneId)
  | claimRequest (n : LaneId)
  | claimRelease (n : LaneId)
  | resolutionRequest (n : LaneId)
  | reservationRequest (n : LaneId)
  | grantPush (n : LaneId)
  | seenUpdate (n : LaneId)
  | passageForfeitureUpdate
  | localAddition (n : LaneId)
  | incidentQuery (n : LaneId)
  | journalAppend (n : LaneId)
  | noticeEvent
  | openTimerExpiry (n : LaneId)
  | motionTimerExpiry (n : LaneId)
  /-- ACTUATOR_REPORT with the new levels of GSAn and GSBn, true for high (R114). -/
  | actuatorReport (n : LaneId) (gsa gsb : Bool)
  | beamBroken (n : LaneId) (side : Side)
  | beamClear (n : LaneId) (side : Side)
  | passageCompleted (n : LaneId)
  /-- EMRGN_CHANGE with the new level, true for low (R139). -/
  | emrgnChange (low : Bool)
  | emergencyAssertionTaken
  | emergencyReleaseTaken
  | gateTakesAssertion (n : LaneId)
  | gateTakesRelease (n : LaneId)
  | engineTakesAssertion (n : LaneId)
  | engineTakesRelease (n : LaneId)
  | incidentTakesAssertion
  | incidentTakesRelease
  | clockSecond
  | fareTableActivation
  | slotExpiry
  | seenSweep
  deriving DecidableEq, Repr

end Sys2Proof
end

