-- ==== Sys2Proof/WellFormed.lean ====
section
/-! DEFINITION. Which commands are well formed. -/

namespace Sys2Proof

/-- DATA carries a whole 64-byte record (01, section 1.2); every other operand is in range by its type. -/
def Instr.wellFormed : Instr → Bool
  | .headData _ _ image => image.length == 64
  | _ => true

end Sys2Proof
end

