-- ==== Sys2Proof/Decode.lean ====
section
/-! DEFINITION. The table gives no row any bits (98_reader: n_rows_with_fixed is 0), so no word spells a command. -/

namespace Sys2Proof

/-- No row of spec/opcode_table.json has an encoding: every word is answered none. -/
def decodeTableWord (_nbits _w : Nat) : Option Instr := none

end Sys2Proof
end

