-- ==== Sys2Proof/Config.lean ====
section
/-! DEFINITION. What the part fixes (capacities and periods of 00_scope, section 6) and the values the spec leaves open. -/

namespace Sys2Proof.Config

/-- Seen-Card Table capacity (R75). -/
def seenCapacity : Nat := 8192
/-- Identities one downloaded bank may hold (R82). -/
def bankCapacity : Nat := 16384
/-- Local hot list capacity (R90). -/
def localCapacity : Nat := 64
/-- Incident List capacity (R144). -/
def incidentCapacity : Nat := 16
/-- Records the Journal holds at most (R156). -/
def journalCapacity : Nat := 32768
/-- The count from which the write reserve begins (R156). -/
def reserveStart : Nat := 32752
/-- The first of the last 16 sequence numbers (R164). -/
def lastSequences : Nat := 4294967280
/-- The last 32-bit value: the last sequence number, the last station time, the stop of 32-bit counters. -/
def max32 : Nat := 4294967295
/-- Places of the request queue (R172). -/
def requestPlaces : Nat := 4
/-- OVERRUN replies waiting at most (R172). -/
def overrunPlaces : Nat := 8
/-- Longest frame body in bytes (R169). -/
def maxBody : Nat := 1100
/-- Head answer timer in milliseconds (R9, R10, R12). -/
def headTimer : Nat := 250
/-- Period of POLL in FAULT in milliseconds (R12). -/
def faultPollPeriod : Nat := 1000
/-- Settling time of the emergency line in milliseconds (R139). -/
def settlingTime : Nat := 50
/-- Where the transaction counter ends (R29). -/
def lastCounter : Nat := 16777215

/-- The block transform of the Card Check Unit: under each key material a permutation of the 64-bit values. R16: "The block transform
is a fixed keyed permutation of 64-bit values. This document does not give the transform." FREE VALUE: nothing but that constrains it.
DESIGN CHOICE, safe; log 13. -/
opaque blockTransform : List Byte → Equiv.Perm (BitVec 64)

/-- A value the spec leaves open, fresh at each use (its argument is the model's counter State.free).
FREE VALUE. DESIGN CHOICE, safe; log 15, 16, 17. -/
opaque freeValue : Nat → Nat

/-- The byte READ STATUS gives for the raw level of EMRGN, whose coding section 11.1 does not list.
FREE VALUE. DESIGN CHOICE, safe; log 18. -/
opaque rawLevelCode : Bool → Byte

/-- What READ STATUS gives for a sequence once the next sequence is exhausted. FREE VALUE. DESIGN CHOICE, safe; log 18. -/
opaque exhaustedSequence : Nat

/-- The four bytes of a TIME record's step above 2,147,483,647 s, by the step. FREE VALUE. DESIGN CHOICE, safe; log 47. -/
opaque wideStep : Nat → BitVec 32

end Sys2Proof.Config
end

