-- ==== Sys2Proof/Machine/State.lean ====
section
/-! DEFINITION. Everything the part holds, as plain data, block by block (00_scope, section 3), and the part after reset. -/

namespace Sys2Proof.Machine

/-! ### Names of states, outcomes and codes (11, sections 11.1 and 11.8) -/

/-- ENTRY (street to platform) or EXIT. -/
inductive Direction where
  | entry
  | exit
  deriving DecidableEq, Repr

/-- The direction mode of a lane (R111). -/
inductive DirMode where
  | entry
  | exit
  | both
  deriving DecidableEq, Repr

/-- Treatment of an incident (R144). -/
inductive Treatment where
  | waive
  | minimum
  deriving DecidableEq, Repr

/-- Origin of an incident: LOCAL or LOADED (R144). -/
inductive IncidentOrigin where
  | fromLine
  | loaded
  deriving DecidableEq, Repr

/-- Product schemes (R48). -/
inductive Scheme where
  | storedValue
  | periodPass
  | rideCount
  | staff
  | free
  deriving DecidableEq, Repr

/-- Fare bands (R50). -/
inductive Band where
  | peak
  | offpeak
  deriving DecidableEq, Repr

/-- Grant kinds (R125). -/
inductive GrantKind where
  | paid
  | reGranted
  | recovered
  | staff
  deriving DecidableEq, Repr

/-- Outcomes of a seen entry (R75). -/
inductive SeenOutcome where
  | granted
  | passed
  | unused
  | refused
  | reGranted
  deriving DecidableEq, Repr

/-- Gate states (R117). -/
inductive GateState where
  | outOfService
  | closed
  | opened
  | closing
  | heldOpen
  | fault
  deriving DecidableEq, Repr

/-- Wanted position and gate command (R114). -/
inductive Position where
  | closed
  | opened
  deriving DecidableEq, Repr

/-- Actuator report (R114). -/
inductive Report where
  | opened
  | closed
  | between
  deriving DecidableEq, Repr

/-- Direction lock (R124). -/
inductive Lock where
  | free
  | s
  | p
  deriving DecidableEq, Repr

/-- Passage Monitor states (R129). -/
inductive PassageState where
  | clear
  | s1
  | spIn
  | p2
  | p1
  | psOut
  | s2
  deriving DecidableEq, Repr

/-- Phases of a transaction (R19, R20). -/
inductive Phase where
  | idle
  | admitting
  | reading
  | checking
  | resolving
  | writing
  | finishing
  deriving DecidableEq, Repr

/-- Head states (R4). -/
inductive HeadState where
  | polling
  | ready
  | fault
  deriving DecidableEq, Repr

/-- Last card presence, and the presence of an offer (R4, R19). -/
inductive Presence where
  | none
  | card (id : Identity)
  | multiple
  deriving DecidableEq, Repr

/-- The thirty refusal codes, in the order of section 11.8. -/
inductive RefusalCode where
  | partNotReady
  | laneClosed
  | emergency
  | oppositeFlow
  | laneFull
  | journalFull
  | twoCards
  | readLost
  | readFault
  | unknownFormat
  | identityMismatch
  | unknownKey
  | badCheckValue
  | hotlisted
  | inUseElsewhere
  | wrongDirection
  | tearConflict
  | counterRegression
  | counterExhausted
  | cardExpired
  | unknownProduct
  | notAdmitted
  | productNotValid
  | passback
  | exitWithoutEntry
  | insufficientFunds
  | noRides
  | recoveryFull
  | cardRemoved
  | laneReset
  deriving DecidableEq, Repr

/-- Sense keys (R176); an empty record has no key. -/
inductive SenseKey where
  | notReady
  | illegalRequest
  | orderError
  | resource
  | aborted
  deriving DecidableEq, Repr

/-- The sixteen notice kinds, in the order of their codes (09, section 9.6). -/
inductive NoticeKind where
  | cloneAlarm
  | counterfeitAlarm
  | emergencyChange
  | forcedPassage
  | gateFault
  | headFault
  | hotlistHit
  | tearUnresolved
  | journalLimit
  | unpaidPassage
  | counterflow
  | tailgateSuspect
  | journalThresholdB
  | journalThresholdA
  | localHotlistEvict
  | tableActivated
  deriving DecidableEq, Repr

/-- Addressee of a request, condition or notice: the part, or a lane. -/
inductive Target where
  | part
  | lane (n : LaneId)
  deriving DecidableEq, Repr

/-- A change of the emergency line handed to a block (R140, R141). -/
inductive LineChange where
  | assertion
  | release
  deriving DecidableEq, Repr

/-! ### The Station Link (chapter 9) -/

/-- The receive framer (R169). -/
inductive Framer where
  | hunt
  | body (received : List Byte)
  | escape (received : List Byte)
  deriving DecidableEq, Repr

/-- A reply in the reply list: its body without CRC, and whether the SLI made it as an OVERRUN reply (R172, R180). -/
structure Reply where
  overrun : Bool
  body : List Byte
  deriving DecidableEq, Repr

/-- Station Link Interface (R168 to R172, R180). Request bodies are held without their CRC; `sending` holds the bytes on the line. -/
structure Link where
  rate : Nat
  framer : Framer
  discarded : Nat
  overrun : Nat
  requests : List (List Byte)
  replies : List Reply
  completion : Option (List Byte)
  sending : Option (List Byte)
  deriving DecidableEq, Repr

/-- A sense record (R176); the detail is its code of section 11.8, or the command code under ABORTED (R204). -/
structure Sense where
  key : SenseKey
  detail : Nat
  field : Option Nat
  info : Option Nat
  deriving DecidableEq, Repr

/-- The operation the tracker holds: RUNNING, or ENDED when `ended` is set (R178). -/
structure LongOp where
  tag : Byte
  command : Byte
  ended : Bool
  deriving DecidableEq, Repr

/-- How the last operation left RUNNING (R179). -/
inductive CompletionStatus where
  | good
  | check
  | aborted
  deriving DecidableEq, Repr

/-- The last-completion record (R179). -/
structure LastCompletion where
  tag : Byte
  command : Byte
  status : CompletionStatus
  deriving DecidableEq, Repr

/-- Request Processor (R173 to R179) and the progress of INITIALISE STORE (R199). -/
structure Processor where
  partSense : Option Sense
  laneSenses : Vector (Option Sense) 8
  tracker : Option LongOp
  lastCompletion : Option LastCompletion
  /-- Clearing steps made by a RUNNING INITIALISE STORE, 0 to 4. -/
  initStage : Nat
  deriving DecidableEq, Repr

/-! ### Lanes (chapters 1, 2 and 6) -/

/-- Lane configuration (R111). Motion timeout and tailgate limit are in tenths of a second. -/
structure LaneConfig where
  mode : DirMode
  level : Nat
  openTime : Nat
  motionTimeout : Nat
  tailgate : Nat
  service : Bool
  deriving DecidableEq, Repr

/-- Messages from a port to its head that it expects an answer to (01, section 1.2). -/
inductive HeadMessage where
  | poll
  | read
  | write (image : List Byte)
  deriving DecidableEq, Repr

/-- The RELEASE message (R11). -/
inductive Release where
  | go
  | stop
  deriving DecidableEq, Repr

/-- An outstanding exchange with the milliseconds left of its head answer timer (R9, R10, R12). -/
structure Exchange where
  message : HeadMessage
  timer : Nat
  deriving DecidableEq, Repr

/-- A Head Port (R4 to R13). `gone`: a GONE since the transaction's READ with no PRESENT of its identity after it;
`dropped`: FAULT entered, or READY taken in READY, since that READ (R8). `releases` are the RELEASEs sent since power-on, oldest first (R11, log 32). -/
structure Port where
  state : HeadState
  presence : Presence
  exchange : Option Exchange
  gone : Bool
  dropped : Bool
  pollTimer : Nat
  releases : List Release
  deriving DecidableEq, Repr

/-- Where a transaction stands inside its phase: the answer it waits for (R20; the model's own, log 7). -/
inductive Awaiting where
  | nothing
  | admission
  | journal
  | hotlist
  | claim
  | resolution
  | incident
  | reservation
  deriving DecidableEq, Repr

/-- What FINISHING has still to do, in the order of R39 (R74 for the addition; the model's own, log 4). -/
inductive Duty where
  | localAddition
  | cardRecord
  | seenUpdate
  | push
  | releaseClaim
  deriving DecidableEq, Repr

/-- The answer of a LANDED resolution: the torn write's direction and new counter (R28, R40). -/
structure Landed where
  direction : Direction
  newCounter : Nat
  deriving DecidableEq, Repr

/-- Lane Engine: the lane transaction context (R19), its place in the phases, and its copy of the emergency line (R143). -/
structure Engine where
  phase : Phase
  awaiting : Awaiting
  duties : List Duty
  side : Option Side
  presence : Option Presence
  direction : Option Direction
  admissionTime : Option Nat
  boundVersion : Option Nat
  boundLevel : Option Nat
  identity : Option Identity
  image : Option (List Byte)
  verified : Bool
  grantKind : Option GrantKind
  charge : Option Nat
  newImage : Option (List Byte)
  refusal : Option RefusalCode
  emergency : Bool
  clone : Bool
  counterfeit : Bool
  related : Option Nat
  slot : Option SlotId
  landed : Option Landed
  cardSeq : Option Nat
  grantQueued : Bool
  lineTaken : Bool
  lineIn : List LineChange
  deriving DecidableEq, Repr

/-- A grant (R125). -/
structure Grant where
  identity : Option Identity
  direction : Direction
  kind : GrantKind
  time : Nat
  seq : Option Nat
  deriving DecidableEq, Repr

/-- A completed passage handed to the Gate Controller, occupancy in milliseconds (R130). -/
structure Passage where
  direction : Direction
  occupancy : Nat
  deriving DecidableEq, Repr

/-- Gate Controller (R114 to R128). Timers hold the milliseconds left, none when stopped. -/
structure Gate where
  state : GateState
  staffHold : Bool
  emergency : Bool
  command : Position
  motion : Option Nat
  openTimer : Option Nat
  /-- direction mode in force -/
  mode : DirMode
  lock : Lock
  place : Bool
  queue : List Grant
  lineIn : List LineChange
  passages : List Passage
  deriving DecidableEq, Repr

/-- Passage Monitor (R129 to R131); the occupancy is absent in CLEAR. -/
structure Monitor where
  state : PassageState
  resync : Bool
  occupancy : Option Nat
  deriving DecidableEq, Repr

/-- The lane's input pins: a beam is true when broken, an actuator line when high (00_scope, 7.1). -/
structure LaneInputs where
  beamS : Bool
  beamP : Bool
  gsa : Bool
  gsb : Bool
  deriving DecidableEq, Repr

/-- Passage counters and assertion counts (R135). -/
structure Counters where
  paid : Nat
  tailgateSuspect : Nat
  held : Nat
  emergency : Nat
  forced : Nat
  counterflow : Nat
  unpaid : Nat
  balk : Nat
  forfeited : Nat
  emergencyEntry : Nat
  emergencyExit : Nat
  deriving DecidableEq, Repr

/-- Which request a lane is being reset by (R175, R197). -/
inductive ResetKind where
  | lane
  | part
  deriving DecidableEq, Repr

/-- An offer that waits at the port of a side, with the presence it holds (R5 to R7). `inReset`: made while its lane was being reset
(R43, R137, log 25). -/
structure Offer where
  side : Side
  presence : Presence
  inReset : Bool
  deriving DecidableEq, Repr

/-- One lane and all its per-lane blocks. `waiting` lists the offers that wait at its two ports, longest first (R6). -/
structure Lane where
  config : LaneConfig
  refusals : Vector Nat 30
  engine : Engine
  portS : Port
  portP : Port
  waiting : List Offer
  gate : Gate
  monitor : Monitor
  inputs : LaneInputs
  counters : Counters
  resetting : Option ResetKind
  deriving DecidableEq, Repr

/-! ### Shared tables (chapters 1, 3, 4, 5 and 7) -/

/-- A seen entry (R75). -/
structure SeenEntry where
  identity : Identity
  counter : Nat
  time : Nat
  lane : LaneId
  direction : Direction
  outcome : SeenOutcome
  cloneSuspect : Bool
  tearPending : Option SlotId
  deriving DecidableEq, Repr

/-- A passage (`passed`) or forfeiture update on its way to the Seen-Card Table, with the station time of the passage or forfeiture
(R52, R77, R79). -/
structure GrantUpdate where
  passed : Bool
  identity : Identity
  lane : LaneId
  direction : Direction
  time : Nat
  deriving DecidableEq, Repr

/-- Seen-Card Table, least recent entry first (R75), with the updates and the sweep that wait to be taken. -/
structure SeenTable where
  entries : List SeenEntry
  inbox : List GrantUpdate
  sweepDue : Bool
  deriving DecidableEq, Repr

/-- A downloaded bank: its version, or none, and its identities (R82). -/
structure Bank where
  version : Option Nat
  ids : List Identity
  deriving DecidableEq, Repr

/-- Hot-list load state; LOADING and VERIFYING hold the declared version and total and the running count (R82). -/
inductive HotLoad where
  | idle
  | loading (version total running : Nat) (last : Option Identity)
  | verifying (version total running : Nat)
  deriving DecidableEq, Repr

/-- An entry of the local hot list (R90). -/
structure LocalEntry where
  identity : Identity
  time : Nat
  lane : LaneId
  deriving DecidableEq, Repr

/-- Hot List Store (R82, R90); the local list is oldest first. -/
structure HotStore where
  active : Bank
  standby : Bank
  complete : Bool
  load : HotLoad
  locals : List LocalEntry
  deriving DecidableEq, Repr

/-- The fields of a write that a RESERVED or OPEN slot holds (R96). -/
structure SlotFields where
  identity : Identity
  lane : LaneId
  direction : Direction
  oldCounter : Nat
  newCounter : Nat
  charge : Nat
  newImage : List Byte
  deriving DecidableEq, Repr

/-- A recovery slot; an OPEN slot's write and expiry time are absent while pending (R96). -/
inductive Slot where
  | free
  | reserved (f : SlotFields)
  | opened (f : SlotFields) (emergency : Bool) (writeTime expiry : Option Nat)
  deriving DecidableEq, Repr

/-- A present product entry (R48). -/
structure Product where
  scheme : Scheme
  privilege : Nat
  discount : Nat
  floor : Nat
  transferWindow : Nat
  cap : Nat
  deriving DecidableEq, Repr

/-- A verified fare table (R47). The matrices hold 256 entries, origin zone major; maximum fares are 16 PEAK, then 16 OFFPEAK. -/
structure FareTable where
  version : Nat
  station : Nat
  zone : Nat
  minEntry : Nat
  minFare : Nat
  passback : Nat
  reentry : Nat
  bands : List (Nat × Band)
  peakFares : List Nat
  offpeakFares : List Nat
  maxFares : List Nat
  products : List (Option Product)
  deriving DecidableEq, Repr

/-- The pending table with its load state (R49). Sections are held as received. -/
inductive PendingTable where
  | none
  | loading (version : Nat) (sections : Vector (Option (List Byte)) 6)
  | verifying (version : Nat) (sections : Vector (Option (List Byte)) 6) (effective : Nat)
  | waiting (table : FareTable) (effective : Nat)
  deriving DecidableEq, Repr

/-- Fare Store (R49). -/
structure FareStore where
  active : Option FareTable
  pending : PendingTable
  retiring : Option FareTable
  deriving DecidableEq, Repr

/-- An incident (R144). -/
structure Incident where
  number : Nat
  station : Nat
  start : Nat
  finish : Option Nat
  treatment : Treatment
  origin : IncidentOrigin
  deriving DecidableEq, Repr

/-- Incident List, oldest first (R144). -/
structure IncidentList where
  entries : List Incident
  next : Nat
  lineIn : List LineChange
  deriving DecidableEq, Repr

/-- A loaded key slot (R14). -/
structure Key where
  generation : Nat
  material : List Byte
  deriving DecidableEq, Repr

/-! ### The Journal (chapter 8) -/

/-- The five flags of a record (R152). -/
structure RecordFlags where
  emergency : Bool
  clone : Bool
  counterfeit : Bool
  unverified : Bool
  gapFollows : Bool
  deriving DecidableEq, Repr

/-- Outcome of a CARD record (R41). -/
inductive CardOutcome where
  | granted
  | reGranted
  | refused
  deriving DecidableEq, Repr

/-- Content of a CARD record (R41). -/
structure CardBody where
  outcome : CardOutcome
  refusal : Option RefusalCode
  identity : Identity
  direction : Direction
  product : Nat
  counterRead : Nat
  counterWritten : Option Nat
  charge : Nat
  balanceBefore : Int
  balanceAfter : Int
  fareVersion : Nat
  originStation : Nat
  legs : Nat
  related : Option Nat
  deriving DecidableEq, Repr

/-- Outcome of a TEAR record (R104). -/
inductive TearOutcome where
  | landed
  | notLanded
  | unresolved
  | conflict
  deriving DecidableEq, Repr

/-- Content of a TEAR record (R104). -/
structure TearBody where
  outcome : TearOutcome
  identity : Identity
  oldCounter : Nat
  newCounter : Nat
  charge : Nat
  lane : LaneId
  direction : Direction
  deriving DecidableEq, Repr

/-- Classes that write a PASSAGE record (R132). -/
inductive PassageClass where
  | unpaid
  | forced
  | counterflow
  | tailgateSuspect
  deriving DecidableEq, Repr

/-- Causes of forfeiture (R128). -/
inductive ForfeitCause where
  | timer
  | fault
  | service
  | reset
  | emergency
  deriving DecidableEq, Repr

/-- Source of a LANE fault record (R153). -/
inductive FaultSource where
  | head (side : Side)
  | gate
  deriving DecidableEq, Repr

/-- Causes of a LANE record (R153). -/
inductive LaneCause where
  | serviceOn
  | serviceOff
  | fault (source : FaultSource)
  | reset
  | configuration (mode : DirMode) (level openTime motionTimeout tailgate : Nat)
  deriving DecidableEq, Repr

/-- What a record carries beside its common fields (08, section 8.2; 11, section 11.7). -/
inductive RecordBody where
  | card (b : CardBody)
  | tear (b : TearBody)
  | passage (cls : PassageClass) (direction : Direction) (occupancy : Nat)
  | unusedGrant (cause : ForfeitCause) (g : Grant)
  | staffGrant (direction : Direction) (time : Nat)
  | emergencyStart
  | emergencyEnd (assertedAt : Option Nat)
  | emergencySummary (entry exit : Nat)
  | listSwap (version count purged : Nat)
  | listLocalAdd (id : Identity)
  | listLocalEvict (id : Identity)
  | listLocalRemove (id : Identity)
  | table (version : Nat)
  | lane (cause : LaneCause)
  | timePowerOn
  | timeSet (time : Nat)
  | timeStep (time : Nat) (step : Int)
  | gap (count first last : Nat)
  deriving DecidableEq, Repr

/-- A stored record; no lane stands for FFH, the part as a whole (R152). -/
structure JRecord where
  seq : Nat
  time : Nat
  lane : Option LaneId
  flags : RecordFlags
  body : RecordBody
  deriving DecidableEq, Repr

/-- Journal (R151). The next sequence 4,294,967,296 stands for exhausted. -/
structure Journal where
  records : List JRecord
  next : Nat
  lastTime : Nat
  gapCount : Nat
  firstDrop : Option Nat
  lastDrop : Option Nat
  limit : Nat
  thresholdA : Nat
  thresholdB : Nat
  deriving DecidableEq, Repr

/-! ### Part-wide services (chapters 7, 9 and 10) -/

/-- Station Clock (R188); `phase` is the running second's milliseconds (log 3). -/
structure Clock where
  time : Nat
  valid : Bool
  hold : Nat
  phase : Nat
  deriving DecidableEq, Repr

/-- An event raised at the Notice Unit; its data are coded as section 11.8 lays down. -/
structure Event where
  kind : NoticeKind
  target : Target
  data : List Byte
  deriving DecidableEq, Repr

/-- A latched condition (R181). -/
structure Condition where
  kind : NoticeKind
  target : Target
  count : Nat
  first : Nat
  last : Nat
  deriving DecidableEq, Repr

/-- A pending notice (R182). -/
structure PendingNotice where
  kind : NoticeKind
  target : Target
  count : Nat
  first : Nat
  last : Nat
  data : List Byte
  deriving DecidableEq, Repr

/-- Notice Unit (R181 to R183); `inbox` holds events raised and not yet taken (log 5). -/
structure Notices where
  inbox : List Event
  conditions : List Condition
  pending : List PendingNotice
  levels : Vector Nat 16
  deriving DecidableEq, Repr

/-- Emergency Input (R139); `taken` is true for ASSERTED. -/
structure EmergencyInput where
  rawLow : Bool
  taken : Bool
  settling : Option Nat
  assertedAt : Option Nat
  owed : Bool
  deriving DecidableEq, Repr

/-- Everything the part holds, and the commands that wait. -/
structure State where
  pending : List Instr
  free : Nat
  powered : Bool
  nvwp : Bool
  link : Link
  proc : Processor
  lanes : Vector Lane 8
  claims : Vector (Option Identity) 8
  seen : SeenTable
  hot : HotStore
  recovery : Vector Slot 8
  fare : FareStore
  incidents : IncidentList
  keys : Vector (Option Key) 4
  journal : Journal
  window : Nat
  retention : Nat
  clock : Clock
  notices : Notices
  emergency : EmergencyInput
  deriving DecidableEq, Repr

/-- No step of the part stops it with a fault: there is no reason to name, so the type has no constructor. Safe. -/
inductive Fault where
  deriving DecidableEq, Repr

/-- Why a command is turned away. -/
inductive Refusal where
  /-- Raised by exec's arm of a command that has no meaning yet. Safe. -/
  | notModelled (mnemonic : String)
  /-- Raised by execHeadData for a DATA that does not carry 64 bytes, which no head sends (01, section 1.2). Safe; log 40. -/
  | malformedRecord
  deriving DecidableEq, Repr

/-! ### The part after reset -/

/-- The context in IDLE, every field absent (R19), with the line CLEAR (R143). -/
def Engine.reset : Engine :=
  { phase := .idle, awaiting := .nothing, duties := [], side := none, presence := none, direction := none, admissionTime := none,
    boundVersion := none, boundLevel := none, identity := none, image := none, verified := false, grantKind := none,
    charge := none, newImage := none, refusal := none, emergency := false, clone := false, counterfeit := false,
    related := none, slot := none, landed := none, cardSeq := none, grantQueued := false, lineTaken := false, lineIn := [] }

/-- A port at power-on: POLLING, presence NONE, POLL sent (R4). -/
def Port.reset : Port :=
  { state := .polling, presence := .none, exchange := some ⟨.poll, Config.headTimer⟩, gone := false, dropped := false,
    pollTimer := Config.faultPollPeriod, releases := [] }

/-- Lane configuration as delivered (R111). -/
def LaneConfig.delivered : LaneConfig :=
  { mode := .both, level := 3, openTime := 8, motionTimeout := 15, tailgate := 18, service := false }

/-- All counters at 0 (R135). -/
def Counters.zero : Counters :=
  { paid := 0, tailgateSuspect := 0, held := 0, emergency := 0, forced := 0, counterflow := 0, unpaid := 0, balk := 0,
    forfeited := 0, emergencyEntry := 0, emergencyExit := 0 }

/-- A lane after the first power-on (R138), its inputs open: beams clear, actuator lines high, read as BETWEEN (log 12). -/
def Lane.reset : Lane :=
  { config := LaneConfig.delivered
    refusals := Vector.replicate 30 0
    engine := Engine.reset
    portS := Port.reset
    portP := Port.reset
    waiting := []
    gate := { state := .outOfService, staffHold := false, emergency := false, command := .closed, motion := some 1500,
              openTimer := none, mode := .both, lock := .free, place := false, queue := [], lineIn := [], passages := [] }
    monitor := { state := .clear, resync := false, occupancy := none }
    inputs := { beamS := false, beamP := false, gsa := true, gsb := true }
    counters := Counters.zero
    resetting := none }

/-- The level table as delivered (R183 and the table of section 9.6). -/
def deliveredLevels : Vector Nat 16 := ⟨#[7, 7, 7, 6, 6, 6, 5, 5, 5, 4, 4, 3, 3, 2, 2, 1], rfl⟩

/-- Flags all clear. -/
def RecordFlags.clear : RecordFlags := ⟨false, false, false, false, false⟩

/-- A part as delivered, right after its first power-on: nonvolatile state as delivered, volatile state as at power-on, and the
TIME record of power-on in the journal (R165). Log 12. -/
def State.reset : State :=
  { pending := []
    free := 0
    powered := true
    nvwp := true
    link := { rate := 921600, framer := .hunt, discarded := 0, overrun := 0, requests := [], replies := [],
              completion := none, sending := none }
    proc := { partSense := none, laneSenses := Vector.replicate 8 none, tracker := none, lastCompletion := none, initStage := 0 }
    lanes := Vector.replicate 8 Lane.reset
    claims := Vector.replicate 8 none
    seen := { entries := [], inbox := [], sweepDue := false }
    hot := { active := ⟨none, []⟩, standby := ⟨none, []⟩, complete := false, load := .idle, locals := [] }
    recovery := Vector.replicate 8 .free
    fare := { active := none, pending := .none, retiring := none }
    incidents := { entries := [], next := 1, lineIn := [] }
    keys := Vector.replicate 4 none
    journal := { records := [⟨1, 0, none, RecordFlags.clear, .timePowerOn⟩], next := 2, lastTime := 0, gapCount := 0,
                 firstDrop := none, lastDrop := none, limit := 30720, thresholdA := 24576, thresholdB := 28672 }
    window := 20
    retention := 240
    clock := { time := 0, valid := false, hold := 0, phase := 0 }
    notices := { inbox := [], conditions := [], pending := [], levels := deliveredLevels }
    emergency := { rawLow := false, taken := false, settling := none, assertedAt := none, owed := false } }

end Sys2Proof.Machine
end

