-- ==== Sys2Proof/Machine/Bytes.lean ====
section
/-! DEFINITION. Byte order, codes of the names (11, section 11.1), the frame CRC and the frame's bytes on the line. -/

namespace Sys2Proof.Machine

/-- The low n bytes of v, most significant first (00_scope, 5.1). -/
def be : Nat → Nat → List Byte
  | 0, _ => []
  | n + 1, v => BitVec.ofNat 8 (v / 256 ^ n) :: be n v

/-- The unsigned number whose bytes, most significant first, are given. -/
def ofBe (bs : List Byte) : Nat := bs.foldl (fun acc b => acc * 256 + b.toNat) 0

/-- A signed value in n bytes, two's complement (R200). -/
def beSigned (n : Nat) (v : Int) : List Byte := be n (v % (256 ^ n : Nat)).toNat

/-- The signed value of bytes in two's complement (R200). -/
def ofBeSigned (bs : List Byte) : Int :=
  if 2 * ofBe bs < 256 ^ bs.length then (ofBe bs : Int) else (ofBe bs : Int) - (256 ^ bs.length : Nat)

/-- The byte at an offset; 0 past the end. -/
def byteAt (bs : List Byte) (k : Nat) : Byte := bs.getD k 0

/-- The n bytes from an offset. -/
def slice (bs : List Byte) (k n : Nat) : List Byte := (bs.drop k).take n

/-- The unsigned field of n bytes at an offset. -/
def fieldAt (bs : List Byte) (k n : Nat) : Nat := ofBe (slice bs k n)

/-- n bytes of 00H, for what a layout leaves unassigned or not in use (R200). -/
def zeros (n : Nat) : List Byte := List.replicate n 0

def idBytes (id : Identity) : List Byte := be 8 id.toNat
def idOfBytes (bs : List Byte) : Identity := BitVec.ofNat 64 (ofBe bs)
def boolByte (b : Bool) : Byte := if b then 1 else 0

/-- An optional number of n bytes: zeros when absent, its presence being told by a presence bit (R200). -/
def optBytes (n : Nat) : Option Nat → List Byte
  | none => zeros n
  | some v => be n v

/-! ### Codes (11, section 11.1) -/

def Direction.code : Direction → Byte
  | .entry => 0
  | .exit => 1
def Direction.ofCode : Byte → Option Direction := fun b => if b = 0 then some .entry else if b = 1 then some .exit else none

def sideCode : Side → Byte
  | .s => 0
  | .p => 1

/-- ENTRY for side S and EXIT for side P (R19). -/
def sideDirection : Side → Direction
  | .s => .entry
  | .p => .exit

def Target.code : Target → Byte
  | .part => 0x0F
  | .lane n => BitVec.ofNat 8 n.val

def DirMode.code : DirMode → Byte
  | .entry => 0
  | .exit => 1
  | .both => 2
def DirMode.ofCode : Byte → Option DirMode :=
  fun b => if b = 0 then some .entry else if b = 1 then some .exit else if b = 2 then some .both else none

def Treatment.code : Treatment → Byte
  | .waive => 0
  | .minimum => 1
def Treatment.ofCode : Byte → Option Treatment := fun b => if b = 0 then some .waive else if b = 1 then some .minimum else none

def IncidentOrigin.code : IncidentOrigin → Byte
  | .fromLine => 0
  | .loaded => 1

def Scheme.ofCode : Nat → Option Scheme
  | 0 => some .storedValue
  | 1 => some .periodPass
  | 2 => some .rideCount
  | 3 => some .staff
  | 4 => some .free
  | _ => none

def Band.ofCode : Nat → Option Band
  | 0 => some .peak
  | 1 => some .offpeak
  | _ => none

def GrantKind.code : GrantKind → Byte
  | .paid => 0
  | .reGranted => 1
  | .recovered => 2
  | .staff => 3

def SeenOutcome.code : SeenOutcome → Byte
  | .granted => 0
  | .passed => 1
  | .unused => 2
  | .refused => 3
  | .reGranted => 4

def GateState.code : GateState → Byte
  | .outOfService => 0
  | .closed => 1
  | .opened => 2
  | .closing => 3
  | .heldOpen => 4
  | .fault => 5

def Position.code : Position → Byte
  | .closed => 0
  | .opened => 1

def Report.code : Report → Byte
  | .opened => 0
  | .closed => 1
  | .between => 2

def Lock.code : Lock → Byte
  | .free => 0
  | .s => 1
  | .p => 2

def PassageState.code : PassageState → Byte
  | .clear => 0
  | .s1 => 1
  | .spIn => 2
  | .p2 => 3
  | .p1 => 4
  | .psOut => 5
  | .s2 => 6

def Phase.code : Phase → Byte
  | .idle => 0
  | .admitting => 1
  | .reading => 2
  | .checking => 3
  | .resolving => 4
  | .writing => 5
  | .finishing => 6

def HeadState.code : HeadState → Byte
  | .polling => 0
  | .ready => 1
  | .fault => 2

def Presence.code : Presence → Byte
  | .none => 0
  | .card _ => 1
  | .multiple => 2

/-- Index of a refusal code in the order of section 11.8; the code itself is one above it. -/
def RefusalCode.index : RefusalCode → Fin 30
  | .partNotReady => 0
  | .laneClosed => 1
  | .emergency => 2
  | .oppositeFlow => 3
  | .laneFull => 4
  | .journalFull => 5
  | .twoCards => 6
  | .readLost => 7
  | .readFault => 8
  | .unknownFormat => 9
  | .identityMismatch => 10
  | .unknownKey => 11
  | .badCheckValue => 12
  | .hotlisted => 13
  | .inUseElsewhere => 14
  | .wrongDirection => 15
  | .tearConflict => 16
  | .counterRegression => 17
  | .counterExhausted => 18
  | .cardExpired => 19
  | .unknownProduct => 20
  | .notAdmitted => 21
  | .productNotValid => 22
  | .passback => 23
  | .exitWithoutEntry => 24
  | .insufficientFunds => 25
  | .noRides => 26
  | .recoveryFull => 27
  | .cardRemoved => 28
  | .laneReset => 29

/-- Refusal codes run from 01H to 1EH (11, section 11.8). -/
def RefusalCode.code (r : RefusalCode) : Byte := BitVec.ofNat 8 (r.index.val + 1)

def SenseKey.code : SenseKey → Byte
  | .notReady => 1
  | .illegalRequest => 2
  | .orderError => 3
  | .resource => 4
  | .aborted => 5

/-- Kind codes 00H to 0FH (11, section 11.8). -/
def NoticeKind.index : NoticeKind → Fin 16
  | .cloneAlarm => 0
  | .counterfeitAlarm => 1
  | .emergencyChange => 2
  | .forcedPassage => 3
  | .gateFault => 4
  | .headFault => 5
  | .hotlistHit => 6
  | .tearUnresolved => 7
  | .journalLimit => 8
  | .unpaidPassage => 9
  | .counterflow => 10
  | .tailgateSuspect => 11
  | .journalThresholdB => 12
  | .journalThresholdA => 13
  | .localHotlistEvict => 14
  | .tableActivated => 15

def NoticeKind.code (k : NoticeKind) : Byte := BitVec.ofNat 8 k.index.val

/-! ### The frame on the line (R169 to R171) -/

/-- Start of a frame (R169). -/
def frameStart : Byte := 0xF5
/-- End of a frame (R169). -/
def frameEnd : Byte := 0xFA
/-- Escape (R169). -/
def frameEscape : Byte := 0xF0

/-- One of F5H, FAH and F0H. -/
def isDelimiter (b : Byte) : Bool := b == frameStart || b == frameEnd || b == frameEscape

/-- One bit of the CRC-16 of polynomial x^16+x^15+x^2+1, unreflected (R170). -/
def crcShift (c : BitVec 16) : BitVec 16 := if c.msb then (c <<< 1) ^^^ 0x8005#16 else c <<< 1

/-- One byte into the CRC, most significant bit first (R170). -/
def crcByte (c : BitVec 16) (b : Byte) : BitVec 16 :=
  let c := c ^^^ (b.setWidth 16 <<< 8)
  crcShift (crcShift (crcShift (crcShift (crcShift (crcShift (crcShift (crcShift c)))))))

/-- The CRC of a body: register started at FFFFH, no final inversion (R170). -/
def crc16 (bs : List Byte) : BitVec 16 := bs.foldl crcByte 0xFFFF#16

/-- A body byte as sent: a delimiter or F0H becomes F0H and the byte combined with 20H by exclusive-or (R171). -/
def stuffByte (b : Byte) : List Byte := if isDelimiter b then [frameEscape, b ^^^ 0x20#8] else [b]

/-- A body with its CRC, most significant byte first (R171). -/
def withCrc (body : List Byte) : List Byte := body ++ be 2 (crc16 body).toNat

/-- The bytes of a frame on the line (R171). -/
def wireBytes (body : List Byte) : List Byte := frameStart :: (withCrc body).flatMap stuffByte ++ [frameEnd]

end Sys2Proof.Machine
end

