-- ==== Sys2Proof/Machine/Ops.lean ====
section
/-! DEFINITION. The shared operations of the blocks: lanes, the Notice Unit, the Journal, the Seen-Card Table, the Hot List Store,
the Recovery Table, the Claim Table, the Request Processor's senses and replies. -/

namespace Sys2Proof.Machine

/-- How every step of a powered part ends: in its next state. A part without power takes no step (R46, log 31). -/
def whenPowered (f : State → State) (s : State) : Host.Outcome State Fault Refusal :=
  .next (if s.powered then f s else s)

/-- The lanes in order. -/
def laneIds : List LaneId := [0, 1, 2, 3, 4, 5, 6, 7]

/-- The recovery slots in order. -/
def slotIds : List SlotId := [0, 1, 2, 3, 4, 5, 6, 7]

/-- A count that stops at its highest value. -/
def saturate (top n : Nat) : Nat := if n < top then n + 1 else n

/-! ### Lanes -/

def State.lane (s : State) (n : LaneId) : Lane := s.lanes[n.val]
def State.setLane (s : State) (n : LaneId) (l : Lane) : State := { s with lanes := s.lanes.set n.val l }
def State.updLane (s : State) (n : LaneId) (f : Lane → Lane) : State := s.setLane n (f (s.lane n))
def State.updEngine (s : State) (n : LaneId) (f : Engine → Engine) : State :=
  s.updLane n (fun l => { l with engine := f l.engine })
def State.updGate (s : State) (n : LaneId) (f : Gate → Gate) : State :=
  s.updLane n (fun l => { l with gate := f l.gate })
def State.updCounters (s : State) (n : LaneId) (f : Counters → Counters) : State :=
  s.updLane n (fun l => { l with counters := f l.counters })

/-- Applies a step of every lane's own block, lane 0 first. -/
def State.eachLane (s : State) (f : LaneId → State → State) : State := laneIds.foldl (fun t n => f n t) s

/-- The port of a side: port 2n is side S of lane n, port 2n+1 its side P. -/
def Lane.port (l : Lane) : Side → Port
  | .s => l.portS
  | .p => l.portP

def Lane.setPort (l : Lane) : Side → Port → Lane
  | .s, p => { l with portS := p }
  | .p, p => { l with portP := p }

def Lane.updPort (l : Lane) (side : Side) (f : Port → Port) : Lane := l.setPort side (f (l.port side))

def State.claim (s : State) (n : LaneId) : Option Identity := s.claims[n.val]
def State.setClaim (s : State) (n : LaneId) (c : Option Identity) : State := { s with claims := s.claims.set n.val c }

def State.slot (s : State) (i : SlotId) : Slot := s.recovery[i.val]
def State.setSlot (s : State) (i : SlotId) (x : Slot) : State := { s with recovery := s.recovery.set i.val x }

/-- One refusal of a code at a lane (R23). -/
def State.countRefusal (s : State) (n : LaneId) (r : RefusalCode) : State :=
  s.updLane n (fun l =>
    { l with refusals := l.refusals.set r.index.val (saturate Config.max32 l.refusals[r.index.val]) })

/-- A free value, and the state that has used it (log 15). -/
def State.fresh (s : State) : Nat × State := (Config.freeValue s.free, { s with free := s.free + 1 })

/-! ### Notice Unit (R181, R182) -/

/-- A block raises an event; the Notice Unit takes it by NOTICE_EVENT (log 5). -/
def State.raise (s : State) (kind : NoticeKind) (target : Target) (data : List Byte) : State :=
  { s with notices := { s.notices with inbox := s.notices.inbox ++ [⟨kind, target, data⟩] } }

/-- The event time: station time, or 0 while it is invalid (09, section 9.6). -/
def State.eventTime (s : State) : Nat := if s.clock.valid then s.clock.time else 0

/-- Latching an event in the conditions set (R181). -/
def latch (kind : NoticeKind) (target : Target) (t : Nat) : List Condition → List Condition
  | [] => [⟨kind, target, 1, t, t⟩]
  | c :: cs =>
    if c.kind = kind ∧ c.target = target then { c with count := saturate 255 c.count, last := t } :: cs
    else c :: latch kind target t cs

/-- Placing or refreshing a pending notice (R182). -/
def place (e : Event) (t : Nat) : List PendingNotice → List PendingNotice
  | [] => [⟨e.kind, e.target, 1, t, t, e.data⟩]
  | p :: ps =>
    if p.kind = e.kind ∧ p.target = e.target then
      { p with count := saturate 255 p.count, last := t, data := e.data } :: ps
    else p :: place e t ps

/-- The level of a kind (R183). -/
def Notices.level (u : Notices) (k : NoticeKind) : Nat := u.levels[k.index.val]

/-- The Notice Unit takes one event (R181, R182). -/
def Notices.take (u : Notices) (e : Event) (t : Nat) : Notices :=
  { u with
    conditions := latch e.kind e.target t u.conditions
    pending := if u.level e.kind = 0 then u.pending else place e t u.pending }

/-! ### Journal (R151 to R164) -/

/-- The count of unreleased records (R151). -/
def Journal.count (j : Journal) : Nat := j.records.length

/-- The oldest sequence: the next sequence when the queue is empty (R151). -/
def Journal.oldest (j : Journal) : Nat :=
  match j.records with
  | [] => j.next
  | r :: _ => r.seq

/-- The newest sequence (R151). -/
def Journal.newest (j : Journal) : Nat := j.next - 1

/-- Appends are decided as in the write reserve: by the count (R156), or in the last 16 sequence numbers (R164). -/
def Journal.reserved (j : Journal) : Bool :=
  decide (Config.reserveStart ≤ j.count) || decide (Config.lastSequences ≤ j.next)

/-- A card-write record: a CARD record with its counter written present, or a TEAR record (08, section 8.2). -/
def RecordBody.cardWrite : RecordBody → Bool
  | .card b => b.counterWritten.isSome
  | .tear _ => true
  | _ => false

/-- Whether the Journal stores a record (R156, R164). A card-write record that met a full store, which R159 says does not arrive,
is dropped (log 35). -/
def Journal.accepts (j : Journal) (b : RecordBody) : Bool :=
  if j.reserved then b.cardWrite && decide (j.count < Config.journalCapacity) && decide (j.next ≤ Config.max32) else true

/-- The record time of an append taken now (R155). -/
def State.recordTime (s : State) : Nat :=
  if s.clock.valid then max s.clock.time s.journal.lastTime else s.journal.lastTime

/-- Storing a record at the end of the queue with the next sequence (R154, R155). -/
def Journal.store (j : Journal) (t : Nat) (lane : Option LaneId) (flags : RecordFlags) (b : RecordBody) : Journal :=
  { j with records := j.records ++ [⟨j.next, t, lane, flags, b⟩], next := j.next + 1, lastTime := t }

/-- Dropping a record into the gap count (R157). -/
def Journal.drop (j : Journal) (t : Nat) : Journal :=
  { j with
    gapCount := saturate Config.max32 j.gapCount
    firstDrop := if j.gapCount = 0 then some t else j.firstDrop
    lastDrop := some t }

/-- The events of a stored append that raises the count to c (R161). Where it crosses equal values, threshold A's comes first, then
threshold B's, then the limit's: the model's choice, log 46. -/
def crossingEvents (j : Journal) (c : Nat) : List (NoticeKind × Nat) :=
  (if j.thresholdA = c then [(.journalThresholdA, c)] else []) ++
  (if j.thresholdB = c then [(.journalThresholdB, c)] else []) ++
  (if j.limit = c then [(.journalLimit, c)] else [])

/-- Stores a record and raises what its storing crosses (R154, R161). -/
def State.storeRecord (s : State) (lane : Option LaneId) (flags : RecordFlags) (b : RecordBody) : State :=
  let j := s.journal.store s.recordTime lane flags b
  (crossingEvents j j.count).foldl (fun t e => t.raise e.1 .part (be 2 j.count ++ be 2 e.2)) { s with journal := j }

/-- The GAP record owed is stored before the arriving record (R158). -/
def State.storeGap (s : State) : State :=
  let j := s.journal
  if j.reserved = false ∧ j.gapCount ≠ 0 then
    let t := s.storeRecord none RecordFlags.clear (.gap j.gapCount (j.firstDrop.getD 0) (j.lastDrop.getD 0))
    { t with journal := { t.journal with gapCount := 0, firstDrop := none, lastDrop := none } }
  else s

/-- The Journal takes an append: it stores the record or drops it, and answers with the sequence given or with dropped
(R154 to R158). -/
def State.append (s : State) (lane : Option LaneId) (flags : RecordFlags) (b : RecordBody) : State × Option Nat :=
  let s := s.storeGap
  if s.journal.accepts b then
    (s.storeRecord lane { flags with gapFollows := decide (s.journal.gapCount ≠ 0) } b, some s.journal.next)
  else ({ s with journal := s.journal.drop s.recordTime }, none)

/-- An append whose answer the appending block does not use. -/
def State.record (s : State) (lane : Option LaneId) (flags : RecordFlags) (b : RecordBody) : State := (s.append lane flags b).1

/-- Whether card transactions are admitted (R160, R164). -/
def Journal.admits (j : Journal) : Bool := decide (j.count < j.limit) && decide (j.next < Config.lastSequences)

/-! ### Seen-Card Table (R75 to R81) -/

/-- Older than the seen retention (R76). -/
def State.older (s : State) (e : SeenEntry) : Bool := decide (60 * s.retention < s.clock.time - e.time)

/-- The entry of an identity, however old. -/
def State.seenEntry (s : State) (id : Identity) : Option SeenEntry := s.seen.entries.find? (fun e => e.identity == id)

/-- A lookup: an entry older than the retention is absent (R76). -/
def State.seenLookup (s : State) (id : Identity) : Option SeenEntry :=
  match s.seenEntry id with
  | some e => if s.older e then none else some e
  | none => none

/-- The entries without an identity's. -/
def withoutId (es : List SeenEntry) (id : Identity) : List SeenEntry := es.filter (fun e => e.identity != id)

/-- Removing the victim of an eviction: the least recent entry without tear pending (R78). -/
def dropVictim : List SeenEntry → List SeenEntry
  | [] => []
  | e :: es => if e.tearPending = none then es else e :: dropVictim es

/-- A place for a new entry (R78). -/
def makePlace (es : List SeenEntry) : List SeenEntry :=
  if es.length < Config.seenCapacity then es else dropVictim es

def State.setEntries (s : State) (es : List SeenEntry) : State := { s with seen := { s.seen with entries := es } }

/-- A new entry, most recent, replacing an older one of its identity (R77, R78, R80). -/
def State.newEntry (s : State) (e : SeenEntry) : State :=
  s.setEntries (makePlace (withoutId s.seen.entries e.identity) ++ [e])

/-- An existing entry changed and made most recent (R77, R79, R80). -/
def State.touchEntry (s : State) (e : SeenEntry) : State := s.setEntries (withoutId s.seen.entries e.identity ++ [e])

/-- A transaction update; no counter stands for R40's "unchanged" (R40, R77, log 17). -/
structure SeenChange where
  identity : Identity
  lane : LaneId
  direction : Direction
  outcome : SeenOutcome
  counter : Option Nat
  clone : Bool
  deriving DecidableEq, Repr

/-- The entry an update makes of an existing one (R77). -/
def SeenEntry.updated (e : SeenEntry) (u : SeenChange) (now : Nat) : SeenEntry :=
  { e with
    time := now, lane := u.lane, direction := u.direction, outcome := u.outcome
    counter := max e.counter (u.counter.getD 0)
    cloneSuspect := e.cloneSuspect || u.clone }

/-- A new entry made from an update (R77); its counter, where R40 says "unchanged", is a free value (log 17). -/
def State.entryFrom (s : State) (u : SeenChange) : State :=
  match u.counter with
  | some c => s.newEntry ⟨u.identity, c, s.clock.time, u.lane, u.direction, u.outcome, u.clone, none⟩
  | none =>
    let (v, s) := s.fresh
    s.newEntry ⟨u.identity, v % (Config.lastCounter + 1), s.clock.time, u.lane, u.direction, u.outcome, u.clone, none⟩

/-- The table takes a transaction update; an entry older than the retention with no tear pending goes with its counter and its
clone-suspect flag, as if the identity were absent (R77, R78). -/
def State.takeSeenChange (s : State) (u : SeenChange) : State :=
  match s.seenEntry u.identity with
  | none => s.entryFrom u
  | some e =>
    if s.older e && e.tearPending.isNone then s.entryFrom u
    else s.touchEntry (e.updated u s.clock.time)

/-- The table takes a passage or forfeiture update: the entry takes the time that the update carries (R52, R77, R79). -/
def State.takeGrantUpdate (s : State) (u : GrantUpdate) : State :=
  match s.seenLookup u.identity with
  | some e =>
    if e.lane = u.lane ∧ e.direction = u.direction then
      s.touchEntry { e with outcome := if u.passed then .passed else .unused, time := u.time }
    else s
  | none => s

/-- A passage or forfeiture update sent for a grant, with the station time of this step; a STAFF grant sends none (R77, R79, R127). -/
def State.sendGrantUpdate (s : State) (n : LaneId) (passed : Bool) (g : Grant) : State :=
  match g.identity with
  | some id => { s with seen := { s.seen with inbox := s.seen.inbox ++ [⟨passed, id, n, g.direction, s.clock.time⟩] } }
  | none => s

/-- The Recovery Table marks the seen entry of a slot that opened (R80). -/
def State.markTear (s : State) (i : SlotId) (f : SlotFields) : State :=
  match s.seenLookup f.identity with
  | some e => s.touchEntry { e with tearPending := some i }
  | none => s.newEntry ⟨f.identity, f.oldCounter, s.clock.time, f.lane, f.direction, .refused, false, some i⟩

/-- The mark is removed when the slot closes, the entry keeping its place (R80, R105). -/
def State.unmarkTear (s : State) (id : Identity) : State :=
  s.setEntries (s.seen.entries.map (fun e => if e.identity = id then { e with tearPending := none } else e))

/-- LANDED raises the seen counter, the entry keeping its place (R101). -/
def State.raiseSeenCounter (s : State) (id : Identity) (c : Nat) : State :=
  s.setEntries (s.seen.entries.map (fun e => if e.identity = id then { e with counter := max e.counter c } else e))

/-- One sweep (R81). -/
def State.sweep (s : State) : State :=
  { s with seen := { s.seen with entries := s.seen.entries.filter (fun e => !(s.older e) || e.tearPending.isSome), sweepDue := false } }

/-! ### Hot List Store (R83, R91) -/

def Bank.holds (b : Bank) (id : Identity) : Bool := b.ids.contains id
def HotStore.localHolds (h : HotStore) (id : Identity) : Bool := h.locals.any (fun e => e.identity == id)

/-- Strictly ascending as unsigned numbers (R82, R205). -/
def ascending : List Identity → Bool
  | [] => true
  | [_] => true
  | a :: b :: rest => decide (a.toNat < b.toNat) && ascending (b :: rest)

/-- A local addition from a clone alarm at lane n (R91). -/
def State.addLocal (s : State) (n : LaneId) (id : Identity) : State :=
  if s.hot.active.holds id || s.hot.localHolds id then s
  else
    let s :=
      match s.hot.locals with
      | oldest :: rest =>
        if Config.localCapacity ≤ s.hot.locals.length then
          (({ s with hot := { s.hot with locals := rest } }).record none RecordFlags.clear (.listLocalEvict oldest.identity)).raise
            .localHotlistEvict .part (idBytes oldest.identity)
        else s
      | [] => s
    ({ s with hot := { s.hot with locals := s.hot.locals ++ [LocalEntry.mk id s.clock.time n] } }).record
      (some n) RecordFlags.clear (.listLocalAdd id)

/-- The load is abandoned: the standby bank emptied, its version none, the load state IDLE (R85, R88, R89). -/
def HotStore.abandon (h : HotStore) : HotStore := { h with standby := ⟨none, []⟩, load := .idle }

/-! ### Recovery Table (R96 to R109) -/

/-- Write time plus the recovery window; past the last station time the spec states no value, and it is free (log 15). -/
def State.expiryFrom (s : State) (t : Nat) : Nat × State :=
  if t + s.window ≤ Config.max32 then (t + s.window, s) else ((s.fresh).1 % (Config.max32 + 1), (s.fresh).2)

/-- The lowest FREE slot (R97). -/
def State.freeSlot (s : State) : Option SlotId := slotIds.find? (fun i => s.slot i == .free)

/-- The OPEN slot that holds an identity (R100). -/
def State.openSlot (s : State) (id : Identity) : Option SlotId :=
  slotIds.find? (fun i =>
    match s.slot i with
    | .opened f _ _ _ => f.identity == id
    | _ => false)

/-- A RESERVED slot becomes OPEN, its write time now and its expiry after the recovery window, with the emergency mark given
(R98); while station time is invalid both are pending (R108). -/
def State.openReserved (s : State) (i : SlotId) (emergency : Bool) : State :=
  match s.slot i with
  | .reserved f =>
    if s.clock.valid then
      let (x, s) := s.expiryFrom s.clock.time
      (s.setSlot i (.opened f emergency (some s.clock.time) (some x))).markTear i f
    else (s.setSlot i (.opened f emergency none none)).markTear i f
  | _ => s

/-- A reservation is given back (R97). -/
def State.freeReserved (s : State) (i : SlotId) : State :=
  match s.slot i with
  | .reserved _ => s.setSlot i .free
  | _ => s

/-- An OPEN slot closes: one TEAR record, the slot FREE, the mark removed (R100, R104, R105). Answers the record's sequence. -/
def State.closeSlot (s : State) (i : SlotId) (outcome : TearOutcome) (lane : LaneId) : State × Option Nat :=
  match s.slot i with
  | .opened f em _ _ =>
    let charge := if outcome = .landed ∨ outcome = .unresolved then f.charge else 0
    let (s, q) := s.append (some lane) { RecordFlags.clear with emergency := em, clone := decide (outcome = .conflict) }
      (.tear ⟨outcome, f.identity, f.oldCounter, f.newCounter, charge, f.lane, f.direction⟩)
    let s := (s.setSlot i .free).unmarkTear f.identity
    (if outcome = .landed then s.raiseSeenCounter f.identity f.newCounter else s, q)
  | _ => (s, none)

/-- How a slot is classified by the counter and the image read (R100). -/
def classify (f : SlotFields) (counter : Nat) (image : List Byte) : TearOutcome :=
  if counter = f.newCounter ∧ image.take 56 = f.newImage.take 56 then .landed
  else if counter = f.oldCounter then .notLanded
  else .conflict

/-- An OPEN slot whose expiry time has come (R105). -/
def State.slotDue (s : State) (i : SlotId) : Bool :=
  match s.slot i with
  | .opened _ _ _ (some x) => s.clock.valid && decide (x ≤ s.clock.time)
  | _ => false

/-! ### Claim Table (R72) -/

/-- The lane other than n whose claim holds an identity (R72). -/
def State.holder (s : State) (n : LaneId) (id : Identity) : Option LaneId :=
  laneIds.find? (fun m => m != n && s.claim m == some id)

end Sys2Proof.Machine
end

