-- ==== Sys2Proof/Machine/Operands.lean ====
section
/-! DEFINITION. Where a request's operands stand (11, sections 11.2 and 11.4), and how the Request Processor takes, tests, answers
and ends a request (R173 to R179). -/

namespace Sys2Proof.Machine

/-- A request frame whose target is valid: its fields, with the whole body for the parameter and data blocks. -/
structure Request where
  tag : Byte
  target : Target
  code : Byte
  body : List Byte
  deriving DecidableEq, Repr

/-- A target byte: 0 to 7, or 0FH (R174). -/
def Target.ofCode (b : Byte) : Option Target :=
  if h : b.toNat < 8 then some (.lane ⟨b.toNat, h⟩) else if b = 0x0F then some .part else none

/-- The target of a frame. -/
def frameTarget (frame : List Byte) : Option Target := Target.ofCode (byteAt frame 2)

/-- The fields of a frame under a target (11, section 11.2). -/
def Request.ofFrame (frame : List Byte) (t : Target) : Request := ⟨byteAt frame 1, t, byteAt frame 3, frame⟩

/-- The body byte at an offset. -/
def Request.byte (r : Request) (k : Nat) : Byte := byteAt r.body k
/-- The unsigned number of n bytes at an offset. -/
def Request.field (r : Request) (k n : Nat) : Nat := fieldAt r.body k n
/-- The data length field (offset 10). -/
def Request.dataLength (r : Request) : Nat := r.field 10 2
/-- The data block (offset 12 onward). -/
def Request.data (r : Request) : List Byte := r.body.drop 12

/-- The kind of target a command belongs to (09, section 9.2). -/
inductive CommandKind where
  | part
  | lane
  | either
  deriving DecidableEq, Repr

/-- The codes of the part-wide commands (11, section 11.4). -/
def partCodes : List Byte :=
  [0x04, 0x05, 0x06, 0x08, 0x09, 0x10, 0x11, 0x12, 0x13, 0x14, 0x18, 0x19, 0x1C, 0x1D, 0x1E, 0x20, 0x21, 0x40, 0x41, 0x42, 0x43, 0x44]

/-- Which kind a command code names, none for a code that names no command (11, section 11.4). -/
def commandKind (c : Byte) : Option CommandKind :=
  if [0x01, 0x02, 0x03].contains c then some .either
  else if partCodes.contains c then some .part
  else if [0x28, 0x29, 0x2A, 0x2B, 0x2C, 0x2D, 0x2E].contains c then some .lane
  else none

/-- Codes 40H to 7FH (R174). -/
def dataClass (c : Byte) : Bool := decide (0x40 ≤ c.toNat) && decide (c.toNat ≤ 0x7F)

/-! ### Senses (R176, R204; codes of section 11.8) -/

def detailOutOfRange : Nat := 0x01
def detailUnknownCommand : Nat := 0x02
def detailLengthError : Nat := 0x03
def detailStoreProtected : Nat := 0x04
def detailNoLoadOpen : Nat := 0x05
def detailSectionRepeated : Nat := 0x06
def detailSectionMissing : Nat := 0x07
def detailTableInconsistent : Nat := 0x08
def detailHotListOrder : Nat := 0x09
def detailHotListCount : Nat := 0x0A
def detailEntryChanged : Nat := 0x0B
def detailLaneClosed : Nat := 0x0C
def detailNotHeld : Nat := 0x0D
def detailEmergency : Nat := 0x0E
def detailOppositeFlow : Nat := 0x0F
def detailLaneFull : Nat := 0x10
def detailIncidentListFull : Nat := 0x11
def detailLocalIncidentOpen : Nat := 0x12
def detailIncidentClosed : Nat := 0x13
def detailSequenceReleased : Nat := 0x14
def detailSequenceNotWritten : Nat := 0x15
def detailTimeBehindJournal : Nat := 0x16
def detailTimeStepTooLarge : Nat := 0x17
def detailJournalNotEmpty : Nat := 0x18
def detailSlotOpen : Nat := 0x19
def detailStoreError : Nat := 0x1A
/-- The first of the six reasons of TEST READY. -/
def detailFirstReason : Nat := 0x20

/-- ILLEGAL REQUEST with a field index and no named detail (R204). -/
def illegalField (k : Nat) : Sense := ⟨.illegalRequest, detailOutOfRange, some k, none⟩
/-- NOT READY, store protected (R196). -/
def storeProtected : Sense := ⟨.notReady, detailStoreProtected, none, none⟩
/-- ORDER ERROR with a detail alone. -/
def orderError (d : Nat) : Sense := ⟨.orderError, d, none, none⟩

/-! ### Answers -/

/-- How a request is answered (09, section 9.2); OVERRUN is the SLI's own. -/
inductive Answer where
  | good (data : List Byte)
  | check (sense : Sense)
  | busy
  | accepted
  deriving DecidableEq, Repr

/-- Status codes of a reply (11, section 11.2). -/
def Answer.status : Answer → Byte
  | .good _ => 0
  | .check _ => 1
  | .busy => 2
  | .accepted => 3

/-- Only GOOD carries reply data (11, section 11.2). -/
def Answer.replyData : Answer → List Byte
  | .good d => d
  | _ => []

/-- The body of a reply: type 02H, tag, status, data (11, section 11.2). -/
def replyBody (tag : Byte) (a : Answer) : List Byte := [0x02, tag, a.status] ++ a.replyData

/-- The body of an OVERRUN reply (R172). -/
def overrunBody (tag : Byte) : List Byte := [0x02, tag, 0x04]

def State.sense (s : State) : Target → Option Sense
  | .part => s.proc.partSense
  | .lane n => s.proc.laneSenses[n.val]

def State.setSense (s : State) (t : Target) (x : Option Sense) : State :=
  match t with
  | .part => { s with proc := { s.proc with partSense := x } }
  | .lane n => { s with proc := { s.proc with laneSenses := s.proc.laneSenses.set n.val x } }

/-- The reply is placed in the reply list, and a CHECK sets the target's sense record (R173, R176). -/
def State.answer (s : State) (tag : Byte) (t : Target) (a : Answer) : State :=
  let s := match a with
    | .check x => s.setSense t (some x)
    | _ => s
  { s with link := { s.link with replies := s.link.replies ++ [⟨false, replyBody tag a⟩] } }

/-- The Request Processor may take a frame: its previous reply has begun to be sent (R173). -/
def State.processorFree (s : State) : Bool := s.link.replies.all (fun r => r.overrun)

/-- An INITIALISE STORE is RUNNING (R175, R192). -/
def State.initialising (s : State) : Bool :=
  match s.proc.tracker with
  | some op => op.command == 0x21#8 && !op.ended
  | none => false

/-- The length test of R174. -/
def Request.lengthError (r : Request) : Option Sense :=
  if dataClass r.code then
    if r.body.length < 12 ∨ r.body.length ≠ 12 + r.dataLength ∨ 1024 < r.dataLength then
      some ⟨.illegalRequest, detailLengthError, some 10, none⟩
    else none
  else if r.body.length ≠ 10 then some ⟨.illegalRequest, detailLengthError, some 3, none⟩
  else none

/-- A command of this kind may be sent to this target (R174). -/
def CommandKind.allows : CommandKind → Target → Bool
  | .either, _ => true
  | .part, .part => true
  | .lane, .lane _ => true
  | _, _ => false

/-- The third and fourth tests of R174, for a code that names a command. -/
def Request.refusal (r : Request) : Option Sense :=
  match commandKind r.code with
  | some k => if k.allows r.target then r.lengthError else some (illegalField 2)
  | none => some ⟨.illegalRequest, detailUnknownCommand, some 3, none⟩

/-- The two BUSY tests of R175. -/
def State.busyFor (s : State) (r : Request) : Bool :=
  (match r.target with
   | .lane n => (s.lane n).resetting.isSome && r.code != 0x02#8
   | .part => false) ||
  (s.initialising && !([0x01, 0x02, 0x03].contains r.code))

/-- The frame leaves the queue, and the sense record of its target is cleared unless the command is REQUEST SENSE (R173, R177). -/
def State.takeRequest (s : State) (r : Request) (rest : List (List Byte)) : State :=
  let s := { s with link := { s.link with requests := rest } }
  if r.code = 0x02#8 then s else s.setSense r.target none

/-- A request runs its tests and then its command (R173 to R175). -/
def State.runRequest (s : State) (r : Request) (run : Request → State → State × Answer) : State :=
  match r.refusal with
  | some x => s.answer r.tag r.target (.check x)
  | none =>
    if s.busyFor r then s.answer r.tag r.target .busy
    else
      let (t, a) := run r s
      t.answer r.tag r.target a

/-- The Request Processor takes the oldest frame when that frame names this command (R173, log 2). -/
def serve (code : Byte) (run : Request → State → State × Answer) (s : State) : State :=
  match s.link.requests with
  | frame :: rest =>
    match frameTarget frame with
    | some t =>
      let r := Request.ofFrame frame t
      if s.processorFree ∧ r.code = code then (s.takeRequest r rest).runRequest r run else s
    | none => s
  | [] => s

/-- The Request Processor takes the oldest frame when its target or its code names nothing (R174, log 2). -/
def serveUnknown (s : State) : State :=
  match s.link.requests with
  | frame :: rest =>
    if s.processorFree then
      match frameTarget frame with
      | none =>
        ({ s with link := { s.link with requests := rest } }.setSense .part none).answer (byteAt frame 1) .part
          (.check (illegalField 2))
      | some t =>
        let r := Request.ofFrame frame t
        match commandKind r.code with
        | none => (s.takeRequest r rest).runRequest r (fun _ s => (s, .busy))
        | some _ => s
    else s
  | [] => s

/-- A request to a lane, under the lane's number; the kind test of R174 has refused any other target. -/
def onLane (f : LaneId → Request → State → State × Answer) (r : Request) (s : State) : State × Answer :=
  match r.target with
  | .lane n => f n r s
  | .part => (s, .busy)

/-- The store-protected test, made before a command's own (R196). -/
def protectedBy (f : Request → State → State × Answer) (r : Request) (s : State) : State × Answer :=
  if s.nvwp then f r s else (s, .check storeProtected)

/-- A request that makes the store-protected test, with the level of NVWP at the test (R196, log 11). -/
def serveProtected (code : Byte) (run : Request → State → State × Answer) (nvwp : Bool) (s : State) :
    Host.Outcome State Fault Refusal :=
  whenPowered (serve code (protectedBy run)) { s with nvwp := nvwp }

/-! ### Long operations (R178, R179) -/

/-- The tracker takes the operation under the request's tag and command (R178). -/
def State.startLong (s : State) (r : Request) : State :=
  { s with proc := { s.proc with tracker := some ⟨r.tag, r.code, false⟩ } }

/-- Final status codes of a COMPLETION (11, section 11.2). -/
def CompletionStatus.wire : CompletionStatus → Byte
  | .good => 0
  | .check => 1
  | .aborted => 1

/-- A RUNNING operation ends: the tracker enters ENDED, the last-completion record is set and the COMPLETION placed; a CHECK sets
the part's sense record (R176, R178, R179). -/
def State.endLong (s : State) (sense : Option Sense) : State :=
  match s.proc.tracker with
  | some op =>
    let status := if sense.isSome then CompletionStatus.check else .good
    let s := match sense with
      | some x => s.setSense .part (some x)
      | none => s
    { s with
      proc := { s.proc with tracker := some { op with ended := true }, lastCompletion := some ⟨op.tag, op.command, status⟩ }
      link := { s.link with completion := some [0x03, op.tag, op.command, status.wire] } }
  | none => s

end Sys2Proof.Machine
end

