-- ==== Sys2Proof/Machine/Flags.lean ====
section
/-! DEFINITION. The conditions the part computes: readiness and its reasons (R192, R193), what a lane's inputs say (R114), and the
presence and flag bytes of the layouts (R200). -/

namespace Sys2Proof.Machine

/-! ### Readiness -/

/-- The failing reasons of R192, in the order of its table. -/
def State.partReasons (s : State) : List Bool :=
  [!s.clock.valid, s.fare.active.isNone, s.keys.toList.all (fun k => k.isNone), s.initialising]

/-- The part is READY when no reason fails it (R192). -/
def State.ready (s : State) : Bool := !(s.partReasons.contains true)

/-- The two further reasons of a lane (R193). -/
def State.laneReasons (s : State) (n : LaneId) : List Bool :=
  [!(s.lane n).config.service, decide ((s.lane n).gate.state = .fault)]

/-- The reasons TEST READY tests at a target (R193). -/
def State.reasons (s : State) : Target → List Bool
  | .part => s.partReasons
  | .lane n => s.partReasons ++ s.laneReasons n

/-- Bits, the first as bit 0. -/
def bitsOf : List Bool → Nat
  | [] => 0
  | b :: bs => (if b then 1 else 0) + 2 * bitsOf bs

/-- The position of the first set bit. -/
def firstSet : List Bool → Nat
  | [] => 0
  | b :: bs => if b then 0 else 1 + firstSet bs

/-- A byte of presence bits or flags (R200). -/
def bitByte (bs : List Bool) : Byte := BitVec.ofNat 8 (bitsOf bs)

/-- The flag byte of a journal record (11, section 11.7). -/
def RecordFlags.byte (f : RecordFlags) : Byte := bitByte [f.emergency, f.clone, f.counterfeit, f.unverified, f.gapFollows]

/-! ### The lane's inputs -/

/-- The actuator report; A and B alike read as BETWEEN (R114, 00_scope section 7.1). -/
def LaneInputs.report (i : LaneInputs) : Report :=
  if i.gsa && !i.gsb then .opened else if !i.gsa && i.gsb then .closed else .between

/-- Both beams clear (R114). -/
def LaneInputs.clear (i : LaneInputs) : Bool := !i.beamS && !i.beamP

/-- The report that matches a command (R114). -/
def Report.agrees (r : Report) (p : Position) : Bool :=
  match p with
  | .opened => r == .opened
  | .closed => r == .closed

/-- Wanted position by state (R117). -/
def Gate.wanted (g : Gate) : Position :=
  match g.state with
  | .opened => .opened
  | .heldOpen => .opened
  | .closed => .closed
  | .closing => .closed
  | .outOfService => if g.emergency then .opened else .closed
  | .fault => if g.emergency then .opened else .closed

/-- The gate is in FAULT or OUT OF SERVICE (R33, R126). -/
def Gate.shut (g : Gate) : Bool := g.state == .fault || g.state == .outOfService

/-- The lock is releasable (R124). -/
def Gate.releasable (g : Gate) : Bool :=
  g.queue.isEmpty && !g.place && g.state != .opened && g.state != .closing

/-- The lock as a release sets it (R124). -/
def lockFor : DirMode → Lock
  | .both => .free
  | .entry => .s
  | .exit => .p

/-- The lock of a side (R124). -/
def sideLock : Side → Lock
  | .s => .s
  | .p => .p

/-- The side of a direction (R124). -/
def directionSide : Direction → Side
  | .entry => .s
  | .exit => .p

/-- A side's admission by the direction mode in force (check 2). -/
def DirMode.admits : DirMode → Side → Bool
  | .entry, .p => false
  | .exit, .s => false
  | _, _ => true

end Sys2Proof.Machine
end

