-- ==== Sys2Proof/Machine/Card.lean ====
section
/-! DEFINITION. The card record (01, section 1.1; 11, section 11.3): its fields, the well-formed test, the new image, and the Card
Check Unit with the Key Store's lookup (01, section 1.4). -/

namespace Sys2Proof.Machine

abbrev Image := List Byte

/-! ### Fields (11, section 11.3) -/

def cardFormat (m : Image) : Nat := fieldAt m 0 1
def cardIdentity (m : Image) : Identity := idOfBytes (slice m 1 8)
def cardGeneration (m : Image) : Nat := fieldAt m 9 1
def cardExpiryDay (m : Image) : Nat := fieldAt m 10 2
def cardProduct (m : Image) : Nat := fieldAt m 12 1
def cardCounter (m : Image) : Nat := fieldAt m 13 3
def cardBalance (m : Image) : Int := ofBeSigned (slice m 16 3)
def cardRides (m : Image) : Nat := fieldAt m 19 1
def cardPassFrom (m : Image) : Nat := fieldAt m 20 2
def cardPassTo (m : Image) : Nat := fieldAt m 22 2
def cardPassLow (m : Image) : Nat := fieldAt m 24 1
def cardPassHigh (m : Image) : Nat := fieldAt m 25 1
def cardTripState (m : Image) : Nat := fieldAt m 26 1
def cardOriginStation (m : Image) : Nat := fieldAt m 27 2
def cardOriginZone (m : Image) : Nat := fieldAt m 29 1
def cardOriginTime (m : Image) : Nat := fieldAt m 30 4
def cardLegs (m : Image) : Nat := fieldAt m 34 1
def cardCharged (m : Image) : Nat := fieldAt m 35 3
def cardLastStation (m : Image) : Nat := fieldAt m 38 2
def cardLastTime (m : Image) : Nat := fieldAt m 40 4
def cardCheck (m : Image) : BitVec 64 := idOfBytes (slice m 56 8)

/-- Check 9 (R1, R202). -/
def wellFormedCard (m : Image) : Bool :=
  cardFormat m == 1 &&
  decide (cardTripState m ≤ 1) &&
  cardOriginStation m != 0xFFFF && cardLastStation m != 0xFFFF &&
  (if cardOriginStation m = 0 then
     cardOriginZone m == 0 && cardLegs m == 0 && cardTripState m == 0
   else
     decide (1 ≤ cardOriginZone m ∧ cardOriginZone m ≤ 16) && decide (1 ≤ cardLegs m ∧ cardLegs m ≤ 4)) &&
  decide (cardPassLow m ≤ 16) && decide (cardPassHigh m ≤ 16)

/-- The trip record: the fields from trip state to last exit time (R2). -/
structure Trip where
  isOpen : Bool
  originStation : Nat
  originZone : Nat
  originTime : Nat
  legs : Nat
  charged : Nat
  lastStation : Nat
  lastTime : Nat
  deriving DecidableEq, Repr

def Trip.ofImage (m : Image) : Trip :=
  { isOpen := cardTripState m == 1, originStation := cardOriginStation m, originZone := cardOriginZone m,
    originTime := cardOriginTime m, legs := cardLegs m, charged := cardCharged m, lastStation := cardLastStation m,
    lastTime := cardLastTime m }

/-- Bytes 26 to 43 (11, section 11.3). -/
def Trip.bytes (t : Trip) : List Byte :=
  [boolByte t.isOpen] ++ be 2 t.originStation ++ be 1 t.originZone ++ be 4 t.originTime ++ be 1 t.legs ++ be 3 t.charged ++
  be 2 t.lastStation ++ be 4 t.lastTime

/-- The first 56 bytes of the new image (R3, R202). -/
def newBytes (m : Image) (balance : Int) (rides : Nat) (t : Trip) : List Byte :=
  m.take 13 ++ be 3 (cardCounter m + 1) ++ beSigned 3 balance ++ be 1 rides ++ slice m 20 6 ++ t.bytes ++ slice m 44 12

/-! ### Card Check Unit and Key Store -/

/-- The first n blocks of 8 bytes, chained by exclusive-or and the block transform (R16). -/
def chain (key : List Byte) : Nat → List Byte → BitVec 64 → BitVec 64
  | 0, _, c => c
  | n + 1, bs, c => chain key n (bs.drop 8) (Config.blockTransform key (idOfBytes (bs.take 8) ^^^ c))

/-- The key material with its last byte inverted (R16). -/
def lastInverted (key : List Byte) : List Byte := key.take 15 ++ (key.drop 15).map (fun b => ~~~b)

/-- The check value of 56 bytes under 16 bytes of key material (R16). -/
def checkValue (key : List Byte) (bytes : List Byte) : BitVec 64 :=
  Config.blockTransform (lastInverted key) (chain key 7 bytes 0)

/-- The slot that holds a generation, if any (R14, R17). -/
def State.keyFor (s : State) (generation : Nat) : Option Key :=
  (s.keys.toList.filterMap id).find? (fun k => k.generation == generation)

/-- A complete image: 56 bytes and their check value (R18). -/
def withCheck (key : Key) (bytes : List Byte) : Image := bytes.take 56 ++ idBytes (checkValue key.material (bytes.take 56))

/-- Checks 9 to 12 on an image read under an offered identity: the refusal, if any (R25). -/
def State.cardRefusal (s : State) (offered : Identity) (m : Image) : Option RefusalCode :=
  if wellFormedCard m = false then some .unknownFormat
  else if cardIdentity m ≠ offered then some .identityMismatch
  else
    match s.keyFor (cardGeneration m) with
    | none => some .unknownKey
    | some k => if checkValue k.material (m.take 56) = cardCheck m then none else some .badCheckValue

end Sys2Proof.Machine
end

