-- ==== Sys2Proof/Machine/Fare.lean ====
section
/-! DEFINITION. The fare and trip rules of checks 18 to 23 (02, section 2.5; 03, sections 3.2 to 3.6), the matching of incidents
(R150), and the verification of a fare table (R68, R203). -/

namespace Sys2Proof.Machine

/-! ### Bands and fares -/

def secondsPerDay : Nat := 86400

/-- The last interval whose start is not above a second of day (R50). -/
def bandAt (bands : List (Nat × Band)) (second : Nat) : Option Band :=
  match (bands.filter (fun b => decide (b.1 ≤ second))).getLast? with
  | some b => some b.2
  | none => bands.getLast?.map (·.2)

/-- The band of a transaction: that of its admission time (R50). -/
def FareTable.band (f : FareTable) (t : Nat) : Band := (bandAt f.bands (t % secondsPerDay)).getD .peak

/-- A zone fare matrix entry; the matrices stand origin zone major (R51; 11, section 11.6). -/
def FareTable.entry (f : FareTable) (o d : Nat) (b : Band) : Nat :=
  let i := (o - 1) * 16 + (d - 1)
  match b with
  | .peak => f.peakFares.getD i 0
  | .offpeak => f.offpeakFares.getD i 0

/-- Base fare from an origin zone to this zone, with the product's discount (R51). -/
def FareTable.baseFare (f : FareTable) (o : Nat) (b : Band) (p : Product) : Nat := f.entry o f.zone b * (100 - p.discount) / 100

/-- Maximum fare of an origin zone (R51; 11, section 11.6). -/
def FareTable.maxFare (f : FareTable) (o : Nat) (b : Band) : Nat :=
  match b with
  | .peak => f.maxFares.getD (o - 1) 0
  | .offpeak => f.maxFares.getD (16 + (o - 1)) 0

/-! ### Time, the seen entry and the pass zones (R1, R52) -/

/-- Elapsed time, 0 for a later moment (R52). -/
def elapsed (now t : Nat) : Nat := now - t

/-- Within a window of w minutes (R52). -/
def within (w e : Nat) : Bool := decide (w ≠ 0) && decide (e ≤ 60 * w)

/-- The seen entry when usable: its counter equals the counter read (R52). -/
def usable (seen : Option SeenEntry) (counter : Nat) : Option SeenEntry := seen.filter (fun e => e.counter == counter)

/-- A zone lies within the pass zones; a range with a 0 or with low above high holds no zone (R1). -/
def inPass (m : Image) (zone : Nat) : Bool :=
  decide (cardPassLow m ≠ 0) && decide (cardPassHigh m ≠ 0) && decide (cardPassLow m ≤ zone) && decide (zone ≤ cardPassHigh m)

/-! ### Checks 18 to 21 (R30) -/

/-- The product entry for a product code (R30, R48). -/
def FareTable.product (f : FareTable) (code : Nat) : Option Product := if code < 64 then (f.products.getD code none) else none

/-- Checks 20 and 21 for a product. -/
def productRefusal (p : Product) (m : Image) (level day : Nat) : Option RefusalCode :=
  if level < p.privilege then some .notAdmitted
  else if p.scheme = .periodPass ∧ (day < cardPassFrom m ∨ cardPassTo m < day) then some .productNotValid
  else none

/-! ### Check 22 (R31, R53 to R62) -/

/-- What a computed result holds (R31): the charge, the rides and the trip record of the new image. -/
structure Computed where
  charge : Nat
  rides : Nat
  trip : Trip
  deriving DecidableEq, Repr

/-- The result of check 22; `unclosed` stands for the question to the Incident List that R55 asks first. -/
inductive TripResult where
  | reGrant
  | refuse (r : RefusalCode)
  | unclosed
  | computed (c : Computed)
  deriving DecidableEq, Repr

/-- A new trip (R57). -/
def newTrip (f : FareTable) (t : Trip) (now : Nat) : Trip :=
  { t with isOpen := true, originStation := f.station, originZone := f.zone, originTime := now, legs := 1, charged := 0 }

/-- Rides after an entry (R58). -/
def ridesAfterEntry (p : Product) (m : Image) : Nat := if p.scheme = .rideCount then cardRides m - 1 else cardRides m

/-- The entry re-grant allowance, without its trip state (R53). -/
def entryAllowance (f : FareTable) (seen : Option SeenEntry) (now : Nat) : Bool :=
  match seen with
  | some e => e.outcome == .unused && e.direction == .entry && within f.reentry (elapsed now e.time)
  | none => false

/-- The second condition of PASSBACK (R54). -/
def seenPassback (f : FareTable) (seen : Option SeenEntry) (now : Nat) : Bool :=
  match seen with
  | some e =>
    e.direction == .entry && (e.outcome == .granted || e.outcome == .passed || e.outcome == .reGranted) &&
    within f.passback (elapsed now e.time)
  | none => false

/-- An entry links to the earlier trip (R56). -/
def transfers (f : FareTable) (p : Product) (t : Trip) (now : Nat) : Bool :=
  decide (t.lastStation ≠ 0) && decide (t.lastStation ≠ f.station) && decide (t.originStation ≠ f.station) &&
  within p.transferWindow (elapsed now t.lastTime) && decide (t.legs < 4)

/-- The entry rules in order (R53 to R58); `seen` is the usable seen entry. -/
def entryRules (f : FareTable) (p : Product) (m : Image) (seen : Option SeenEntry) (now : Nat) : TripResult :=
  let t := Trip.ofImage m
  if t.isOpen then
    if entryAllowance f seen now then .reGrant
    else if (decide (t.originStation = f.station) && within f.passback (elapsed now t.originTime)) || seenPassback f seen now then
      .refuse .passback
    else .unclosed
  else if transfers f p t now then .computed ⟨0, ridesAfterEntry p m, { t with isOpen := true, legs := t.legs + 1 }⟩
  else .computed ⟨0, ridesAfterEntry p m, newTrip f t now⟩

/-- The unclosed-trip charge under the Incident List's answer (R55). -/
def unclosedCharge (f : FareTable) (p : Product) (m : Image) (covered : Option Treatment) (now : Nat) : Nat :=
  if p.scheme = .staff ∨ p.scheme = .free ∨ p.scheme = .rideCount then 0
  else if p.scheme = .periodPass ∧ inPass m (cardOriginZone m) = true then 0
  else
    match covered with
    | some .waive => 0
    | some .minimum => f.minFare
    | none => f.maxFare (cardOriginZone m) (f.band now)

/-- The entry that closes an unclosed trip and opens a new one (R55, R57, R58). -/
def unclosedEntry (f : FareTable) (p : Product) (m : Image) (covered : Option Treatment) (now : Nat) : Computed :=
  ⟨unclosedCharge f p m covered now, ridesAfterEntry p m, newTrip f (Trip.ofImage m) now⟩

/-- The exit re-grant allowance (R59). -/
def exitAllowance (f : FareTable) (seen : Option SeenEntry) (t : Trip) (now : Nat) : Bool :=
  match seen with
  | some e =>
    e.outcome == .unused && e.direction == .exit && within f.reentry (elapsed now e.time) && !t.isOpen &&
    decide (t.lastStation = f.station)
  | none => false

/-- The stored-value charge of an exit (R61). -/
def storedValueCharge (f : FareTable) (p : Product) (m : Image) (now : Nat) : Nat :=
  let base := f.baseFare (cardOriginZone m) (f.band now) p
  (if p.cap = 0 then base else min base p.cap) - cardCharged m

/-- The charge of an exit by scheme (R61). -/
def exitCharge (f : FareTable) (p : Product) (m : Image) (now : Nat) : Nat :=
  match p.scheme with
  | .storedValue => storedValueCharge f p m now
  | .periodPass => if inPass m (cardOriginZone m) && inPass m f.zone then 0 else storedValueCharge f p m now
  | .rideCount => 0
  | .staff => 0
  | .free => 0

/-- The highest charged-on-this-trip sum (R62). -/
def maxCharged : Nat := 16777215

/-- The exit rules in order (R59 to R62); `seen` is the usable seen entry. -/
def exitRules (f : FareTable) (p : Product) (m : Image) (seen : Option SeenEntry) (now : Nat) : TripResult :=
  let t := Trip.ofImage m
  if exitAllowance f seen t now then .reGrant
  else if t.isOpen then
    let c := exitCharge f p m now
    .computed ⟨c, cardRides m,
      { t with isOpen := false, lastStation := f.station, lastTime := now, charged := min maxCharged (t.charged + c) }⟩
  else .refuse .exitWithoutEntry

/-- Check 22 (R31). -/
def tripRules (d : Direction) (f : FareTable) (p : Product) (m : Image) (seen : Option SeenEntry) (now : Nat) : TripResult :=
  match d with
  | .entry => entryRules f p m seen now
  | .exit => exitRules f p m seen now

/-! ### Check 23 (R63) -/

/-- An entry treated as STORED VALUE for its trip (R58). -/
def entryAsStoredValue (f : FareTable) (p : Product) (m : Image) : Bool :=
  p.scheme == .storedValue || (p.scheme == .periodPass && !(inPass m f.zone))

/-- Check 23 on a computed result (R63). -/
def fundsRefusal (d : Direction) (f : FareTable) (p : Product) (m : Image) (c : Computed) : Option RefusalCode :=
  let after : Int := cardBalance m - c.charge
  if d = .entry ∧ p.scheme = .rideCount ∧ cardRides m = 0 then some .noRides
  else if after < -(p.floor : Int) then some .insufficientFunds
  else if d = .entry ∧ entryAsStoredValue f p m = true ∧ after < (f.minEntry : Int) then some .insufficientFunds
  else none

/-! ### Incidents (R150) -/

/-- An entry covers a trip (R150). -/
def Incident.covers (i : Incident) (station origin admission : Nat) : Bool :=
  (decide (i.station = 0) || decide (i.station = station)) && decide (i.start ≤ origin) &&
  decide (origin ≤ i.finish.getD admission)

/-- The Incident List's answer (R150). -/
def IncidentList.answer (l : IncidentList) (station origin admission : Nat) : Option Treatment :=
  let covering := l.entries.filter (fun i => i.covers station origin admission)
  if covering.isEmpty then none
  else if covering.any (fun i => decide (i.treatment = .waive)) then some .waive
  else some .minimum

/-! ### Verification (R68, R203; layouts of 11, section 11.6) -/

/-- The fixed length of a section (11, section 11.6). -/
def sectionLength (k : Fin 6) : Nat :=
  match k with
  | 0 => 11
  | 1 => 288
  | 2 => 288
  | 3 => 512
  | 4 => 512
  | 5 => 97

abbrev Sections := Vector (Option (List Byte)) 6

/-- The content of a section; empty when not received. -/
def sectionBytes (s : Sections) (k : Fin 6) : List Byte := (s[k.val]).getD []

/-- Bit n for a received section n (11, section 11.5). -/
def sectionBits (s : Sections) : Byte := bitByte (s.toList.map (fun x => x.isSome))

/-- The lowest section not received (R68). -/
def missingSection (s : Sections) : Option Nat := s.toList.findIdx? (fun x => x.isNone)

/-- A failing test: table inconsistent in a section, with an information value (R68). -/
def inconsistent (section_ info : Nat) : Sense := ⟨.illegalRequest, detailTableInconsistent, some section_, some info⟩

/-- The header test (R68, R203). -/
def headerFailure (h : List Byte) : Option Nat :=
  if fieldAt h 2 2 = 0 ∨ fieldAt h 2 2 = 0xFFFF then some 2
  else if fieldAt h 4 1 = 0 ∨ 16 < fieldAt h 4 1 then some 4
  else if 120 < fieldAt h 9 1 then some 9
  else if 120 < fieldAt h 10 1 then some 10
  else none

def bandCount (b : List Byte) : Nat := fieldAt b 64 1
def bandStart (b : List Byte) (i : Nat) : Nat := fieldAt b (65 + 4 * i) 3
def bandCode (b : List Byte) (i : Nat) : Nat := fieldAt b (68 + 4 * i) 1

/-- An interval fails: start out of range, band code unknown, or start not above the one before (R68). -/
def intervalFails (b : List Byte) (i : Nat) : Bool :=
  decide (86399 < bandStart b i) || (Band.ofCode (bandCode b i)).isNone ||
  (decide (0 < i) && decide (bandStart b i ≤ bandStart b (i - 1)))

/-- The bands test (R68, R203; the order of its parts is log 28). -/
def bandsFailure (b : List Byte) : Option Nat :=
  if bandCount b = 0 ∨ 8 < bandCount b then some (bandCount b)
  else (List.range (bandCount b)).find? (fun i => intervalFails b i)

/-- The nine bytes of a product entry (11, section 11.6). -/
def productBytes (s : Sections) (code : Nat) : List Byte :=
  if code < 32 then slice (sectionBytes s 1) (9 * code) 9 else slice (sectionBytes s 2) (9 * (code - 32)) 9

/-- A product entry fails (R68, R203). -/
def productFails (e : List Byte) : Bool :=
  decide (1 < fieldAt e 0 1) ||
  (decide (fieldAt e 0 1 = 1) &&
    ((Scheme.ofCode (fieldAt e 1 1)).isNone || decide (3 < fieldAt e 2 1) || decide (100 < fieldAt e 3 1) ||
     decide (5000 < fieldAt e 4 2) || decide (240 < fieldAt e 6 1)))

/-- The products test (R68, R203). -/
def productsFailure (s : Sections) : Option Nat := (List.range 64).find? (fun c => productFails (productBytes s c))

/-- The section a product code stands in. -/
def productSection (code : Nat) : Nat := if code < 32 then 1 else 2

/-- The first failing test of verification (R68). -/
def verificationFailure (version : Nat) (s : Sections) : Option Sense :=
  match missingSection s with
  | some k => some ⟨.orderError, detailSectionMissing, none, some k⟩
  | none =>
    let h := sectionBytes s 0
    if fieldAt h 0 2 ≠ version then some (inconsistent 0 (fieldAt h 0 2))
    else
      match headerFailure h with
      | some o => some (inconsistent 0 o)
      | none =>
        match bandsFailure (sectionBytes s 5) with
        | some i => some (inconsistent 5 i)
        | none =>
          match productsFailure s with
          | some c => some (inconsistent (productSection c) c)
          | none => none

/-- n numbers of 2 bytes. -/
def numbers2 (bs : List Byte) (n : Nat) : List Nat := (List.range n).map (fun i => fieldAt bs (2 * i) 2)

/-- A product entry read (11, section 11.6). -/
def productOf (e : List Byte) : Option Product :=
  if fieldAt e 0 1 = 1 then
    (Scheme.ofCode (fieldAt e 1 1)).map (fun sc => ⟨sc, fieldAt e 2 1, fieldAt e 3 1, fieldAt e 4 2, fieldAt e 6 1, fieldAt e 7 2⟩)
  else none

/-- The verified table that six sections give (R47, R203; 11, section 11.6). -/
def tableOf (s : Sections) : FareTable :=
  let h := sectionBytes s 0
  let b := sectionBytes s 5
  { version := fieldAt h 0 2, station := fieldAt h 2 2, zone := fieldAt h 4 1, minEntry := fieldAt h 5 2, minFare := fieldAt h 7 2,
    passback := fieldAt h 9 1, reentry := fieldAt h 10 1
    bands := (List.range (bandCount b)).filterMap (fun i => (Band.ofCode (bandCode b i)).map (fun k => (bandStart b i, k)))
    peakFares := numbers2 (sectionBytes s 3) 256
    offpeakFares := numbers2 (sectionBytes s 4) 256
    maxFares := numbers2 b 32
    products := (List.range 64).map (fun c => productOf (productBytes s c)) }

end Sys2Proof.Machine
end

