-- ==== Sys2Proof/Machine/GateOps.lean ====
section
/-! DEFINITION. The shared operations of the Gate Controller: command and motion timer, state changes, lock, forfeiture, grants, and
what a change of readiness does to the gates (06, sections 6.2 to 6.5; R192). -/

namespace Sys2Proof.Machine

/-! ### Command, CLOSED and lock -/

/-- The motion timer's length in milliseconds (R111, R114). -/
def LaneConfig.motionMs (c : LaneConfig) : Nat := c.motionTimeout * 100
/-- The open timer's length in milliseconds (R111, R118). -/
def LaneConfig.openMs (c : LaneConfig) : Nat := c.openTime * 1000
/-- The tailgate limit in milliseconds (R111, R133). -/
def LaneConfig.tailgateMs (c : LaneConfig) : Nat := c.tailgate * 100

def Lane.updGate (l : Lane) (f : Gate → Gate) : Lane := { l with gate := f l.gate }

/-- A change of command starts the motion timer, which stops when the report matches; in FAULT none runs (R114, log 29). -/
def Lane.setCommand (l : Lane) (p : Position) : Lane :=
  if l.gate.command = p then l
  else
    l.updGate (fun g =>
      { g with
        command := p
        motion := if g.state = .fault ∨ l.inputs.report.agrees p = true then none else some l.config.motionMs })

/-- The command follows the wanted position, closing only with both beams clear (R114). -/
def Lane.follow (l : Lane) : Lane :=
  match l.gate.wanted with
  | .opened => l.setCommand .opened
  | .closed => if l.inputs.clear then l.setCommand .closed else l

/-- CLOSING becomes CLOSED when the command is closed and the report is CLOSED (R120). -/
def Lane.settleClosing (l : Lane) : Lane :=
  if l.gate.state = .closing ∧ l.gate.command = .closed ∧ l.inputs.report = .closed then
    l.updGate (fun g => { g with state := .closed })
  else l

/-- The mode in force and the lock as a release sets them (R124). -/
def Lane.releaseLock (l : Lane) : Lane := l.updGate (fun g => { g with mode := l.config.mode, lock := lockFor l.config.mode })

/-- The lock is released while its conditions hold (R124). -/
def Lane.settleLock (l : Lane) : Lane := if l.gate.releasable then l.releaseLock else l

/-- What follows every step of a Gate Controller. -/
def Lane.settle (l : Lane) : Lane := l.follow.settleClosing.settleLock

def State.settleGate (s : State) (n : LaneId) : State := s.updLane n Lane.settle

/-! ### Forfeiture (R128) -/

/-- One grant forfeited: its UNUSED GRANT record, its seen update and its count (R128). -/
def State.forfeitGrant (s : State) (n : LaneId) (cause : ForfeitCause) (g : Grant) : State :=
  ((s.record (some n) { RecordFlags.clear with emergency := decide (cause = .emergency) } (.unusedGrant cause g)).sendGrantUpdate n
    false g).updCounters n (fun c => { c with forfeited := saturate Config.max32 c.forfeited })

/-- The whole queue forfeited, oldest grant first (R128). -/
def State.forfeit (s : State) (n : LaneId) (cause : ForfeitCause) : State :=
  ((s.lane n).gate.queue.foldl (fun t g => t.forfeitGrant n cause g) s).updGate n (fun g => { g with queue := [] })

/-! ### State changes -/

/-- Entry to OUT OF SERVICE (R121). -/
def State.enterOutOfService (s : State) (n : LaneId) : State :=
  ((s.updGate n (fun g => { g with openTimer := none, staffHold := false })).forfeit n .service).updGate n
    (fun g => { g with state := .outOfService }) |>.settleGate n

/-- Leaving OUT OF SERVICE (R121). -/
def State.leaveOutOfService (s : State) (n : LaneId) : State :=
  (s.updGate n (fun g => { g with state := if g.emergency then .heldOpen else .closing })).settleGate n

/-- The gate against the service flag and readiness, in any state but FAULT (R121). -/
def State.settleService (s : State) (n : LaneId) : State :=
  let l := s.lane n
  let serves := l.config.service && s.ready
  if l.gate.state = .fault then s
  else if serves = false ∧ l.gate.state ≠ .outOfService then s.enterOutOfService n
  else if serves = true ∧ l.gate.state = .outOfService then s.leaveOutOfService n
  else s

/-- A change of readiness is handed to every Gate Controller (R192). The eight take it in one step, lane 0 first, their UNUSED GRANT
records in that order: the model's choice, log 43. -/
def State.settleReadiness (s : State) (before : Bool) : State :=
  if s.ready = before then s else s.eachLane (fun n t => t.settleService n)

/-! ### Grants (R118, R126) -/

/-- A grant enters the queue, with the effect of the gate's state (R126). -/
def State.enqueue (s : State) (n : LaneId) (g : Grant) : State :=
  (s.updLane n (fun l =>
    l.updGate (fun x =>
      if x.state = .heldOpen then { x with queue := x.queue ++ [g] }
      else { x with queue := x.queue ++ [g], state := .opened, openTimer := some l.config.openMs }))).settleGate n

/-- The Gate Controller refuses a push (R126). -/
def Gate.refusesPush (g : Gate) : Bool := g.shut || g.emergency

/-- The gate in FAULT (R116). -/
def State.gateFault (s : State) (n : LaneId) : State :=
  let s := s.updGate n (fun g => { g with state := .fault, openTimer := none, staffHold := false, motion := none })
  let s := s.forfeit n .fault
  let s := s.record (some n) RecordFlags.clear (.lane (.fault .gate))
  (s.raise .gateFault (.lane n) []).settleGate n

/-- Steps 2 and 3 of a lane reset at the Gate Controller (R137). -/
def State.resetGate (s : State) (n : LaneId) : State :=
  let s := s.forfeit n .reset
  let s := s.updGate n (fun g => { g with openTimer := none, staffHold := false })
  let serves := (s.lane n).config.service && s.ready
  let s := s.updGate n (fun g =>
    { g with state := if serves then (if g.emergency then .heldOpen else .closing) else .outOfService, motion := none })
  s.updLane n (fun l =>
    let l := l.releaseLock.follow
    let l := if l.inputs.report.agrees l.gate.command then l else l.updGate (fun g => { g with motion := some l.config.motionMs })
    l.settleClosing)

end Sys2Proof.Machine
end

