-- ==== Sys2Proof/Machine/FareOps.lean ====
section
/-! DEFINITION. The shared operations of the Fare Store: which table a transaction uses, activation, the retiring table, and the
clearing step of INITIALISE STORE (03, section 3.7; R199). -/

namespace Sys2Proof.Machine

/-- The table of a bound version: the active one, or the retiring one (R70). -/
def FareStore.table (f : FareStore) (version : Nat) : Option FareTable :=
  match f.active with
  | some t => if t.version = version then some t else f.retiring.filter (fun r => r.version == version)
  | none => f.retiring.filter (fun r => r.version == version)

/-- Some running transaction is bound to a version (R70). -/
def State.bound (s : State) (version : Nat) : Bool :=
  laneIds.any (fun n => (s.lane n).engine.boundVersion == some version)

/-- A table that leaves the active place retires while a transaction is bound to it (R69, R199). -/
def State.retire (s : State) (t : Option FareTable) : Option FareTable := t.filter (fun x => s.bound x.version)

/-- A WAITING table whose time has come (R69, R70). -/
def State.activationDue (s : State) : Option FareTable :=
  match s.fare.pending with
  | .waiting t eff => if s.clock.valid = true ∧ eff ≤ s.clock.time ∧ s.fare.retiring.isNone = true then some t else none
  | _ => none

/-- Activation is considered (R69). -/
def State.considerActivation (s : State) : State :=
  match s.activationDue with
  | some t =>
    let before := s.ready
    let s := { s with fare := { active := some t, pending := .none, retiring := s.retire s.fare.active } }
    let s := s.record none RecordFlags.clear (.table t.version)
    (s.raise .tableActivated .part (be 2 t.version)).settleReadiness before
  | none => s

/-- The third clearing step of INITIALISE STORE (R199). -/
def State.clearFare (s : State) : State :=
  let before := s.ready
  ({ s with
     fare := { active := none, pending := .none, retiring := s.retire s.fare.active }
     proc := { s.proc with initStage := 3 } }).settleReadiness before

/-- The retiring table is released when no running transaction is bound to it: a waiting clearing step is made first, then
activation is considered (R70, R199). -/
def State.releaseBinding (s : State) : State :=
  match s.fare.retiring with
  | some t =>
    if s.bound t.version then s
    else
      let s := { s with fare := { s.fare with retiring := none } }
      (if s.initialising = true ∧ s.proc.initStage = 2 then s.clearFare else s).considerActivation
  | none => s

end Sys2Proof.Machine
end

