-- ==== Sys2Proof/Machine/FareStore.lean ====
section
/-! DEFINITION. The requests of the Fare Store, the end of its verification, and activation (03, section 3.7). -/

namespace Sys2Proof.Machine

def State.setPending (s : State) (p : PendingTable) : State := { s with fare := { s.fare with pending := p } }

/-- FARE BEGIN (R65). -/
def fareBegin (r : Request) (s : State) : State × Answer :=
  let version := r.field 4 2
  match s.fare.pending with
  | .verifying .. => (s, .busy)
  | _ =>
    if s.fare.active.any (fun t => t.version == version) then (s, .check (illegalField 4))
    else (s.setPending (.loading version (Vector.replicate 6 none)), .good [])

/-- FARE_BEGIN (R65). -/
def execFareBegin (s : State) (nvwp : Bool := true) : Host.Outcome State Fault Refusal := serveProtected 0x18 fareBegin nvwp s

/-- FARE SECTION (R66). The cases are tested in the order of R66's table, so that of a section both of a wrong data length and already
received the data length is answered: the model's choice, log 50. -/
def fareSection (r : Request) (s : State) : State × Answer :=
  match s.fare.pending with
  | .loading version sections =>
    if h : r.field 4 1 < 6 then
      let k : Fin 6 := ⟨r.field 4 1, h⟩
      if r.dataLength ≠ sectionLength k then (s, .check (illegalField 10))
      else if (sections[k.val]).isSome then
        (s, .check ⟨.orderError, detailSectionRepeated, none, some k.val⟩)
      else (s.setPending (.loading version (sections.set k.val (some r.data))), .good [])
    else (s, .check (illegalField 4))
  | _ => (s, .check (orderError detailNoLoadOpen))

/-- FARE_SECTION (R66). -/
def execFareSection (s : State) (nvwp : Bool := true) : Host.Outcome State Fault Refusal := serveProtected 0x42 fareSection nvwp s

/-- FARE COMMIT (R67, R178). -/
def fareCommit (r : Request) (s : State) : State × Answer :=
  if s.proc.tracker.isSome then (s, .busy)
  else
    match s.fare.pending with
    | .loading version sections => ((s.setPending (.verifying version sections (r.field 4 4))).startLong r, .accepted)
    | _ => (s, .check (orderError detailNoLoadOpen))

/-- FARE_COMMIT (R67). -/
def execFareCommit (s : State) (nvwp : Bool := true) : Host.Outcome State Fault Refusal := serveProtected 0x19 fareCommit nvwp s

/-- Verification ends: the table is WAITING and activation is considered at once, or it is discarded (R68, R69). -/
def State.endFareVerification (s : State) : State :=
  match s.fare.pending with
  | .verifying version sections effective =>
    match verificationFailure version sections with
    | some x => (s.setPending .none).endLong (some x)
    | none => ((s.setPending (.waiting (tableOf sections) effective)).endLong none).considerActivation
  | _ => s

/-- FARE_VERIFICATION_END (R68). -/
def execFareVerificationEnd : State → Host.Outcome State Fault Refusal := whenPowered State.endFareVerification

/-- FARE_TABLE_ACTIVATION: a WAITING table whose time has come becomes active (R69, log 10). -/
def execFareTableActivation : State → Host.Outcome State Fault Refusal := whenPowered State.considerActivation

end Sys2Proof.Machine
end

