-- ==== Sys2Proof/Machine/EngineOps.lean ====
section
/-! DEFINITION. The shared operations of a Lane Engine and its Head Ports: offers, phases, refusals, FINISHING, abandonment, lane
reset, and how a head exchange ends (01, section 1.2; 02; R137). -/

namespace Sys2Proof.Machine

/-! ### Ports and offers (R4 to R8) -/

def State.updPort (s : State) (n : LaneId) (side : Side) (f : Port → Port) : State := s.updLane n (fun l => l.updPort side f)

/-- RELEASE sent to the head (R11, log 32). -/
def Port.sendRelease (p : Port) (r : Release) : Port := { p with releases := p.releases ++ [r] }

/-- A waiting offer of a side withdrawn (R6). -/
def Lane.withdraw (l : Lane) (side : Side) : Lane := { l with waiting := l.waiting.filter (fun o => o.side != side) }

/-- The offer that waits at the port of a side. -/
def Lane.offerAt (l : Lane) (side : Side) : Option Offer := l.waiting.find? (fun o => o.side == side)

/-- An offer made afresh waits at its port; where one already waits, that one takes the new presence and keeps its place (R5, R6). -/
def Lane.offer (l : Lane) (side : Side) (p : Presence) : Lane :=
  let made : Offer := ⟨side, p, l.resetting.isSome⟩
  if (l.offerAt side).isSome then { l with waiting := l.waiting.map (fun o => if o.side = side then made else o) }
  else { l with waiting := l.waiting ++ [made] }

/-- A presence that makes no offer of its own; an offer that waits at the port holds it, being the last (R6, R7). -/
def Lane.showAt (l : Lane) (side : Side) (p : Presence) : Lane :=
  { l with waiting := l.waiting.map (fun o => if o.side = side then { o with presence := p } else o) }

/-- What the re-poll of a lane reset leaves waiting: the offers made during the reset. Those that waited when it was taken are
withdrawn (R13, R43, R137, log 25). -/
def Lane.newOffers (l : Lane) : List Offer := (l.waiting.filter (·.inReset)).map (fun o => { o with inReset := false })

/-- The lane's transaction runs for this side. -/
def Lane.runs (l : Lane) (side : Side) : Bool := l.engine.side == some side

/-- The port has an exchange outstanding that is a READ. -/
def Port.reading (p : Port) : Bool :=
  match p.exchange with
  | some ⟨.read, _⟩ => true
  | _ => false

/-- The port has an exchange outstanding that is a WRITE. -/
def Port.writing (p : Port) : Bool :=
  match p.exchange with
  | some ⟨.write _, _⟩ => true
  | _ => false

/-- The offer an IDLE engine takes: that of the side that holds the lock, else the one that has waited longest (R6). -/
def Lane.chosen (l : Lane) : Option Offer :=
  match l.gate.lock with
  | .s => (l.offerAt .s).or l.waiting.head?
  | .p => (l.offerAt .p).or l.waiting.head?
  | .free => l.waiting.head?

def Presence.identity : Presence → Option Identity
  | .card id => some id
  | _ => Option.none

/-- The context cleared, the engine's copy of the line kept (R19, R143). -/
def Engine.cleared (e : Engine) : Engine := { Engine.reset with lineTaken := e.lineTaken, lineIn := e.lineIn }

/-- An offer taken: the context filled and ADMITTING entered (R6, R19, R20). -/
def Lane.begin_ (l : Lane) (o : Offer) : Lane :=
  { (l.withdraw o.side) with
    engine := { l.engine.cleared with
      phase := .admitting, awaiting := .admission, side := some o.side, presence := some o.presence
      identity := o.presence.identity } }

/-- An IDLE engine takes an offer and makes check 1; a tap refused there ends at once with RELEASE STOP (R6, R11, R21, log 7). -/
def State.takeOffer (s : State) (n : LaneId) : State :=
  let l := s.lane n
  if l.engine.phase = .idle ∧ l.resetting.isNone = true then
    match l.chosen with
    | some o =>
      if s.ready then s.setLane n (l.begin_ o)
      else
        (s.setLane n ((l.withdraw o.side).updPort o.side (fun p => p.sendRelease .stop))).countRefusal n .partNotReady
    | none => s
  else s

/-- Every offer the engine takes before it leaves IDLE; at most two wait (R6). -/
def State.takeOffers (s : State) (n : LaneId) : State := (s.takeOffer n).takeOffer n

/-! ### The end of a transaction (R39) and the lane reset that may wait for it (R137) -/

/-- A port re-polled by a lane reset: RELEASE STOP, POLLING, NONE, POLL sent (R13, log 25). -/
def Port.repolled (p : Port) : Port := { Port.reset with releases := (p.sendRelease .stop).releases }

/-- Steps 2 to 5 of a lane reset; an offer made during it goes on waiting (R43, R137, log 25). -/
def State.finishReset (s : State) (n : LaneId) : State :=
  let s := s.resetGate n
  let s := s.updLane n (fun l =>
    { l with monitor := { state := .clear, resync := !l.inputs.clear, occupancy := none }
             portS := l.portS.repolled, portP := l.portP.repolled, waiting := l.newOffers })
  let s := s.record (some n) RecordFlags.clear (.lane .reset)
  s.updLane n (fun l => { l with resetting := none })

/-- The last step of FINISHING: RELEASE sent, the grant place given back, IDLE entered; a waiting reset is made, and an offer that
waits is taken (R6, R11, R39, R43). -/
def State.endTransaction (s : State) (n : LaneId) : State :=
  let e := (s.lane n).engine
  let release := if e.grantQueued then Release.go else Release.stop
  let s := match e.side with
    | some side => s.updPort n side (fun p => { p.sendRelease release with gone := false, dropped := false })
    | none => s
  let s := s.updLane n (fun l => { l with engine := l.engine.cleared, gate := { l.gate with place := false } })
  let s := (s.settleGate n).releaseBinding
  let s := if (s.lane n).resetting.isSome then s.finishReset n else s
  s.takeOffers n

/-- FINISHING entered with what it has still to do; with nothing to do it ends at once (R20, R39, log 4). -/
def State.finishing (s : State) (n : LaneId) (duties : List Duty) : State :=
  let s := s.updEngine n (fun e => { e with phase := .finishing, awaiting := .nothing, duties := duties })
  if duties.isEmpty then s.endTransaction n else s

/-- The first duty has been done (log 4). -/
def State.dutyDone (s : State) (n : LaneId) : State :=
  let rest := (s.lane n).engine.duties.drop 1
  let s := s.updEngine n (fun e => { e with duties := rest })
  if rest.isEmpty then s.endTransaction n else s

/-- A duty is the engine's next. -/
def State.owes (s : State) (n : LaneId) (d : Duty) : Bool := (s.lane n).engine.duties.head? == some d

/-- A refusal counted, its code in the outcome, no grant (R20, R23). -/
def State.markRefused (s : State) (n : LaneId) (r : RefusalCode) : State :=
  (s.countRefusal n r).updEngine n (fun e => { e with refusal := some r, grantKind := none, charge := none, newImage := none })

/-- A refusal, and FINISHING with what it has to do (R20, R39). -/
def State.refuse (s : State) (n : LaneId) (r : RefusalCode) (duties : List Duty) : State := (s.markRefused n r).finishing n duties

/-- Releasing the claim, when one is held. -/
def State.claimDuty (s : State) (n : LaneId) : List Duty := if (s.claim n).isSome then [.releaseClaim] else []

/-- A refusal of a verified card (R39 to R41). -/
def State.refuseCard (s : State) (n : LaneId) (r : RefusalCode) : State :=
  s.refuse n r ([.cardRecord, .seenUpdate] ++ s.claimDuty n)

/-- A refusal that raises a clone alarm (R74). -/
def State.refuseClone (s : State) (n : LaneId) (r : RefusalCode) : State :=
  (s.updEngine n (fun e => { e with clone := true })).refuse n r ([.localAddition, .cardRecord, .seenUpdate] ++ s.claimDuty n)

/-! ### The CARD record (R41) -/

/-- The bound fare version, or a free value where none was bound (log 16). -/
def State.boundVersionOr (s : State) (e : Engine) : Nat × State :=
  match e.boundVersion with
  | some v => (v, s)
  | none => (s.fresh.1 % 65536, s.fresh.2)

/-- What happened to the card (R41). -/
def Engine.outcome (e : Engine) : CardOutcome :=
  match e.refusal, e.grantKind with
  | some _, _ => .refused
  | none, some .paid => .granted
  | none, _ => .reGranted

/-- The CARD record of a transaction (R41). -/
def Engine.cardBody (e : Engine) (version : Nat) : CardBody :=
  let m := e.image.getD []
  let granted := e.outcome = .granted
  let trip := if granted then e.newImage.getD [] else m
  { outcome := e.outcome
    refusal := e.refusal
    identity := e.identity.getD 0
    direction := e.direction.getD .entry
    product := cardProduct m
    counterRead := cardCounter m
    counterWritten := if granted then some (cardCounter m + 1) else none
    charge := if granted then e.charge.getD 0 else 0
    balanceBefore := cardBalance m
    balanceAfter := if granted then cardBalance trip else cardBalance m
    fareVersion := version
    originStation := cardOriginStation trip
    legs := cardLegs trip
    related := e.related }

/-- The flags of a transaction's record (R41, R44). -/
def Engine.recordFlags (e : Engine) : RecordFlags :=
  { emergency := e.emergency, clone := e.clone, counterfeit := e.counterfeit, unverified := !e.verified, gapFollows := false }

/-- The CARD record appended, its sequence kept for the grant (R39, R41, R154). -/
def State.appendCard (s : State) (n : LaneId) : State :=
  let e := (s.lane n).engine
  let (v, s) := s.boundVersionOr e
  let (s, q) := s.append (some n) e.recordFlags (.card (e.cardBody v))
  s.updEngine n (fun e => { e with cardSeq := q })

/-- The CARD record appended and the reserved slot freed, in one step (R38, R39, R154, R166). -/
def State.recordFreeing (s : State) (n : LaneId) : State :=
  let s := s.appendCard n
  let s := match (s.lane n).engine.slot with
    | some i => s.freeReserved i
    | none => s
  s.updEngine n (fun e => { e with slot := none })

/-- A refusal that frees the reserved slot: no byte has reached the card. The CARD record and the freeing are one step, in which
FINISHING is entered (R18, R36, R39, R97, R166, log 44). -/
def State.refuseFreeing (s : State) (n : LaneId) (r : RefusalCode) : State :=
  ((s.markRefused n r).recordFreeing n).finishing n ([.seenUpdate] ++ s.claimDuty n)

/-! ### The seen update (R40) -/

/-- Outcome, direction and counter of the seen update; no counter stands for "unchanged" (R40). -/
def Engine.seenChange (e : Engine) (n : LaneId) : SeenChange :=
  let m := e.image.getD []
  let d := e.direction.getD .entry
  let read := cardCounter m
  let base : SeenChange := ⟨e.identity.getD 0, n, d, .refused, some read, e.clone⟩
  match e.refusal with
  | some .counterRegression => { base with counter := none }
  | some .tearConflict => { base with counter := none }
  | some _ =>
    match e.landed with
    | some x => { base with outcome := .unused, direction := x.direction, counter := some x.newCounter }
    | none => base
  | none =>
    match e.grantKind with
    | some .paid => { base with outcome := if e.emergency then .unused else .granted, counter := some (read + 1) }
    | some .recovered => { base with outcome := .reGranted, counter := (e.landed.map (·.newCounter)).or (some read) }
    | _ => { base with outcome := .reGranted }

/-! ### Head exchanges ending (R9, R10, R24, R36, R37) -/

/-- The exchange of a port is over. -/
def State.endExchange (s : State) (n : LaneId) (side : Side) : State := s.updPort n side (fun p => { p with exchange := none })

/-- READ LOST or READ FAULT (R24). -/
def State.readFails (s : State) (n : LaneId) (r : RefusalCode) : State := s.refuse n r []

/-- LOST-BEFORE: the transaction is refused CARD REMOVED, its slot freed with the CARD record (R36, R39, R166, log 44). -/
def State.lostBefore (s : State) (n : LaneId) : State := s.refuseFreeing n .cardRemoved

/-- The reserved slot becomes OPEN, with the context's emergency flag (R37, R98). -/
def State.tear (s : State) (n : LaneId) : State :=
  let e := (s.lane n).engine
  let s := match e.slot with
    | some i => s.openReserved i e.emergency
    | none => s
  s.updEngine n (fun e => { e with slot := none, grantKind := none, charge := none, newImage := none })

/-- LOST-DURING: the slot opens, and FINISHING has no record and no grant (R37). -/
def State.lostDuring (s : State) (n : LaneId) : State := (s.tear n).finishing n (s.claimDuty n)

/-- DONE: the CARD record appended and the slot freed in one step; then the seen update, the push unless the emergency flag is set,
and the release of the claim (R35, R39, R44). -/
def State.writeDone (s : State) (n : LaneId) : State :=
  (s.recordFreeing n).finishing n ([.seenUpdate] ++ (if (s.lane n).engine.emergency then [] else [.push]) ++ s.claimDuty n)

/-- A port enters FAULT: presence NONE, the offer withdrawn, one LANE record, one HEAD FAULT event, and its exchange ended as R9 or
R10 lays down (R12). -/
def State.portFault (s : State) (n : LaneId) (side : Side) : State :=
  let p := (s.lane n).port side
  let s := s.updLane n (fun l =>
    (l.withdraw side).updPort side (fun p =>
      { p with state := .fault, presence := .none, exchange := none, dropped := true, pollTimer := Config.faultPollPeriod }))
  let s := s.record (some n) RecordFlags.clear (.lane (.fault (.head side)))
  let s := s.raise .headFault (.lane n) [sideCode side]
  if p.reading then s.readFails n .readFault
  else if p.writing then s.lostDuring n
  else s

/-! ### Settling a slot (R100) -/

/-- The Recovery Table settles the slot that holds the transaction's identity, if one is OPEN, and answers its outcome; the engine
keeps the sequence and what landed (R28, R100). -/
def State.resolve (s : State) (n : LaneId) : State × Option TearOutcome :=
  let e := (s.lane n).engine
  match e.identity.bind s.openSlot with
  | some i =>
    match s.slot i with
    | .opened f _ _ _ =>
      let m := e.image.getD []
      let outcome := classify f (cardCounter m) m
      let (s, q) := s.closeSlot i outcome n
      let landed := if outcome = .landed then some (Landed.mk f.direction f.newCounter) else none
      (s.updEngine n (fun e => { e with related := q, landed := landed }), some outcome)
    | _ => (s, none)
  | none => (s, none)

/-! ### Abandonment and reset (R43, R44) -/

/-- What an abandoned transaction does in FINISHING (R43). -/
def State.abandonDuties (s : State) (n : LaneId) : List Duty :=
  (if (s.lane n).engine.verified then [.cardRecord, .seenUpdate] else []) ++ s.claimDuty n

/-- A transaction in ADMITTING, READING, CHECKING or RESOLVING is abandoned; a resolution is completed first (R43, R44). -/
def State.abandon (s : State) (n : LaneId) (r : RefusalCode) : State :=
  let e := (s.lane n).engine
  let s := if e.phase = .resolving then (s.resolve n).1 else s
  let s := match e.side with
    | some side => if ((s.lane n).port side).reading then s.endExchange n side else s
    | none => s
  s.refuse n r (s.abandonDuties n)

/-- The engine takes a reset by phase (R43, R137). In WRITING the slot opens as at LOST-DURING: no record, no grant and no refusal
counted (R37, R110, log 20). -/
def State.resetEngine (s : State) (n : LaneId) : State :=
  let e := (s.lane n).engine
  match e.phase with
  | .idle => (s.finishReset n).takeOffers n
  | .finishing => s
  | .writing =>
    let s := match e.side with
      | some side => s.endExchange n side
      | none => s
    s.lostDuring n
  | .admitting => s.abandon n .laneReset
  | .reading => s.abandon n .laneReset
  | .checking => s.abandon n .laneReset
  | .resolving => s.abandon n .laneReset

/-- A lane reset is taken (R137). -/
def State.resetLane (s : State) (n : LaneId) (k : ResetKind) : State :=
  (s.updLane n (fun l => { l with resetting := some k })).resetEngine n

end Sys2Proof.Machine
end

