-- ==== Sys2Proof/Machine/Gate.lean ====
section
/-! DEFINITION. Gate Controller and Passage Monitor: timers, actuator, beams, completed passages, and the emergency line taken by the
gate (06, sections 6.2 to 6.7). -/

namespace Sys2Proof.Machine

/-! ### Timers -/

/-- The open timer expires: the queue is forfeited with cause timer and the gate enters CLOSING (R119). -/
def State.openTimerExpires (s : State) (n : LaneId) : State :=
  if (s.lane n).gate.openTimer.isSome then
    (((s.updGate n (fun g => { g with openTimer := none })).forfeit n .timer).updGate n
      (fun g => { g with state := .closing })).settleGate n
  else s

/-- OPEN_TIMER_EXPIRY (R119, log 3). -/
def execOpenTimerExpiry (n : LaneId) : State → Host.Outcome State Fault Refusal := whenPowered (fun s => s.openTimerExpires n)

/-- MOTION_TIMER_EXPIRY: the gate in FAULT (R116, log 3). -/
def execMotionTimerExpiry (n : LaneId) : State → Host.Outcome State Fault Refusal :=
  whenPowered (fun s => if (s.lane n).gate.motion.isSome then s.gateFault n else s)

/-! ### Actuator (R114, R115, R120) -/

/-- The report lines change: a match stops the motion timer; a match lost with no timer running starts it, but not in FAULT. -/
def Lane.actuator (l : Lane) (gsa gsb : Bool) : Lane :=
  let before := l.inputs.report.agrees l.gate.command
  let l := { l with inputs := { l.inputs with gsa := gsa, gsb := gsb } }
  let after := l.inputs.report.agrees l.gate.command
  if after then l.updGate (fun g => { g with motion := none })
  else if before = true ∧ l.gate.motion.isNone = true ∧ l.gate.state ≠ .fault then
    l.updGate (fun g => { g with motion := some l.config.motionMs })
  else l

/-- The levels of the report lines alone, as a part without power leaves them (log 31). -/
def State.setReportLines (s : State) (n : LaneId) (gsa gsb : Bool) : State :=
  s.updLane n (fun l => { l with inputs := { l.inputs with gsa := gsa, gsb := gsb } })

/-- ACTUATOR_REPORT (R114, R115, R120). -/
def execActuatorReport (n : LaneId) (gsa gsb : Bool) (s : State) : Host.Outcome State Fault Refusal :=
  .next (if s.powered then (s.updLane n (fun l => l.actuator gsa gsb)).settleGate n else s.setReportLines n gsa gsb)

/-! ### Beams and the Passage Monitor (R129 to R131) -/

/-- The monitor's next state (R129). -/
def PassageState.next : PassageState → Side → Bool → PassageState
  | .clear, .s, true => .s1
  | .clear, .p, true => .p1
  | .s1, .s, false => .clear
  | .s1, .p, true => .spIn
  | .spIn, .s, false => .p2
  | .spIn, .p, false => .s1
  | .p2, .s, true => .spIn
  | .p2, .p, false => .clear
  | .p1, .s, true => .psOut
  | .p1, .p, false => .clear
  | .psOut, .s, false => .p1
  | .psOut, .p, false => .s2
  | .s2, .s, false => .clear
  | .s2, .p, true => .psOut
  | x, _, _ => x

/-- The direction of the passage that ends when the last beam clears (R129). -/
def PassageState.completes : PassageState → Side → Option Direction
  | .p2, .p => some .entry
  | .s2, .s => some .exit
  | _, _ => none

/-- A return to CLEAR that is a balk (R129, R130). -/
def PassageState.balks : PassageState → Side → Bool
  | .s1, .s => true
  | .p1, .p => true
  | _, _ => false

/-- The beam of a side. -/
def LaneInputs.beam (i : LaneInputs) : Side → Bool
  | .s => i.beamS
  | .p => i.beamP

def LaneInputs.setBeam (i : LaneInputs) (side : Side) (broken : Bool) : LaneInputs :=
  match side with
  | .s => { i with beamS := broken }
  | .p => { i with beamP := broken }

/-- The monitor at a beam's change; the occupancy timer starts at leaving CLEAR and stops at returning (R130). -/
def Monitor.after (m : Monitor) (side : Side) (broken : Bool) : Monitor :=
  let x := m.state.next side broken
  { m with state := x
           occupancy := if x = .clear then none else if m.state = .clear then some 0 else m.occupancy }

/-- A beam being broken while a command to close is in motion makes the command open again, but not in CLOSED, where a running motion
timer is that of a report lost (R114, R115, R120, log 30). -/
def Lane.reverse (l : Lane) : Lane :=
  if l.gate.command = .closed ∧ l.gate.motion.isSome = true ∧ l.gate.state ≠ .closed then l.setCommand .opened else l

/-- A beam broken (R114, R129). -/
def Lane.breakBeam (l : Lane) (side : Side) : Lane :=
  let l := { l with inputs := l.inputs.setBeam side true }
  let l := if l.monitor.resync then l else { l with monitor := l.monitor.after side true }
  l.reverse

/-- What a beam's clearing hands on: a completed passage to the Gate Controller, or a balk to its counter (R130). -/
def Lane.handOver (l : Lane) (side : Side) : Lane :=
  match l.monitor.state.completes side with
  | some d => l.updGate (fun g => { g with passages := g.passages ++ [⟨d, l.monitor.occupancy.getD 0⟩] })
  | none =>
    if l.monitor.state.balks side then { l with counters := { l.counters with balk := saturate Config.max32 l.counters.balk } }
    else l

/-- A beam cleared; the resync flag is cleared once both beams are clear (R114, R129 to R131). -/
def Lane.clearBeam (l : Lane) (side : Side) : Lane :=
  let l := { l with inputs := l.inputs.setBeam side false }
  if l.monitor.resync then { l with monitor := { l.monitor with resync := !l.inputs.clear } }
  else
    let l := l.handOver side
    { l with monitor := l.monitor.after side false }

/-- The level of a beam alone, as a part without power leaves it (log 31). -/
def State.setBeamLine (s : State) (n : LaneId) (side : Side) (broken : Bool) : State :=
  s.updLane n (fun l => { l with inputs := l.inputs.setBeam side broken })

/-- A beam's event in a powered part; a beam that already has the level makes none (log 1). -/
def State.beamEvent (s : State) (n : LaneId) (side : Side) (broken : Bool) (f : Lane → Lane) : State :=
  if (s.lane n).inputs.beam side = broken then s
  else if s.powered then (s.updLane n f).settleGate n
  else s.setBeamLine n side broken

/-- BEAM_BROKEN (R114, R129). -/
def execBeamBroken (n : LaneId) (side : Side) (s : State) : Host.Outcome State Fault Refusal :=
  .next (s.beamEvent n side true (fun l => l.breakBeam side))

/-- BEAM_CLEAR (R114, R129 to R131). -/
def execBeamClear (n : LaneId) (side : Side) (s : State) : Host.Outcome State Fault Refusal :=
  .next (s.beamEvent n side false (fun l => l.clearBeam side))

/-! ### Completed passages (R132, R133) -/

/-- The data of a passage event (11, section 11.8). -/
def Passage.data (p : Passage) : List Byte := [p.direction.code] ++ be 2 p.occupancy

/-- An anomaly: its PASSAGE record and its event at the lane (R132). -/
def State.anomaly (s : State) (n : LaneId) (p : Passage) (cls : PassageClass) (kind : NoticeKind) : State :=
  (s.record (some n) RecordFlags.clear (.passage cls p.direction p.occupancy)).raise kind (.lane n) p.data

/-- The oldest grant is consumed: a passage update is sent, and a queue emptied in OPEN sends the gate to CLOSING (R79, R119). -/
def State.consume (s : State) (n : LaneId) : State :=
  match (s.lane n).gate.queue with
  | g :: rest =>
    let s := s.sendGrantUpdate n true g
    s.updGate n (fun x =>
      if x.state = .opened ∧ rest.isEmpty = true then { x with queue := rest, state := .closing, openTimer := none }
      else { x with queue := rest })
  | [] => s

/-- Whether the oldest grant is in a direction. -/
def Gate.grantIn (g : Gate) (d : Direction) : Bool :=
  match g.queue with
  | x :: _ => x.direction == d
  | [] => false

/-- A PAID passage, with its tailgate test (R132, R133). -/
def State.paidPassage (s : State) (n : LaneId) (p : Passage) : State :=
  let suspect : Bool := decide ((s.lane n).config.tailgateMs < p.occupancy)
  let s := (s.consume n).updCounters n (fun c => { c with paid := saturate Config.max32 c.paid })
  if suspect then
    (s.anomaly n p .tailgateSuspect .tailgateSuspect).updCounters n
      (fun c => { c with tailgateSuspect := saturate Config.max32 c.tailgateSuspect })
  else s

/-- An EMERGENCY passage: its counter, and the assertion's count of its direction (R132, R135). R135 states the stop at 4,294,967,295
for the nine passage counters only; that the two assertion counts stop there as well is the model's choice, log 53. -/
def Counters.emergencyPassage (c : Counters) (d : Direction) : Counters :=
  let c := { c with emergency := saturate Config.max32 c.emergency }
  match d with
  | .entry => { c with emergencyEntry := saturate Config.max32 c.emergencyEntry }
  | .exit => { c with emergencyExit := saturate Config.max32 c.emergencyExit }

/-- The class of a completed passage and its effects, by the first line of the table that applies (R132). -/
def State.classifyPassage (s : State) (n : LaneId) (p : Passage) : State :=
  let g := (s.lane n).gate
  if g.emergency then s.updCounters n (fun c => c.emergencyPassage p.direction)
  else if g.state = .heldOpen then
    (if g.grantIn p.direction then s.consume n else s).updCounters n (fun c => { c with held := saturate Config.max32 c.held })
  else if g.grantIn p.direction then s.paidPassage n p
  else if g.state = .closed ∨ g.shut = true then
    (s.anomaly n p .forced .forcedPassage).updCounters n (fun c => { c with forced := saturate Config.max32 c.forced })
  else if g.queue.isEmpty = false then
    (s.anomaly n p .counterflow .counterflow).updCounters n
      (fun c => { c with counterflow := saturate Config.max32 c.counterflow })
  else (s.anomaly n p .unpaid .unpaidPassage).updCounters n (fun c => { c with unpaid := saturate Config.max32 c.unpaid })

/-- The Gate Controller takes the oldest completed passage (R132). -/
def State.takePassage (s : State) (n : LaneId) : State :=
  match (s.lane n).gate.passages with
  | p :: rest => ((s.updGate n (fun g => { g with passages := rest })).classifyPassage n p).settleGate n
  | [] => s

/-- PASSAGE_COMPLETED (R132). -/
def execPassageCompleted (n : LaneId) : State → Host.Outcome State Fault Refusal := whenPowered (fun s => s.takePassage n)

/-! ### The emergency line at the gate (R123, R141) -/

/-- The gate's state after the assertion (R123). -/
def GateState.held : GateState → GateState
  | .outOfService => .outOfService
  | .fault => .fault
  | _ => .heldOpen

/-- The assertion taken (R123). -/
def State.gateAsserts (s : State) (n : LaneId) : State :=
  let s := (s.updGate n (fun g => { g with emergency := true, openTimer := none })).forfeit n .emergency
  ((s.updGate n (fun g => { g with state := g.state.held })).updCounters n
    (fun c => { c with emergencyEntry := 0, emergencyExit := 0 })).settleGate n

/-- The release taken: the summary record, then the cause cleared and HELD OPEN left unless the staff hold is set (R123, R141). -/
def State.gateReleases (s : State) (n : LaneId) : State :=
  let c := (s.lane n).counters
  let s := s.record (some n) RecordFlags.clear (.emergencySummary c.emergencyEntry c.emergencyExit)
  (s.updGate n (fun g =>
    { g with emergency := false, state := if g.state = .heldOpen ∧ g.staffHold = false then .closing else g.state })).settleGate n

/-- A change of the line handed to the gate, taken when it is the oldest (R140, R141, log 8). -/
def State.gateTakes (s : State) (n : LaneId) (c : LineChange) (f : State → State) : State :=
  match (s.lane n).gate.lineIn with
  | x :: rest => if x = c then f (s.updGate n (fun g => { g with lineIn := rest })) else s
  | [] => s

/-- GATE_TAKES_ASSERTION (R123). -/
def execGateTakesAssertion (n : LaneId) : State → Host.Outcome State Fault Refusal :=
  whenPowered (fun s => s.gateTakes n .assertion (fun s => s.gateAsserts n))

/-- GATE_TAKES_RELEASE (R123, R141). -/
def execGateTakesRelease (n : LaneId) : State → Host.Outcome State Fault Refusal :=
  whenPowered (fun s => s.gateTakes n .release (fun s => s.gateReleases n))

end Sys2Proof.Machine
end

