-- ==== Sys2Proof/Machine/Transaction.lean ====
section
/-! DEFINITION. The steps of a card transaction at the shared blocks: admission, screening, resolution, the product and fare checks,
the reservation with the start of the write, and the steps of FINISHING (02; 03; 04; 05). -/

namespace Sys2Proof.Machine

/-- The engine waits for this answer. -/
def State.waits (s : State) (n : LaneId) (a : Awaiting) : Bool := (s.lane n).engine.awaiting == a

/-- A step of FINISHING, made when it is the engine's next (R39, log 4). -/
def State.duty (s : State) (n : LaneId) (d : Duty) (f : State → State) : State := if s.owes n d then (f s).dutyDone n else s

/-! ### Admission (R21, R22) -/

/-- Checks 2 to 5 in order (R21, R124). -/
def Lane.admissionRefusal (l : Lane) (side : Side) : Option RefusalCode :=
  if l.config.service = false ∨ l.gate.shut = true ∨ l.gate.mode.admits side = false ∨ (l.port side).state ≠ .ready then
    some .laneClosed
  else if l.gate.emergency then some .emergency
  else if l.gate.lock ≠ .free ∧ l.gate.lock ≠ sideLock side then some .oppositeFlow
  else if 2 ≤ l.gate.queue.length then some .laneFull
  else none

/-- The lock taken and one grant place held (R21, R124). -/
def Lane.admitted (l : Lane) (side : Side) : Lane := l.updGate (fun g => { g with lock := sideLock side, place := true })

/-- The engine has taken an assertion that the gate has yet to take: it holds the line as taken, and the gate has more changes left
to take than the engine has (R143, log 8). -/
def Lane.gateBehind (l : Lane) : Bool := l.engine.lineTaken && decide (l.engine.lineIn.length < l.gate.lineIn.length)

/-- The Gate Controller's answer to checks 2 to 5; an admission that passed only because the gate has not yet taken the engine's
assertion is abandoned, one that passed after a release goes on (R21, R143). -/
def State.requestAdmission (s : State) (n : LaneId) : State :=
  if s.waits n .admission then
    match (s.lane n).engine.side with
    | some side =>
      match (s.lane n).admissionRefusal side with
      | some r => s.refuse n r []
      | none =>
        let s := s.updLane n (fun l => l.admitted side)
        if (s.lane n).gateBehind then s.refuse n .emergency []
        else s.updEngine n (fun e => { e with awaiting := .journal })
    | none => s
  else s

/-- ADMISSION_REQUEST: checks 2 to 5 at the Gate Controller (R21, R124, R143). -/
def execAdmissionRequest (n : LaneId) : State → Host.Outcome State Fault Refusal := whenPowered (fun s => s.requestAdmission n)

/-- A READ asked of the port: READ FAULT of a port that is not READY, READ LOST when the presence is not the transaction's
identity, else READ sent (R8, R9, R24, log 34). -/
def State.askRead (s : State) (n : LaneId) (side : Side) (id : Identity) : State :=
  let s := s.updPort n side (fun p => { p with gone := false, dropped := false })
  let p := (s.lane n).port side
  if p.state ≠ .ready then s.readFails n .readFault
  else if p.presence ≠ .card id then s.readFails n .readLost
  else
    (s.updPort n side (fun p => { p with exchange := some ⟨.read, Config.headTimer⟩ })).updEngine n
      (fun e => { e with phase := .reading, awaiting := .nothing })

/-- Check 6 and what follows it: the bindings, then TWO CARDS or the READ (R21, R22, R24, R160). -/
def State.askJournal (s : State) (n : LaneId) : State :=
  if s.waits n .journal then
    if s.journal.admits then
      match (s.lane n).engine.side with
      | some side =>
        let s := s.updEngine n (fun e =>
          { e with
            direction := some (sideDirection side)
            admissionTime := some s.clock.time
            boundVersion := s.fare.active.map (·.version)
            boundLevel := some (s.lane n).config.level })
        match (s.lane n).engine.identity with
        | some id => s.askRead n side id
        | none => s.refuse n .twoCards []
      | none => s
    else s.refuse n .journalFull []
  else s

/-- JOURNAL_ADMISSION_CHECK: check 6, the bindings, and check 7 or the READ (R22, R24, R160). -/
def execJournalAdmissionCheck (n : LaneId) : State → Host.Outcome State Fault Refusal := whenPowered (fun s => s.askJournal n)

/-! ### Screening (R26 to R29) -/

/-- HOTLIST HIT's data: identity, then ACTIVE or LOCAL (11, section 11.8). -/
def State.hotHitData (s : State) (id : Identity) : List Byte := idBytes id ++ [if s.hot.active.holds id then 0 else 1]

/-- Check 13 (R26, R83). -/
def State.lookUpHotList (s : State) (n : LaneId) : State :=
  if s.waits n .hotlist then
    let id := (s.lane n).engine.identity.getD 0
    if s.hot.active.holds id || s.hot.localHolds id then
      (s.raise .hotlistHit (.lane n) (s.hotHitData id)).refuseCard n .hotlisted
    else s.updEngine n (fun e => { e with awaiting := .claim })
  else s

/-- HOTLIST_LOOKUP: check 13 (R26, R83). -/
def execHotlistLookup (n : LaneId) : State → Host.Outcome State Fault Refusal := whenPowered (fun s => s.lookUpHotList n)

/-- Check 14; a claim given goes on to check 15, RESOLVING when an OPEN slot holds the identity (R27, R28, R72). -/
def State.requestClaim (s : State) (n : LaneId) : State :=
  if s.waits n .claim then
    let id := (s.lane n).engine.identity.getD 0
    if (s.holder n id).isSome then s.refuseClone n .inUseElsewhere
    else
      (s.setClaim n (some id)).updEngine n (fun e =>
        { e with phase := if (s.openSlot id).isSome then .resolving else .checking, awaiting := .resolution })
  else s

/-- CLAIM_REQUEST: check 14 (R27, R72). -/
def execClaimRequest (n : LaneId) : State → Host.Outcome State Fault Refusal := whenPowered (fun s => s.requestClaim n)

/-- CLAIM_RELEASE: the lane's entry is emptied (R39, R72). -/
def execClaimRelease (n : LaneId) : State → Host.Outcome State Fault Refusal :=
  whenPowered (fun s => s.duty n .releaseClaim (fun s => s.setClaim n none))

/-! ### Checks 16 to 24 -/

/-- The bound table (R70). -/
def State.boundTable (s : State) (n : LaneId) : Option FareTable := (s.lane n).engine.boundVersion.bind s.fare.table

/-- The product of the card in the bound table (R30). -/
def State.boundProduct (s : State) (n : LaneId) : Option (FareTable × Product) :=
  match s.boundTable n with
  | some f => (f.product (cardProduct ((s.lane n).engine.image.getD []))).map (fun p => (f, p))
  | none => none

/-- Check 23 on a computed result; when it passes the outcome is complete and check 24 is asked (R32, R63). -/
def State.takeComputed (s : State) (n : LaneId) (f : FareTable) (p : Product) (c : Computed) : State :=
  let e := (s.lane n).engine
  let m := e.image.getD []
  match fundsRefusal (e.direction.getD .entry) f p m c with
  | some r => s.refuseCard n r
  | none =>
    s.updEngine n (fun e =>
      { e with phase := .checking, awaiting := .reservation, grantKind := some .paid, charge := some c.charge
               newImage := some (newBytes m (cardBalance m - c.charge) c.rides c.trip ++ zeros 8) })

/-- A re-grant goes to FINISHING with no write (R31, R37). -/
def State.reGrant (s : State) (n : LaneId) (k : GrantKind) : State :=
  (s.updEngine n (fun e => { e with grantKind := some k, charge := some 0 })).finishing n
    ([.cardRecord, .seenUpdate, .push] ++ s.claimDuty n)

/-- Check 22 (R31). -/
def State.tripCheck (s : State) (n : LaneId) (f : FareTable) (p : Product) : State :=
  let e := (s.lane n).engine
  let m := e.image.getD []
  let seen := usable (s.seenLookup (e.identity.getD 0)) (cardCounter m)
  match tripRules (e.direction.getD .entry) f p m seen (e.admissionTime.getD 0) with
  | .reGrant => s.reGrant n .reGranted
  | .refuse r => s.refuseCard n r
  | .unclosed => s.updEngine n (fun e => { e with phase := .checking, awaiting := .incident })
  | .computed c => s.takeComputed n f p c

/-- Checks 18 to 22 (R30, R31). -/
def State.productChecks (s : State) (n : LaneId) : State :=
  let e := (s.lane n).engine
  let m := e.image.getD []
  let day := e.admissionTime.getD 0 / secondsPerDay
  if cardExpiryDay m < day then s.refuseCard n .cardExpired
  else
    match s.boundProduct n with
    | none => s.refuseCard n .unknownProduct
    | some (f, p) =>
      match productRefusal p m (e.boundLevel.getD 0) day with
      | some r => s.refuseCard n r
      | none => s.tripCheck n f p

/-- Check 16 (R29). -/
def State.regressed (s : State) (n : LaneId) : Bool :=
  let e := (s.lane n).engine
  match s.seenLookup (e.identity.getD 0) with
  | some x => decide (cardCounter (e.image.getD []) < x.counter)
  | none => false

/-- From check 16 on (R29 to R31). -/
def State.screenCounter (s : State) (n : LaneId) : State :=
  if s.regressed n then s.refuseClone n .counterRegression
  else if cardCounter ((s.lane n).engine.image.getD []) = Config.lastCounter then s.refuseCard n .counterExhausted
  else s.productChecks n

/-- Check 15 and what follows its answer (R28, R100 to R103). -/
def State.requestResolution (s : State) (n : LaneId) : State :=
  if s.waits n .resolution then
    let d := (s.lane n).engine.direction.getD .entry
    let (s, answer) := s.resolve n
    match answer with
    | some .landed =>
      if (s.lane n).engine.landed.map (·.direction) = some d then s.reGrant n .recovered else s.refuseCard n .wrongDirection
    | some .conflict => s.refuseClone n .tearConflict
    | _ => s.screenCounter n
  else s

/-- RESOLUTION_REQUEST: check 15, and checks 16 to 22 or 23 where it leads on to them (R28 to R32, R100). -/
def execResolutionRequest (n : LaneId) : State → Host.Outcome State Fault Refusal := whenPowered (fun s => s.requestResolution n)

/-- The Incident List's answer, the unclosed-trip charge and check 23 (R55, R63, R150). -/
def State.askIncident (s : State) (n : LaneId) : State :=
  if s.waits n .incident then
    match s.boundProduct n with
    | some (f, p) =>
      let e := (s.lane n).engine
      let m := e.image.getD []
      let now := e.admissionTime.getD 0
      s.takeComputed n f p (unclosedEntry f p m (s.incidents.answer (cardOriginStation m) (cardOriginTime m) now) now)
    | none => s.refuseCard n .unknownProduct
  else s

/-- INCIDENT_QUERY: whether an incident covers an unclosed trip, and the entry that follows (R55, R150). -/
def execIncidentQuery (n : LaneId) : State → Host.Outcome State Fault Refusal := whenPowered (fun s => s.askIncident n)

/-- The fields a reservation keeps (R33, R97). -/
def Engine.slotFields (e : Engine) (n : LaneId) : SlotFields :=
  let m := e.image.getD []
  { identity := e.identity.getD 0, lane := n, direction := e.direction.getD .entry, oldCounter := cardCounter m,
    newCounter := cardCounter m + 1, charge := e.charge.getD 0, newImage := e.newImage.getD [] }

/-- The port answers the WRITE LOST-BEFORE itself (R8, R10, R34). -/
def Port.answersItself (p : Port) : Bool := p.state != .ready || p.gone || p.dropped

/-- WRITING entered: the check value is produced, then the image is given to the port (R10, R18, R34). -/
def State.startWrite (s : State) (n : LaneId) (i : SlotId) : State :=
  let e := (s.lane n).engine
  match s.keyFor (cardGeneration (e.image.getD [])) with
  | none => s.refuseFreeing n .unknownKey
  | some k =>
    let image := withCheck k (e.newImage.getD [])
    let s := s.updEngine n (fun e => { e with newImage := some image })
    let s := s.setSlot i (.reserved ((s.lane n).engine.slotFields n))
    match e.side with
    | some side =>
      if ((s.lane n).port side).answersItself then s.lostBefore n
      else s.updPort n side (fun p => { p with exchange := some ⟨.write image, Config.headTimer⟩ })
    | none => s

/-- Check 24 (R33, R97). -/
def State.requestReservation (s : State) (n : LaneId) : State :=
  if s.waits n .reservation then
    if (s.lane n).gate.shut then s.refuseCard n .laneClosed
    else
      match s.freeSlot with
      | none => s.refuseCard n .recoveryFull
      | some i =>
        let s := s.setSlot i (.reserved ((s.lane n).engine.slotFields n))
        (s.updEngine n (fun e => { e with phase := .writing, awaiting := .nothing, slot := some i })).startWrite n i
  else s

/-- RESERVATION_REQUEST: check 24, and the start of the write (R33, R34, R97). -/
def execReservationRequest (n : LaneId) : State → Host.Outcome State Fault Refusal := whenPowered (fun s => s.requestReservation n)

/-! ### FINISHING (R39) -/

/-- The clone alarm's addition and event (R74). -/
def State.cloneAlarm (s : State) (n : LaneId) : State :=
  let e := (s.lane n).engine
  let id := e.identity.getD 0
  (s.addLocal n id).raise .cloneAlarm (.lane n) (idBytes id ++ [(e.refusal.getD .inUseElsewhere).code])

/-- LOCAL_ADDITION: the clone alarm's addition to the local list, then its event (R74, R91). -/
def execLocalAddition (n : LaneId) : State → Host.Outcome State Fault Refusal :=
  whenPowered (fun s => s.duty n .localAddition (fun s => s.cloneAlarm n))

/-- JOURNAL_APPEND: the CARD record of a transaction in FINISHING (R39, R41, R154, log 4). -/
def execJournalAppend (n : LaneId) : State → Host.Outcome State Fault Refusal :=
  whenPowered (fun s => s.duty n .cardRecord (fun s => s.appendCard n))

/-- SEEN_UPDATE: the transaction's update of the Seen-Card Table (R40, R77). -/
def execSeenUpdate (n : LaneId) : State → Host.Outcome State Fault Refusal :=
  whenPowered (fun s => s.duty n .seenUpdate (fun s => s.takeSeenChange ((s.lane n).engine.seenChange n)))

/-- The grant a transaction pushes (R39). -/
def State.grantOf (s : State) (n : LaneId) : Grant :=
  let e := (s.lane n).engine
  ⟨some (e.identity.getD 0), e.direction.getD .entry, e.grantKind.getD .paid, s.clock.time, e.cardSeq⟩

/-- The Gate Controller takes a push: refused with the place given back and a forfeiture update, or queued (R39, R126). -/
def State.push (s : State) (n : LaneId) : State :=
  let g := s.grantOf n
  let refused := (s.lane n).gate.refusesPush
  let s := s.updGate n (fun x => { x with place := false })
  if refused then (s.settleGate n).sendGrantUpdate n false g
  else (s.enqueue n g).updEngine n (fun e => { e with grantQueued := true })

/-- GRANT_PUSH: the push of a transaction's grant (R39, R126). -/
def execGrantPush (n : LaneId) : State → Host.Outcome State Fault Refusal :=
  whenPowered (fun s => s.duty n .push (fun s => s.push n))

/-- The oldest passage or forfeiture update is applied (R79). -/
def State.applyGrantUpdate (s : State) : State :=
  match s.seen.inbox with
  | u :: rest => { s with seen := { s.seen with inbox := rest } }.takeGrantUpdate u
  | [] => s

/-- PASSAGE_FORFEITURE_UPDATE: the oldest update that waits is applied (R79, log 6). -/
def execPassageForfeitureUpdate : State → Host.Outcome State Fault Refusal := whenPowered State.applyGrantUpdate

end Sys2Proof.Machine
end

