-- ==== Sys2Proof/Machine/Heads.lean ====
section
/-! DEFINITION. What a Head Port does at each report of its head and at its timers (01, section 1.2). -/

namespace Sys2Proof.Machine

/-- READY (R9 to R11, R13): a POLLING or FAULT port becomes READY; in READY a READ ends READ LOST, a WRITE ends LOST-DURING, and with
nothing outstanding the presence and the offer go (log 23 for the WRITE). -/
def State.headReady (s : State) (n : LaneId) (side : Side) : State :=
  let p := (s.lane n).port side
  match p.state with
  | .polling => s.updPort n side (fun p => { p with state := .ready, exchange := none })
  | .fault => s.updPort n side (fun p => { p with state := .ready, exchange := none })
  | .ready =>
    if p.writing then
      (s.updPort n side (fun p => { p with exchange := none, dropped := true })).lostDuring n
    else
      let s := s.updLane n (fun l =>
        (l.withdraw side).updPort side (fun p => { p with presence := .none, exchange := none, dropped := true }))
      if p.reading then s.readFails n .readLost else s

/-- HEAD_READY (R4, R13). -/
def execHeadReady (n : LaneId) (side : Side) : State → Host.Outcome State Fault Refusal := whenPowered (fun s => s.headReady n side)

/-- FAULT: a port in POLLING or READY enters FAULT; one in FAULT stays (R12). -/
def State.headFaultReport (s : State) (n : LaneId) (side : Side) : State :=
  if ((s.lane n).port side).state = .fault then s else s.portFault n side

/-- HEAD_FAULT_REPORT (R12). -/
def execHeadFaultReport (n : LaneId) (side : Side) : State → Host.Outcome State Fault Refusal :=
  whenPowered (fun s => s.headFaultReport n side)

/-- The head answer timer expires: the port enters FAULT; a POLL in FAULT ends unanswered (R9, R10, R12). -/
def State.headTimeout (s : State) (n : LaneId) (side : Side) : State :=
  let p := (s.lane n).port side
  if p.exchange.isNone then s
  else if p.state = .fault then s.endExchange n side
  else s.portFault n side

/-- HEAD_ANSWER_TIMEOUT (R12). -/
def execHeadAnswerTimeout (n : LaneId) (side : Side) : State → Host.Outcome State Fault Refusal :=
  whenPowered (fun s => s.headTimeout n side)

/-- A port in FAULT sends POLL and starts its timer (R12). -/
def State.faultPoll (s : State) (n : LaneId) (side : Side) : State :=
  if ((s.lane n).port side).state = .fault then
    s.updPort n side (fun p => { p with exchange := some ⟨.poll, Config.headTimer⟩, pollTimer := Config.faultPollPeriod })
  else s

/-- FAULT_POLL (R12). -/
def execFaultPoll (n : LaneId) (side : Side) : State → Host.Outcome State Fault Refusal := whenPowered (fun s => s.faultPoll n side)

/-- PRESENT: a repeat changes nothing; any other sets the presence and offers a tap, which waits while the lane is being reset; one
of the transaction's identity after a GONE lets its WRITE go to the head again (R5, R6, R8, R43). It does not where the port has taken
a READY in READY since the READ, as `dropped` stays: R8 does not say which of its two sentences holds then, the model's choice, log
49. -/
def State.headPresent (s : State) (n : LaneId) (side : Side) (id : Identity) : State :=
  let l := s.lane n
  if (l.port side).presence = .card id then s
  else
    (s.updLane n (fun l =>
      (l.updPort side (fun p =>
        { p with presence := .card id
                 gone := p.gone && !(l.runs side && l.engine.identity == some id) })).offer side (.card id))).takeOffers n

/-- HEAD_PRESENT (R5). -/
def execHeadPresent (n : LaneId) (side : Side) (id : Identity) : State → Host.Outcome State Fault Refusal :=
  whenPowered (fun s => s.headPresent n side id)

/-- MULTIPLE: a repeat changes nothing; any other sets the presence, and offers a tap when no READ or WRITE is outstanding and no
transaction runs at this side; else only an offer that waits takes it (R6, R7). -/
def State.headMultiple (s : State) (n : LaneId) (side : Side) : State :=
  let l := s.lane n
  let p := l.port side
  if p.presence = .multiple then s
  else
    let s := s.updPort n side (fun p => { p with presence := .multiple })
    if p.reading || p.writing || l.runs side then s.updLane n (fun l => l.showAt side .multiple)
    else (s.updLane n (fun l => l.offer side .multiple)).takeOffers n

/-- HEAD_MULTIPLE (R7). -/
def execHeadMultiple (n : LaneId) (side : Side) : State → Host.Outcome State Fault Refusal :=
  whenPowered (fun s => s.headMultiple n side)

/-- GONE: presence NONE and the offer withdrawn; a READ ends READ LOST; a running transaction is marked (R6, R8). -/
def State.headGone (s : State) (n : LaneId) (side : Side) : State :=
  let l := s.lane n
  let reading := (l.port side).reading
  let s := s.updLane n (fun l =>
    (l.withdraw side).updPort side (fun p =>
      { p with presence := .none, exchange := if reading then none else p.exchange, gone := p.gone || l.runs side }))
  if reading then s.readFails n .readLost else s

/-- HEAD_GONE (R8). -/
def execHeadGone (n : LaneId) (side : Side) : State → Host.Outcome State Fault Refusal := whenPowered (fun s => s.headGone n side)

/-- A refusal at checks 9 to 12: IDENTITY MISMATCH and BAD CHECK VALUE set the counterfeit flag and raise COUNTERFEIT ALARM; only a
CARD record follows (R25). -/
def State.refuseUnverified (s : State) (n : LaneId) (r : RefusalCode) (offered : Identity) : State :=
  let counterfeit : Bool := decide (r = .identityMismatch ∨ r = .badCheckValue)
  let s := if counterfeit then s.raise .counterfeitAlarm (.lane n) (idBytes offered ++ [r.code]) else s
  (s.updEngine n (fun e => { e with counterfeit := counterfeit })).refuse n r [.cardRecord]

/-- DATA answers a READ: the image read, CHECKING, and checks 9 to 12 (R9, R25). -/
def State.headData (s : State) (n : LaneId) (side : Side) (m : Image) : State :=
  if ((s.lane n).port side).reading then
    let s := (s.endExchange n side).updEngine n (fun e => { e with phase := .checking, image := some m })
    let offered := (s.lane n).engine.identity.getD 0
    match s.cardRefusal offered m with
    | some r => s.refuseUnverified n r offered
    | none => s.updEngine n (fun e => { e with verified := true, awaiting := .hotlist })
  else s

/-- HEAD_DATA, for the 64 bytes that DATA carries (R9, R25); other data is no message of a head (01, section 1.2; log 40). -/
def execHeadData (n : LaneId) (side : Side) (m : Image) (s : State) : Host.Outcome State Fault Refusal :=
  if m.length = 64 then whenPowered (fun s => s.headData n side m) s else .refused .malformedRecord

/-- An answer to a READ that is outstanding; otherwise it is ignored (R11). -/
def State.answerRead (s : State) (n : LaneId) (side : Side) (f : State → State) : State :=
  if ((s.lane n).port side).reading then f (s.endExchange n side) else s

/-- An answer to a WRITE that is outstanding; otherwise it is ignored (R11). -/
def State.answerWrite (s : State) (n : LaneId) (side : Side) (f : State → State) : State :=
  if ((s.lane n).port side).writing then f (s.endExchange n side) else s

/-- HEAD_LOST: the READ ends READ LOST (R9, R24). -/
def execHeadLost (n : LaneId) (side : Side) : State → Host.Outcome State Fault Refusal :=
  whenPowered (fun s => s.answerRead n side (fun s => s.readFails n .readLost))

/-- HEAD_DONE: the write is confirmed (R10, R35). -/
def execHeadDone (n : LaneId) (side : Side) : State → Host.Outcome State Fault Refusal :=
  whenPowered (fun s => s.answerWrite n side (fun s => s.writeDone n))

/-- HEAD_LOST_BEFORE: the card is unchanged (R10, R36). -/
def execHeadLostBefore (n : LaneId) (side : Side) : State → Host.Outcome State Fault Refusal :=
  whenPowered (fun s => s.answerWrite n side (fun s => s.lostBefore n))

/-- HEAD_LOST_DURING: the outcome is unknown (R10, R37). -/
def execHeadLostDuring (n : LaneId) (side : Side) : State → Host.Outcome State Fault Refusal :=
  whenPowered (fun s => s.answerWrite n side (fun s => s.lostDuring n))

end Sys2Proof.Machine
end

