-- ==== Sys2Proof/Machine/HotList.lean ====
section
/-! DEFINITION. The requests of the Hot List Store and the end of its verification (04, sections 4.3 and 4.4). -/

namespace Sys2Proof.Machine

def State.setHot (s : State) (h : HotStore) : State := { s with hot := h }

/-- HOTLIST BEGIN (R84). -/
def hotlistBegin (r : Request) (s : State) : State × Answer :=
  let version := r.field 4 2
  let total := r.field 6 2
  if Config.bankCapacity < total then (s, .check (illegalField 6))
  else
    match s.hot.load with
    | .verifying .. => (s, .busy)
    | _ => (s.setHot { s.hot with standby := ⟨none, []⟩, complete := false, load := .loading version total 0 none }, .good [])

/-- HOTLIST_BEGIN (R84). -/
def execHotlistBegin (s : State) (nvwp : Bool := true) : Host.Outcome State Fault Refusal := serveProtected 0x10 hotlistBegin nvwp s

/-- The identities of a data block, in order (R85). -/
def identitiesOf (data : List Byte) : List Identity :=
  (List.range (data.length / 8)).map (fun i => idOfBytes (slice data (8 * i) 8))

/-- Storing identities one by one: what is stored, the running count and the last identity, or the sense that ends the segment
(R85). An identity at fault both in order and in excess of the total is refused for its order: the model's choice, log 41. -/
def storeIdentities (total : Nat) : List Identity → Nat → List Identity → Nat → Option Identity →
    Except Sense (List Identity × Nat × Option Identity)
  | [], _, stored, running, last => .ok (stored, running, last)
  | x :: xs, position, stored, running, last =>
    if last.any (fun l => decide (x.toNat ≤ l.toNat)) then
      .error ⟨.illegalRequest, detailHotListOrder, none, some position⟩
    else if total < running + 1 then .error ⟨.illegalRequest, detailHotListCount, none, some total⟩
    else storeIdentities total xs (position + 1) (stored ++ [x]) (running + 1) (some x)

/-- The segment in LOADING, once its end mark has been looked at and the tracker asked (R85, R86). -/
def takeSegment (r : Request) (s : State) (version total running : Nat) (last : Option Identity) (endMark : Bool) : State × Answer :=
  match storeIdentities total (identitiesOf r.data) 0 [] running last with
  | .error x => (s.setHot s.hot.abandon, .check x)
  | .ok (stored, count, newest) =>
    let bank : Bank := { s.hot.standby with ids := s.hot.standby.ids ++ stored }
    if endMark then
      if count = total then
        ((s.setHot { s.hot with standby := bank, load := .verifying version total count }).startLong r, .accepted)
      else (s.setHot s.hot.abandon, .check ⟨.illegalRequest, detailHotListCount, none, some count⟩)
    else (s.setHot { s.hot with standby := bank, load := .loading version total count newest }, .good [])

/-- HOTLIST SEGMENT (R85, R86, R201). -/
def hotlistSegment (r : Request) (s : State) : State × Answer :=
  let mark := r.byte 4
  if mark ≠ 0 ∧ mark ≠ 1 then (s, .check (illegalField 4))
  else if r.dataLength % 8 ≠ 0 then (s, .check (illegalField 10))
  else
    match s.hot.load with
    | .loading version total running last =>
      if mark = 1 ∧ s.proc.tracker.isSome = true then (s, .busy)
      else takeSegment r s version total running last (mark == 1)
    | _ => (s, .check (orderError detailNoLoadOpen))

/-- HOTLIST_SEGMENT (R85, R86). -/
def execHotlistSegment (s : State) (nvwp : Bool := true) : Host.Outcome State Fault Refusal := serveProtected 0x41 hotlistSegment nvwp s

/-- HOTLIST ABANDON; NVWP does not affect it (R88). -/
def hotlistAbandon (_ : Request) (s : State) : State × Answer :=
  match s.hot.load with
  | .loading .. => (s.setHot s.hot.abandon, .good [])
  | .idle => (s, .check (orderError detailNoLoadOpen))
  | .verifying .. => (s, .busy)

/-- HOTLIST_ABANDON (R88). -/
def execHotlistAbandon : State → Host.Outcome State Fault Refusal := whenPowered (serve 0x11 hotlistAbandon)

/-- The swap with its purge (R87, R92). -/
def HotStore.swap (h : HotStore) (version : Nat) : HotStore :=
  let bank : Bank := ⟨some version, h.standby.ids⟩
  { active := bank, standby := h.active, complete := true, load := .idle, locals := h.locals.filter (fun e => !(bank.holds e.identity)) }

/-- The read-back confirms the running count of identities in strictly ascending order (R87, log 14). -/
def HotStore.readBack (h : HotStore) (running : Nat) (good : Bool) : Bool :=
  good && decide (h.standby.ids.length = running) && ascending h.standby.ids

/-- Verification ends: the swap with its LIST SWAP record, or the load abandoned with RESOURCE, store error (R87). -/
def State.endHotVerification (s : State) (good : Bool) : State :=
  match s.hot.load with
  | .verifying version _ running =>
    if s.hot.readBack running good then
      let h := s.hot.swap version
      let purged := s.hot.locals.length - h.locals.length
      ((s.setHot h).record none RecordFlags.clear (.listSwap version h.active.ids.length purged)).endLong none
    else (s.setHot s.hot.abandon).endLong (some ⟨.resource, detailStoreError, none, none⟩)
  | _ => s

/-- HOTLIST_VERIFICATION_END (R87). -/
def execHotlistVerificationEnd (good : Bool) : State → Host.Outcome State Fault Refusal :=
  whenPowered (fun s => s.endHotVerification good)

/-! ### Local hot list (R93, R94) -/

/-- The entries with their positions, as LOCAL LIST READ gives them (R93; 11, section 11.5). -/
def localBytes : Nat → List LocalEntry → List Byte
  | _, [] => []
  | k, e :: es => be 1 k ++ idBytes e.identity ++ be 4 e.time ++ be 1 e.lane.val ++ localBytes (k + 1) es

/-- LOCAL LIST READ (R93). -/
def localListRead (_ : Request) (s : State) : State × Answer :=
  (s, .good (be 1 s.hot.locals.length ++ localBytes 0 s.hot.locals))

/-- LOCAL_LIST_READ (R93). -/
def execLocalListRead : State → Host.Outcome State Fault Refusal := whenPowered (serve 0x12 localListRead)

/-- The clone-suspect flag of an identity's seen entry cleared (R94). -/
def State.clearSuspect (s : State) (id : Identity) : State :=
  s.setEntries (s.seen.entries.map (fun e => if e.identity = id then { e with cloneSuspect := false } else e))

/-- LOCAL LIST REMOVE (R94, R205). -/
def localListRemove (r : Request) (s : State) : State × Answer :=
  let position := r.field 4 1
  match s.hot.locals[position]? with
  | none => (s, .check (illegalField 4))
  | some e =>
    if e.identity.toNat % 2 ^ 40 ≠ r.field 5 5 then
      (s, .check ⟨.illegalRequest, detailEntryChanged, none, some position⟩)
    else
      (((s.setHot { s.hot with locals := s.hot.locals.eraseIdx position }).record none RecordFlags.clear
          (.listLocalRemove e.identity)).clearSuspect e.identity, .good [])

/-- LOCAL_LIST_REMOVE (R94). -/
def execLocalListRemove (s : State) (nvwp : Bool := true) : Host.Outcome State Fault Refusal := serveProtected 0x13 localListRemove nvwp s

/-! ### FIND CARD (R95) -/

/-- Insertion into an ascending list without repeats. -/
def insertIdentity (x : Identity) : List Identity → List Identity
  | [] => [x]
  | y :: ys => if x = y then y :: ys else if x.toNat < y.toNat then x :: y :: ys else y :: insertIdentity x ys

/-- The distinct identities of a list, ascending (R95, R205). -/
def distinctAscending (ids : List Identity) : List Identity := ids.foldl (fun acc x => insertIdentity x acc) []

/-- The identities that the OPEN slots hold. -/
def State.openIdentities (s : State) : List Identity :=
  s.recovery.toList.filterMap (fun x =>
    match x with
    | .opened f _ _ _ => some f.identity
    | _ => none)

/-- Every identity some source holds whose low 48 bits are given (R95). -/
def State.matching (s : State) (low : Nat) : List Identity :=
  distinctAscending
    (((s.seen.entries.filter (fun e => !(s.older e))).map (·.identity) ++ s.claims.toList.filterMap id ++ s.openIdentities ++
      s.hot.locals.map (·.identity) ++ s.hot.active.ids).filter (fun x => x.toNat % 2 ^ 48 == low))

/-- The seen finding (11, section 11.5). -/
def seenFinding : Option SeenEntry → List Byte
  | some e =>
    be 3 e.counter ++ be 4 e.time ++ be 1 e.lane.val ++ [e.direction.code, e.outcome.code, boolByte e.cloneSuspect] ++
    [match e.tearPending with
     | some i => BitVec.ofNat 8 i.val
     | none => 0xFF]
  | none => zeros 12

/-- The lane whose claim holds an identity. -/
def State.claimant (s : State) (id : Identity) : Option LaneId := laneIds.find? (fun n => s.claim n == some id)

/-- The slot finding (11, section 11.5). -/
def State.slotFinding (s : State) (i : Option SlotId) : List Byte :=
  match i with
  | some i =>
    match s.slot i with
    | .opened f _ wt ex =>
      be 1 i.val ++ be 1 f.lane.val ++ [f.direction.code] ++ be 3 f.oldCounter ++ be 3 f.newCounter ++ be 2 f.charge ++
      [bitByte [wt.isSome, ex.isSome]] ++ optBytes 4 wt ++ optBytes 4 ex
    | _ => zeros 20
  | none => zeros 20

/-- The hot-list finding: ACTIVE with its version, or LOCAL with position, time and lane; the other list's fields are 00H
(R95, R200). -/
def HotStore.finding (h : HotStore) (id : Identity) : List Byte :=
  if h.active.holds id then [0] ++ be 2 (h.active.version.getD 0) ++ zeros 6
  else
    match h.locals.findIdx? (fun e => e.identity == id) with
    | some k =>
      match h.locals[k]? with
      | some e => [1] ++ zeros 2 ++ be 1 k ++ be 4 e.time ++ be 1 e.lane.val
      | none => zeros 9
    | none => zeros 9

/-- What the part knows of one identity (R95; 11, section 11.5). -/
def State.finding (s : State) (id : Identity) : List Byte :=
  let seen := s.seenLookup id
  let claim := s.claimant id
  let slot := s.openSlot id
  let hot : Bool := s.hot.active.holds id || s.hot.localHolds id
  idBytes id ++ [bitByte [seen.isSome, claim.isSome, slot.isSome, hot]] ++ seenFinding seen ++
  [match claim with
   | some n => BitVec.ofNat 8 n.val
   | none => 0] ++
  s.slotFinding slot ++ s.hot.finding id

/-- FIND CARD (R95). -/
def findCard (r : Request) (s : State) : State × Answer :=
  let ids := s.matching (r.field 4 6)
  (s, .good (be 1 (ids.take 8).length ++ [boolByte (decide (8 < ids.length))] ++ (ids.take 8).flatMap s.finding))

/-- FIND_CARD (R95). -/
def execFindCard : State → Host.Outcome State Fault Refusal := whenPowered (serve 0x14 findCard)

end Sys2Proof.Machine
end

