-- ==== Sys2Proof/Machine/Records.lean ====
section
/-! DEFINITION. The 48 bytes of a journal record (11, section 11.7). -/

namespace Sys2Proof.Machine

/-- An optional code or number of one byte that has no presence bit, FFH when absent (R200). -/
def optCode : Option Byte → Byte
  | some b => b
  | none => 0xFF

/-- Sequences and times: 4 bytes (11, section 11.1). -/
def word4 (v : Nat) : List Byte := be 4 v

/-- A sequence; past the last one the spec gives no bytes, and they are free (log 18). -/
def seqBytes (v : Nat) : List Byte := if v ≤ Config.max32 then be 4 v else be 4 Config.exhaustedSequence

/-- The step of a TIME record, signed in 4 bytes; for a forward step above 2,147,483,647 s, which they do not hold, the spec gives no
bytes, and they are free (R190, R200, log 47). -/
def stepBytes (v : Int) : List Byte := if v < 2147483648 then beSigned 4 v else be 4 (Config.wideStep v.toNat).toNat

/-- The lane byte of a record (R152). -/
def laneByte : Option LaneId → Byte
  | some n => BitVec.ofNat 8 n.val
  | none => 0xFF

/-- Kind codes (11, section 11.7). -/
def RecordBody.kindCode : RecordBody → Byte
  | .card _ => 0x01
  | .tear _ => 0x02
  | .passage .. => 0x03
  | .unusedGrant .. => 0x04
  | .staffGrant .. => 0x05
  | .emergencyStart => 0x06
  | .emergencyEnd _ => 0x06
  | .emergencySummary .. => 0x06
  | .listSwap .. => 0x07
  | .listLocalAdd _ => 0x07
  | .listLocalEvict _ => 0x07
  | .listLocalRemove _ => 0x07
  | .table _ => 0x08
  | .lane _ => 0x09
  | .timePowerOn => 0x0A
  | .timeSet _ => 0x0A
  | .timeStep .. => 0x0A
  | .gap .. => 0x0B

def CardOutcome.code : CardOutcome → Byte
  | .granted => 0
  | .reGranted => 1
  | .refused => 2

def TearOutcome.code : TearOutcome → Byte
  | .landed => 0
  | .notLanded => 1
  | .unresolved => 2
  | .conflict => 3

def PassageClass.code : PassageClass → Byte
  | .unpaid => 0
  | .forced => 1
  | .counterflow => 2
  | .tailgateSuspect => 3

def ForfeitCause.code : ForfeitCause → Byte
  | .timer => 0
  | .fault => 1
  | .service => 2
  | .reset => 3
  | .emergency => 4

def FaultSource.code : FaultSource → Byte
  | .head .s => 0
  | .head .p => 1
  | .gate => 2

def LaneCause.code : LaneCause → Byte
  | .serviceOn => 0
  | .serviceOff => 1
  | .fault _ => 2
  | .reset => 3
  | .configuration .. => 4

/-- The sub-code of byte 11. -/
def RecordBody.subCode : RecordBody → Byte
  | .card b => b.outcome.code
  | .tear b => b.outcome.code
  | .passage c _ _ => c.code
  | .unusedGrant c _ => c.code
  | .staffGrant .. => 0
  | .emergencyStart => 0
  | .emergencyEnd _ => 1
  | .emergencySummary .. => 2
  | .listSwap .. => 0
  | .listLocalAdd _ => 1
  | .listLocalEvict _ => 2
  | .listLocalRemove _ => 3
  | .table _ => 0
  | .lane c => c.code
  | .timePowerOn => 0
  | .timeSet _ => 1
  | .timeStep .. => 2
  | .gap .. => 0

/-- CARD, from byte 12. -/
def CardBody.bytes (b : CardBody) : List Byte :=
  [optCode (b.refusal.map RefusalCode.code), bitByte [b.counterWritten.isSome, b.related.isSome]] ++ idBytes b.identity ++
  [b.direction.code] ++ be 1 b.product ++ be 3 b.counterRead ++ optBytes 3 b.counterWritten ++ be 2 b.charge ++
  beSigned 3 b.balanceBefore ++ beSigned 3 b.balanceAfter ++ be 2 b.fareVersion ++ be 2 b.originStation ++ be 1 b.legs ++
  optBytes 4 b.related

/-- TEAR, from byte 12. -/
def TearBody.bytes (b : TearBody) : List Byte :=
  [laneByte (some b.lane), b.direction.code] ++ idBytes b.identity ++ be 3 b.oldCounter ++ be 3 b.newCounter ++ be 2 b.charge

/-- LANE, from byte 12. -/
def LaneCause.bytes : LaneCause → List Byte
  | .fault f => [f.code]
  | .configuration m level openTime motion tailgate => [m.code] ++ be 1 level ++ be 1 openTime ++ be 1 motion ++ be 1 tailgate
  | _ => []

/-- An identity that may be absent, its presence told by a presence bit (R200). -/
def optId : Option Identity → List Byte
  | some id => idBytes id
  | none => zeros 8

/-- Bytes 12 on, without the unassigned rest. -/
def RecordBody.bytes : RecordBody → List Byte
  | .card b => b.bytes
  | .tear b => b.bytes
  | .passage _ d o => [d.code] ++ be 2 o
  | .unusedGrant _ g =>
    [g.direction.code, g.kind.code, bitByte [g.identity.isSome, g.seq.isSome]] ++ optId g.identity ++ be 4 g.time ++ optBytes 4 g.seq
  | .staffGrant d t => [d.code] ++ be 4 t
  | .emergencyStart => []
  | .emergencyEnd t => [bitByte [t.isSome]] ++ optBytes 4 t
  | .emergencySummary a b => zeros 5 ++ be 4 a ++ be 4 b
  | .listSwap v c p => be 2 v ++ be 2 c ++ be 1 p
  | .listLocalAdd id => idBytes id
  | .listLocalEvict id => idBytes id
  | .listLocalRemove id => idBytes id
  | .table v => be 2 v
  | .lane c => c.bytes
  | .timePowerOn => []
  | .timeSet t => be 4 t
  | .timeStep t d => be 4 t ++ stepBytes d
  | .gap c f l => be 4 c ++ be 4 f ++ be 4 l

/-- Filled with 00H to a length (R200). -/
def padTo (n : Nat) (bs : List Byte) : List Byte := bs ++ zeros (n - bs.length)

/-- The 48 bytes of a record (11, section 11.7). -/
def JRecord.bytes (r : JRecord) : List Byte :=
  padTo 48 (seqBytes r.seq ++ be 4 r.time ++ [r.body.kindCode, laneByte r.lane, r.flags.byte, r.body.subCode] ++ r.body.bytes)

end Sys2Proof.Machine
end

