-- ==== Sys2Proof/Machine/Requests.lean ====
section
/-! DEFINITION. The part-wide requests of the Request Processor, the Station Clock, the Journal, the Notice Unit and the Key Store
(08, section 8.6; 09; 10; 01, section 1.4). -/

namespace Sys2Proof.Machine

/-! ### UNKNOWN COMMAND, TEST READY, REQUEST SENSE -/

/-- UNKNOWN_COMMAND: a frame whose target or code names nothing (R174). -/
def execUnknownCommand : State → Host.Outcome State Fault Refusal := whenPowered serveUnknown

/-- TEST READY at its target (R193, R204). -/
def testReady (r : Request) (s : State) : State × Answer :=
  let reasons := s.reasons r.target
  if reasons.contains true then
    (s, .check ⟨.notReady, detailFirstReason + firstSet reasons, none, some (bitsOf reasons)⟩)
  else (s, .good [])

/-- TEST_READY (R193). -/
def execTestReady : State → Host.Outcome State Fault Refusal := whenPowered (serve 0x01 testReady)

/-- The reply data of REQUEST SENSE (R177; 11, section 11.5). The detail byte of an empty record is 00H, the code of the detail none,
and not the FFH of an absent optional code: the model's reading, log 55. -/
def senseData : Option Sense → List Byte
  | some x =>
    [x.key.code] ++ be 1 x.detail ++ [bitByte [x.field.isSome, x.info.isSome]] ++
    (match x.field with
     | some k => be 1 k
     | none => [0]) ++
    optBytes 4 x.info
  | none => zeros 8

/-- REQUEST SENSE returns the record and empties it (R177). -/
def requestSense (r : Request) (s : State) : State × Answer := (s.setSense r.target none, .good (senseData (s.sense r.target)))

/-- REQUEST_SENSE (R177). -/
def execRequestSense : State → Host.Outcome State Fault Refusal := whenPowered (serve 0x02 requestSense)

/-! ### SET TIME (R189 to R191) -/

/-- The slots with a pending expiry are given it, and the pending write times (R108). -/
def State.setExpiry (v : Nat) (s : State) (i : SlotId) : State :=
  match s.slot i with
  | .opened f em wt none =>
    let (x, s) := s.expiryFrom v
    s.setSlot i (.opened f em (some (wt.getD v)) (some x))
  | _ => s

def State.setExpiries (s : State) (v : Nat) : State := slotIds.foldl (fun t i => t.setExpiry v i) s

/-- An open local incident (R144). -/
def Incident.openLocal (i : Incident) : Bool := i.origin == .fromLine && i.finish.isNone

/-- The open local incident takes its end (R145). -/
def IncidentList.closeLocal (l : IncidentList) (t : Nat) : IncidentList :=
  { l with entries := l.entries.map (fun i => if i.openLocal then { i with finish := some t } else i) }

/-- Removing the oldest entry that satisfies a test. -/
def removeFirst (p : Incident → Bool) : List Incident → List Incident
  | [] => []
  | i :: is => if p i then is else i :: removeFirst p is

/-- A place for a local incident (R146). -/
def IncidentList.makePlace (l : IncidentList) : IncidentList :=
  if l.entries.length < Config.incidentCapacity then l
  else if l.entries.any (fun i => i.finish.isSome) then
    { l with entries := removeFirst (fun i => i.finish.isSome) l.entries }
  else { l with entries := l.entries.drop 1 }

/-- One above an incident number, passing from 65,535 to 1 (R144). -/
def numberAfter (k : Nat) : Nat := if 65535 ≤ k then 1 else k + 1

/-- The first number from k on that no entry holds (R144, log 27). -/
def freeNumber (held : List Incident) : Nat → Nat → Nat
  | 0, k => k
  | n + 1, k => if held.any (fun i => i.number == k) then freeNumber held n (numberAfter k) else k

/-- A new entry, the newest, under the next number (R144). -/
def IncidentList.add (l : IncidentList) (station start : Nat) (t : Treatment) (o : IncidentOrigin) : IncidentList :=
  let entries := l.entries ++ [⟨l.next, station, start, none, t, o⟩]
  { l with entries := entries, next := freeNumber entries 17 (numberAfter l.next) }

/-- A local incident is opened, unless one is open (R145, R146). -/
def State.openLocalIncident (s : State) (start : Nat) : State :=
  if s.incidents.entries.any Incident.openLocal then s
  else
    { s with
      incidents := s.incidents.makePlace.add ((s.fare.active.map (·.station)).getD 0) start .waive .fromLine }

/-- What the first SET TIME does at the Incident List (R145). Where its value lies below the start of an open local incident left from
before power loss, the end is that value all the same, as R145 says, and so lies below the start, against R144: the model's choice,
log 56. -/
def State.settleIncident (s : State) (v : Nat) : State :=
  if s.emergency.owed then
    let s := s.openLocalIncident v
    { s with emergency := { s.emergency with owed := false } }
  else { s with incidents := s.incidents.closeLocal v }

/-- A SET TIME taken hands a sweep to the Seen-Card Table; activation and expiry are considered at their own steps (R191, log 10). -/
def State.handTime (s : State) : State := { s with seen := { s.seen with sweepDue := true } }

/-- The first SET TIME taken after power-on (R108, R145, R189, R191, R192). Its TIME record is appended in this step, before every
record of the steps that the hand-over leads to: R191 leaves the order open, the model's choice, log 54. The Incident List takes the
hand-over in this step too, before an activation that the same SET TIME makes due, so that an owed incident is opened with the station
code of the table active until then: the model's choice, log 57. -/
def State.firstTime (s : State) (v : Nat) : State :=
  let before := s.ready
  let s := { s with clock := { time := v, valid := true, hold := 0, phase := 0 } }
  let s := s.record none RecordFlags.clear (.timeSet v)
  (((s.setExpiries v).settleIncident v).handTime).settleReadiness before

/-- A SET TIME taken while station time is valid (R190). Its TIME record is appended in this step, before every record of the steps
that the hand-over leads to: R191 leaves the order open, the model's choice, log 54. -/
def State.stepTime (s : State) (v : Nat) : State :=
  let t := s.clock.time
  let s :=
    if t ≤ v then { s with clock := { s.clock with time := v, hold := 0, phase := 0 } }
    else { s with clock := { s.clock with hold := t - v, phase := 0 } }
  (s.record none RecordFlags.clear (.timeStep v ((v : Int) - t))).handTime

/-- SET TIME (R189, R190). -/
def setTime (r : Request) (s : State) : State × Answer :=
  let v := r.field 4 4
  if s.clock.valid then
    if v + 300 < s.clock.time then (s, .check ⟨.illegalRequest, detailTimeStepTooLarge, some 4, some s.clock.time⟩)
    else (s.stepTime v, .good [])
  else if v < s.journal.lastTime then
    (s, .check ⟨.illegalRequest, detailTimeBehindJournal, some 4, some s.journal.lastTime⟩)
  else (s.firstTime v, .good [])

/-- SET_TIME (R189, R190). -/
def execSetTime : State → Host.Outcome State Fault Refusal := whenPowered (serve 0x04 setTime)

/-! ### SET PARAMETERS (R195) -/

/-- The range of a parameter (R195). -/
def parameterAllows (k v : Nat) : Bool :=
  match k with
  | 0 => decide (5 ≤ v ∧ v ≤ 120)
  | 1 => decide (10 ≤ v ∧ v ≤ 1440)
  | 2 => decide (1024 ≤ v ∧ v ≤ 32512)
  | _ => decide (v ≤ 32768)

/-- A parameter stored (R195). -/
def State.setParameter (s : State) (k v : Nat) : State :=
  match k with
  | 0 => { s with window := v }
  | 1 => { s with retention := v }
  | 2 => { s with journal := { s.journal with limit := v } }
  | 3 => { s with journal := { s.journal with thresholdA := v } }
  | _ => { s with journal := { s.journal with thresholdB := v } }

/-- SET PARAMETERS (R195). -/
def setParameters (r : Request) (s : State) : State × Answer :=
  let k := r.field 4 1
  let v := r.field 5 2
  if 4 < k then (s, .check (illegalField 4))
  else if parameterAllows k v then (s.setParameter k v, .good [])
  else (s, .check ⟨.illegalRequest, detailOutOfRange, some 5, some k⟩)

/-- SET_PARAMETERS (R195). -/
def execSetParameters (s : State) (nvwp : Bool := true) : Host.Outcome State Fault Refusal := serveProtected 0x05 setParameters nvwp s

/-! ### READ CONDITIONS (R185), SET NOTICE LEVELS (R184) -/

/-- A condition as read (11, section 11.5). -/
def Condition.bytes (c : Condition) : List Byte := [c.kind.code, c.target.code] ++ be 1 c.count ++ be 4 c.first ++ be 4 c.last

/-- READ CONDITIONS returns conditions from the front and removes them (R185). -/
def readConditions (r : Request) (s : State) : State × Answer :=
  let m := r.field 4 1
  if m = 0 ∨ 32 < m then (s, .check (illegalField 4))
  else
    let taken := s.notices.conditions.take m
    let left := s.notices.conditions.drop m
    ({ s with notices := { s.notices with conditions := left } },
     .good (be 1 taken.length ++ be 1 left.length ++ taken.flatMap Condition.bytes))

/-- READ_CONDITIONS (R185). -/
def execReadConditions : State → Host.Outcome State Fault Refusal := whenPowered (serve 0x06 readConditions)

/-- The sixteen levels of a data block. -/
def levelsOf (bs : List Byte) : Vector Nat 16 := Vector.ofFn (fun i => (byteAt bs i.val).toNat)

/-- SET NOTICE LEVELS (R184). -/
def setNoticeLevels (r : Request) (s : State) : State × Answer :=
  if r.dataLength ≠ 16 then (s, .check (illegalField 10))
  else
    match r.data.findIdx? (fun b => decide (7 < b.toNat)) with
    | some i => (s, .check ⟨.illegalRequest, detailOutOfRange, some 12, some i⟩)
    | none =>
      let u := { s.notices with levels := levelsOf r.data }
      ({ s with notices := { u with pending := u.pending.filter (fun p => u.level p.kind != 0) } }, .good [])

/-- SET_NOTICE_LEVELS (R184). -/
def execSetNoticeLevels (s : State) (nvwp : Bool := true) : Host.Outcome State Fault Refusal := serveProtected 0x40 setNoticeLevels nvwp s

/-! ### READ JOURNAL, RELEASE JOURNAL (R162, R163) -/

/-- A sequence as an information value; past the last one it is free (log 18). -/
def sequenceInfo (v : Nat) : Nat := if v ≤ Config.max32 then v else Config.exhaustedSequence

/-- READ JOURNAL (R162). Of two fields at fault the count is tested first: the model's choice, log 45. -/
def readJournal (r : Request) (s : State) : State × Answer :=
  let j := s.journal
  let q := r.field 4 4
  let m := r.field 8 1
  if m = 0 ∨ 16 < m then (s, .check (illegalField 8))
  else if q < j.oldest then (s, .check ⟨.illegalRequest, detailSequenceReleased, some 4, some (sequenceInfo j.oldest)⟩)
  else if j.newest + 1 < q then (s, .check ⟨.illegalRequest, detailSequenceNotWritten, some 4, some j.newest⟩)
  else
    let found := (j.records.drop (q - j.oldest)).take m
    (s, .good (be 1 found.length ++ seqBytes j.oldest ++ be 4 j.newest ++ be 2 j.count ++ be 4 j.gapCount ++
               found.flatMap JRecord.bytes))

/-- READ_JOURNAL (R162). -/
def execReadJournal : State → Host.Outcome State Fault Refusal := whenPowered (serve 0x08 readJournal)

/-- The records through a sequence removed (R163). -/
def Journal.release (j : Journal) (q : Nat) : Journal := { j with records := j.records.drop (q + 1 - j.oldest) }

/-- RELEASE JOURNAL (R163). -/
def releaseJournal (r : Request) (s : State) : State × Answer :=
  let j := s.journal
  let q := r.field 4 4
  if q + 1 < j.oldest then (s, .check ⟨.illegalRequest, detailSequenceReleased, some 4, some (j.oldest - 1)⟩)
  else if j.newest < q then (s, .check ⟨.illegalRequest, detailSequenceNotWritten, some 4, some j.newest⟩)
  else
    let k := j.release q
    ({ s with journal := k }, .good (seqBytes (q + 1) ++ be 2 k.count))

/-- RELEASE_JOURNAL (R163). -/
def execReleaseJournal (s : State) (nvwp : Bool := true) : Host.Outcome State Fault Refusal := serveProtected 0x09 releaseJournal nvwp s

/-! ### LOAD KEY (R15) -/

/-- A generation held by a loaded slot other than the one named (R15). -/
def State.generationElsewhere (s : State) (slot generation : Nat) : Bool :=
  (List.range 4).any (fun i => i != slot && (s.keys.toList.getD i none).any (fun k => k.generation == generation))

/-- A key slot set (R15). -/
def State.setKey (s : State) (slot : Nat) (k : Option Key) : State :=
  if h : slot < 4 then { s with keys := s.keys.set slot k } else s

/-- LOAD KEY (R15). -/
def loadKey (r : Request) (s : State) : State × Answer :=
  let slot := r.field 4 1
  let generation := r.field 5 1
  let before := s.ready
  if 3 < slot then (s, .check (illegalField 4))
  else if r.dataLength ≠ 0 ∧ r.dataLength ≠ 16 then (s, .check (illegalField 10))
  else if r.dataLength = 0 then ((s.setKey slot none).settleReadiness before, .good [])
  else if s.generationElsewhere slot generation then (s, .check (illegalField 5))
  else ((s.setKey slot (some ⟨generation, r.data⟩)).settleReadiness before, .good [])

/-- LOAD_KEY (R15). -/
def execLoadKey (s : State) (nvwp : Bool := true) : Host.Outcome State Fault Refusal := serveProtected 0x43 loadKey nvwp s

/-! ### RESET PART (R186, R197) -/

/-- The owner of an abandoned long operation returns to its earlier state (R71, R89). -/
def State.abandonOwner (s : State) : State :=
  let pending := match s.fare.pending with
    | .verifying v sections _ => .loading v sections
    | p => p
  let hot := match s.hot.load with
    | .verifying .. => s.hot.abandon
    | _ => s.hot
  { s with fare := { s.fare with pending := pending }, hot := hot }

/-- Step 1 of R186, with the sense of step 3. -/
def State.abandonLong (s : State) : State × Option Sense :=
  match s.proc.tracker with
  | some op =>
    if op.ended then (s, none)
    else
      ({ s.abandonOwner with
         proc := { s.proc with tracker := none, lastCompletion := some ⟨op.tag, op.command, .aborted⟩ } },
       some ⟨.aborted, op.command.toNat, none, some op.tag.toNat⟩)
  | none => (s, none)

/-- The Station Link blocks at RESET PART (R186). Events that the Notice Unit has not yet taken stay in its inbox and are latched
afterwards: the model's choice, log 48. -/
def State.resetLink (s : State) : State :=
  let (s, aborted) := s.abandonLong
  { s with
    proc := { s.proc with partSense := aborted, laneSenses := Vector.replicate 8 none }
    notices := { s.notices with conditions := [], pending := [] } }

/-- A load in LOADING is abandoned (R89). -/
def State.abandonLoading (s : State) : State :=
  match s.hot.load with
  | .loading .. => { s with hot := s.hot.abandon }
  | _ => s

/-- RESET PART (R186, R197). -/
def resetPart (_ : Request) (s : State) : State × Answer :=
  if s.lanes.toList.any (fun l => l.resetting == some .part) then (s, .busy)
  else (s.resetLink.abandonLoading.eachLane (fun n t => t.resetLane n .part), .good [])

/-- RESET_PART (R197). -/
def execResetPart : State → Host.Outcome State Fault Refusal := whenPowered (serve 0x20 resetPart)

end Sys2Proof.Machine
end

