-- ==== Sys2Proof/Machine/Incidents.lean ====
section
/-! DEFINITION. The requests of the Incident List, and the emergency line: its settling, its hand-over, and what the engines and the
list do with it (07). -/

namespace Sys2Proof.Machine

def State.setIncidents (s : State) (l : List Incident) : State := { s with incidents := { s.incidents with entries := l } }

/-- INCIDENT ADD (R147, R201). -/
def incidentAdd (r : Request) (s : State) : State × Answer :=
  if r.dataLength ≠ 6 then (s, .check ⟨.illegalRequest, detailLengthError, some 10, none⟩)
  else if r.field 12 2 = 0xFFFF then (s, .check (illegalField 12))
  else
    match Treatment.ofCode (r.byte 4) with
    | none => (s, .check (illegalField 4))
    | some t =>
      if Config.incidentCapacity ≤ s.incidents.entries.length then
        (s, .check ⟨.resource, detailIncidentListFull, none, none⟩)
      else ({ s with incidents := s.incidents.add (r.field 12 2) (r.field 14 4) t .loaded }, .good (be 2 s.incidents.next))

/-- INCIDENT_ADD (R147). -/
def execIncidentAdd (s : State) (nvwp : Bool := true) : Host.Outcome State Fault Refusal := serveProtected 0x44 incidentAdd nvwp s

/-- INCIDENT CLOSE (R148). -/
def incidentClose (r : Request) (s : State) : State × Answer :=
  let number := r.field 4 2
  let t := r.field 6 4
  match s.incidents.entries.find? (fun i => i.number == number) with
  | none => (s, .check (illegalField 4))
  | some i =>
    if i.openLocal then (s, .check (orderError detailLocalIncidentOpen))
    else if i.finish.isSome then (s, .check (orderError detailIncidentClosed))
    else if t < i.start then (s, .check (illegalField 6))
    else
      (s.setIncidents (s.incidents.entries.map (fun j => if j.number = number then { j with finish := some t } else j)), .good [])

/-- INCIDENT_CLOSE (R148). -/
def execIncidentClose (s : State) (nvwp : Bool := true) : Host.Outcome State Fault Refusal := serveProtected 0x1C incidentClose nvwp s

/-- INCIDENT REMOVE (R148). -/
def incidentRemove (r : Request) (s : State) : State × Answer :=
  let number := r.field 4 2
  match s.incidents.entries.find? (fun i => i.number == number) with
  | none => (s, .check (illegalField 4))
  | some i =>
    if i.openLocal then (s, .check (orderError detailLocalIncidentOpen))
    else (s.setIncidents (s.incidents.entries.filter (fun j => j.number != number)), .good [])

/-- INCIDENT_REMOVE (R148). -/
def execIncidentRemove (s : State) (nvwp : Bool := true) : Host.Outcome State Fault Refusal := serveProtected 0x1D incidentRemove nvwp s

/-- An incident as read (11, section 11.5). -/
def Incident.bytes (i : Incident) : List Byte :=
  be 2 i.number ++ be 2 i.station ++ be 4 i.start ++ [bitByte [i.finish.isSome]] ++ optBytes 4 i.finish ++
  [i.treatment.code, i.origin.code]

/-- INCIDENT READ (R149). -/
def incidentRead (_ : Request) (s : State) : State × Answer :=
  (s, .good (be 1 s.incidents.entries.length ++ be 2 s.incidents.next ++ s.incidents.entries.flatMap Incident.bytes))

/-- INCIDENT_READ (R149). -/
def execIncidentRead : State → Host.Outcome State Fault Refusal := whenPowered (serve 0x1E incidentRead)

/-! ### The emergency line (R139 to R141) -/

def State.updEmergency (s : State) (f : EmergencyInput → EmergencyInput) : State := { s with emergency := f s.emergency }

/-- A change of the raw level: away from the taken state it starts the settling timer, back to it it stops the timer (R139). -/
def EmergencyInput.change (e : EmergencyInput) (low : Bool) : EmergencyInput :=
  if e.rawLow = low then e
  else { e with rawLow := low, settling := if low = e.taken then none else some Config.settlingTime }

/-- EMRGN_CHANGE (R139); the level alone in a part without power (log 31). -/
def execEmrgnChange (low : Bool) (s : State) : Host.Outcome State Fault Refusal :=
  .next (s.updEmergency (fun e => if s.powered then e.change low else { e with rawLow := low }))

/-- A change of the line handed to every gate, every engine and the Incident List (R140, R141, log 8). -/
def State.handLine (s : State) (c : LineChange) : State :=
  let s := s.eachLane (fun n t => t.updLane n (fun l =>
    { l with gate := { l.gate with lineIn := l.gate.lineIn ++ [c] }, engine := { l.engine with lineIn := l.engine.lineIn ++ [c] } }))
  { s with incidents := { s.incidents with lineIn := s.incidents.lineIn ++ [c] } }

/-- The assertion taken (R140). -/
def State.assertionTaken (s : State) : State :=
  let e := s.emergency
  if e.settling.isSome = true ∧ e.rawLow = true ∧ e.taken = false then
    let s := s.updEmergency (fun e =>
      { e with settling := none, taken := true, assertedAt := if s.clock.valid then some s.clock.time else none })
    ((s.handLine .assertion).record none RecordFlags.clear .emergencyStart).raise .emergencyChange .part [1]
  else s

/-- EMERGENCY_ASSERTION_TAKEN (R140, log 3). -/
def execEmergencyAssertionTaken : State → Host.Outcome State Fault Refusal := whenPowered State.assertionTaken

/-- The release taken (R141). -/
def State.releaseTaken (s : State) : State :=
  let e := s.emergency
  if e.settling.isSome = true ∧ e.rawLow = false ∧ e.taken = true then
    let s := s.updEmergency (fun e => { e with settling := none, taken := false })
    let s := ((s.handLine .release).record none RecordFlags.clear (.emergencyEnd e.assertedAt)).raise .emergencyChange .part [0]
    s.updEmergency (fun e => { e with assertedAt := none })
  else s

/-- EMERGENCY_RELEASE_TAKEN (R141, log 3). -/
def execEmergencyReleaseTaken : State → Host.Outcome State Fault Refusal := whenPowered State.releaseTaken

/-! ### The line at the engines (R44, R143) -/

/-- A change of the line taken by the engine when it is the oldest (log 8). -/
def State.engineTakes (s : State) (n : LaneId) (c : LineChange) (f : State → State) : State :=
  match (s.lane n).engine.lineIn with
  | x :: rest =>
    if x = c then f (s.updEngine n (fun e => { e with lineIn := rest, lineTaken := decide (c = .assertion) })) else s
  | [] => s

/-- The assertion by phase (R44). -/
def State.engineAsserts (s : State) (n : LaneId) : State :=
  match (s.lane n).engine.phase with
  | .idle => s
  | .finishing => s
  | .writing => s.updEngine n (fun e => { e with emergency := true })
  | .admitting => (s.updEngine n (fun e => { e with emergency := true })).abandon n .emergency
  | .reading => (s.updEngine n (fun e => { e with emergency := true })).abandon n .emergency
  | .checking => (s.updEngine n (fun e => { e with emergency := true })).abandon n .emergency
  | .resolving => (s.updEngine n (fun e => { e with emergency := true })).abandon n .emergency

/-- ENGINE_TAKES_ASSERTION (R44, R143). -/
def execEngineTakesAssertion (n : LaneId) : State → Host.Outcome State Fault Refusal :=
  whenPowered (fun s => s.engineTakes n .assertion (fun s => s.engineAsserts n))

/-- ENGINE_TAKES_RELEASE: the copy of the line becomes CLEAR, and nothing else changes (R141, R143). -/
def execEngineTakesRelease (n : LaneId) : State → Host.Outcome State Fault Refusal :=
  whenPowered (fun s => s.engineTakes n .release id)

/-! ### The line at the Incident List (R145, R146) -/

/-- A change of the line taken by the list when it is the oldest (log 8). -/
def State.incidentTakes (s : State) (c : LineChange) (f : State → State) : State :=
  match s.incidents.lineIn with
  | x :: rest => if x = c then f { s with incidents := { s.incidents with lineIn := rest } } else s
  | [] => s

/-- The assertion: a local incident opened, or owed while station time is invalid (R145). -/
def State.incidentAsserts (s : State) : State :=
  if s.clock.valid then s.openLocalIncident s.clock.time else s.updEmergency (fun e => { e with owed := true })

/-- INCIDENT_TAKES_ASSERTION (R145, R146). -/
def execIncidentTakesAssertion : State → Host.Outcome State Fault Refusal :=
  whenPowered (fun s => s.incidentTakes .assertion State.incidentAsserts)

/-- The release: the open local incident takes its end, or the owed flag is cleared while station time is invalid (R145). -/
def State.incidentReleases (s : State) : State :=
  if s.clock.valid then { s with incidents := s.incidents.closeLocal s.clock.time }
  else s.updEmergency (fun e => { e with owed := false })

/-- INCIDENT_TAKES_RELEASE (R145). -/
def execIncidentTakesRelease : State → Host.Outcome State Fault Refusal :=
  whenPowered (fun s => s.incidentTakes .release State.incidentReleases)

end Sys2Proof.Machine
end

