-- ==== Sys2Proof/Machine/LaneCommands.lean ====
section
/-! DEFINITION. The requests sent to a lane, but for READ LANE (06, sections 6.1, 6.3, 6.5 and 6.8). -/

namespace Sys2Proof.Machine

/-! ### CONFIGURE LANE (R112) -/

/-- The first field of the parameter block that fails (R112). -/
def configurationFailure (r : Request) : Option Nat :=
  if (DirMode.ofCode (r.byte 4)).isNone then some 4
  else if 3 < r.field 5 1 then some 5
  else if r.field 6 1 < 2 ∨ 30 < r.field 6 1 then some 6
  else if r.field 7 1 < 5 ∨ 50 < r.field 7 1 then some 7
  else if r.field 8 1 < 5 ∨ 50 < r.field 8 1 then some 8
  else none

/-- The five fields stored together, and the direction mode in force at once where the lock is releasable (R112, R124). -/
def State.configure (s : State) (n : LaneId) (mode : DirMode) (level openTime motion tailgate : Nat) : State :=
  let s := s.updLane n (fun l =>
    { l with config := { mode := mode, level := level, openTime := openTime, motionTimeout := motion, tailgate := tailgate,
                         service := l.config.service } })
  (s.record (some n) RecordFlags.clear (.lane (.configuration mode level openTime motion tailgate))).settleGate n

/-- CONFIGURE LANE (R112). -/
def configureLane (n : LaneId) (r : Request) (s : State) : State × Answer :=
  match configurationFailure r with
  | some k => (s, .check (illegalField k))
  | none =>
    (s.configure n ((DirMode.ofCode (r.byte 4)).getD .both) (r.field 5 1) (r.field 6 1) (r.field 7 1) (r.field 8 1), .good [])

/-- CONFIGURE_LANE (R112). -/
def execConfigureLane (s : State) (nvwp : Bool := true) : Host.Outcome State Fault Refusal :=
  serveProtected 0x28 (onLane configureLane) nvwp s

/-! ### LANE SERVICE (R113) -/

/-- The service flag stored; a change appends its LANE record and acts on the gate (R113, R121). The LANE record comes before the
UNUSED GRANT records of the queue: the model's choice, log 42. -/
def State.setService (s : State) (n : LaneId) (on : Bool) : State :=
  if (s.lane n).config.service = on then s
  else
    let s := s.updLane n (fun l => { l with config := { l.config with service := on } })
    (s.record (some n) RecordFlags.clear (.lane (if on then .serviceOn else .serviceOff))).settleService n

/-- LANE SERVICE (R113). -/
def laneService (n : LaneId) (r : Request) (s : State) : State × Answer :=
  if r.byte 4 = 0 then (s.setService n false, .good [])
  else if r.byte 4 = 1 then (s.setService n true, .good [])
  else (s, .check (illegalField 4))

/-- LANE_SERVICE (R113). -/
def execLaneService (s : State) (nvwp : Bool := true) : Host.Outcome State Fault Refusal := serveProtected 0x29 (onLane laneService) nvwp s

/-! ### HOLD OPEN, RELEASE HOLD (R122) -/

/-- HOLD OPEN (R122). -/
def holdOpen (n : LaneId) (_ : Request) (s : State) : State × Answer :=
  if (s.lane n).gate.shut then (s, .check (orderError detailLaneClosed))
  else
    ((s.updGate n (fun g => { g with staffHold := true, openTimer := none, state := .heldOpen })).settleGate n, .good [])

/-- HOLD_OPEN (R122). -/
def execHoldOpen : State → Host.Outcome State Fault Refusal := whenPowered (serve 0x2A (onLane holdOpen))

/-- RELEASE HOLD (R122). -/
def releaseHold (n : LaneId) (_ : Request) (s : State) : State × Answer :=
  if (s.lane n).gate.staffHold = false then (s, .check (orderError detailNotHeld))
  else
    ((s.updLane n (fun l =>
      l.updGate (fun g =>
        if g.emergency then { g with staffHold := false }
        else if g.queue.isEmpty then { g with staffHold := false, state := .closing }
        else { g with staffHold := false, state := .opened, openTimer := some l.config.openMs }))).settleGate n, .good [])

/-- RELEASE_HOLD (R122). -/
def execReleaseHold : State → Host.Outcome State Fault Refusal := whenPowered (serve 0x2B (onLane releaseHold))

/-! ### GRANT PASSAGE (R127) -/

/-- Queued grants and held places (R22, R125). -/
def Gate.taken (g : Gate) : Nat := g.queue.length + (if g.place then 1 else 0)

/-- The refusals of GRANT PASSAGE after the direction test, in order (R127). -/
def Gate.staffRefusal (g : Gate) (d : Direction) : Option Sense :=
  if g.shut then some (orderError detailLaneClosed)
  else if g.emergency then some (orderError detailEmergency)
  else if g.lock ≠ .free ∧ g.lock ≠ sideLock (directionSide d) then some (orderError detailOppositeFlow)
  else if 2 ≤ g.taken then some ⟨.resource, detailLaneFull, none, none⟩
  else none

/-- The lock taken, the STAFF GRANT record appended and the grant queued (R127). -/
def State.staffGrant (s : State) (n : LaneId) (d : Direction) : State :=
  let t := s.clock.time
  let s := s.updGate n (fun g => { g with lock := sideLock (directionSide d) })
  let (s, q) := s.append (some n) RecordFlags.clear (.staffGrant d t)
  s.enqueue n ⟨none, d, .staff, t, q⟩

/-- GRANT PASSAGE (R127). -/
def grantPassage (n : LaneId) (r : Request) (s : State) : State × Answer :=
  match Direction.ofCode (r.byte 4) with
  | none => (s, .check (illegalField 4))
  | some d =>
    match (s.lane n).gate.staffRefusal d with
    | some x => (s, .check x)
    | none => (s.staffGrant n d, .good [])

/-- GRANT_PASSAGE (R127). -/
def execGrantPassage : State → Host.Outcome State Fault Refusal := whenPowered (serve 0x2C (onLane grantPassage))

/-! ### RESET LANE (R137) -/

/-- RESET LANE: GOOD, and the reset of the lane (R137). -/
def resetLaneRequest (n : LaneId) (_ : Request) (s : State) : State × Answer := (s.resetLane n .lane, .good [])

/-- RESET_LANE (R137). -/
def execResetLane : State → Host.Outcome State Fault Refusal := whenPowered (serve 0x2E (onLane resetLaneRequest))

end Sys2Proof.Machine
end

