-- ==== Sys2Proof/Machine/Link.lean ====
section
/-! DEFINITION. The Station Link Interface: receive framer, body check, request queue with OVERRUN, and the transmit arbiter (09,
sections 9.1, 9.2 and 9.5), and the Notice Unit's taking of an event (09, section 9.6). -/

namespace Sys2Proof.Machine

def State.updLink (s : State) (f : Link → Link) : State := { s with link := f s.link }

/-! ### Receiving (R169, R170, R172) -/

/-- A frame discarded: its counter rises (R169, R170). -/
def Link.discard (l : Link) : Link := { l with discarded := saturate 65535 l.discarded }

/-- The three checks of a body (R170). -/
def bodyPasses (body : List Byte) : Bool :=
  decide (12 ≤ body.length) &&
  (let n := body.length - 2
   decide ((crc16 (body.take n)).toNat = ofBe (body.drop n))) &&
  byteAt body 0 == 0x01#8

/-- OVERRUN replies that wait. -/
def Link.overruns (l : Link) : Nat := (l.replies.filter (fun r => r.overrun)).length

/-- A frame that passed joins the queue, or gets an OVERRUN reply, or is discarded without one (R172). -/
def Link.arrive (l : Link) (body : List Byte) : Link :=
  if l.requests.length < Config.requestPlaces then { l with requests := l.requests ++ [body.take (body.length - 2)] }
  else
    let l := { l with overrun := saturate 65535 l.overrun }
    if l.overruns < Config.overrunPlaces then { l with replies := l.replies ++ [⟨true, overrunBody (byteAt body 1)⟩] } else l

/-- A body handed on by the framer (R170). -/
def Link.takeBody (l : Link) (body : List Byte) : Link := if bodyPasses body then l.arrive body else l.discard

/-- A byte appended to a body; one that would make it longer than 1,100 bytes discards the frame (R169). -/
def Link.extend (l : Link) (body : List Byte) (b : Byte) : Link :=
  if body.length < Config.maxBody then { l with framer := .body (body ++ [b]) } else { l.discard with framer := .hunt }

/-- The framer at a byte (R169). -/
def Link.receiveByte (l : Link) (b : Byte) : Link :=
  match l.framer with
  | .hunt => if b = frameStart then { l with framer := .body [] } else l
  | .body body =>
    if b = frameStart then { l.discard with framer := .body [] }
    else if b = frameEnd then { l with framer := .hunt }.takeBody body
    else if b = frameEscape then { l with framer := .escape body }
    else l.extend body b
  | .escape body =>
    if b = frameStart then { l.discard with framer := .body [] }
    else if b = frameEnd ∨ b = frameEscape then { l.discard with framer := .hunt }
    else if isDelimiter (b ^^^ 0x20#8) then l.extend body (b ^^^ 0x20#8)
    else { l.discard with framer := .hunt }

/-- The framer at a framing error (R169). -/
def Link.framingError (l : Link) : Link :=
  match l.framer with
  | .hunt => l
  | _ => { l.discard with framer := .hunt }

/-- What SLRX delivers (R168, R169). -/
def Link.receive (l : Link) : LineChar → Link
  | .char b => l.receiveByte b
  | .framingError => l.framingError

/-- RECEIVE_CHARACTER (R169). -/
def execReceiveCharacter (c : LineChar) : State → Host.Outcome State Fault Refusal :=
  whenPowered (fun s => s.updLink (fun l => l.receive c))

/-! ### Sending (R171, R178, R180, R182) -/

/-- The body of a NOTICE frame (11, section 11.2; R205). -/
def PendingNotice.body (p : PendingNotice) (level : Nat) : List Byte :=
  [0x04, p.kind.code, p.target.code] ++ be 1 level ++ be 1 p.count ++ be 4 p.first ++ be 4 p.last ++ p.data

/-- The pending notice to be sent: the earliest among those of the highest level (R180). -/
def Notices.best (u : Notices) : List PendingNotice → Option PendingNotice
  | [] => none
  | p :: ps =>
    match u.best ps with
    | some q => if u.level p.kind < u.level q.kind then some q else some p
    | none => some p

/-- A notice leaves the pending list (R182). -/
def removeNotice (p : PendingNotice) (l : List PendingNotice) : List PendingNotice :=
  l.filter (fun q => !(q.kind == p.kind && q.target == p.target))

/-- The arbiter begins to send a frame when the line is free: the oldest reply, else the COMPLETION, whose sending empties the
tracker, else a notice (R178, R180, R182). -/
def State.transmit (s : State) : State :=
  if s.link.sending.isSome then s
  else
    match s.link.replies with
    | r :: rest => s.updLink (fun l => { l with replies := rest, sending := some (wireBytes r.body) })
    | [] =>
      match s.link.completion with
      | some c =>
        { s with
          link := { s.link with completion := none, sending := some (wireBytes c) }
          proc := { s.proc with tracker := none } }
      | none =>
        match s.notices.best s.notices.pending with
        | some p =>
          { s with
            link := { s.link with sending := some (wireBytes (p.body (s.notices.level p.kind))) }
            notices := { s.notices with pending := removeNotice p s.notices.pending } }
        | none => s

/-- TRANSMIT_FRAME (R180). -/
def execTransmitFrame : State → Host.Outcome State Fault Refusal := whenPowered State.transmit

/-- FRAME_SEND_COMPLETE: the line is free again (R171, R180). -/
def execFrameSendComplete : State → Host.Outcome State Fault Refusal :=
  whenPowered (fun s => s.updLink (fun l => { l with sending := none }))

/-! ### Notices (R181, R182) -/

/-- The Notice Unit takes the oldest event that waits (R181, R182, log 5). -/
def State.takeEvent (s : State) : State :=
  match s.notices.inbox with
  | e :: rest => { s with notices := ({ s.notices with inbox := rest }).take e s.eventTime }
  | [] => s

/-- NOTICE_EVENT (R181, R182). -/
def execNoticeEvent : State → Host.Outcome State Fault Refusal := whenPowered State.takeEvent

end Sys2Proof.Machine
end

