-- ==== Sys2Proof/Machine/Power.lean ====
section
/-! DEFINITION. Power loss and power-on (R46; the reset tables of every chapter). -/

namespace Sys2Proof.Machine

/-- The line rate of the straps, SLB1 first (00_scope, section 7.1; R168). -/
def strapRate : Bool → Bool → Nat
  | false, false => 115200
  | false, true => 230400
  | true, false => 460800
  | true, true => 921600

/-- The volatile parts of a lane at power-on; its configuration is kept and its pins are what they are (R4, R23, R46, R138). -/
def Lane.powerUp (l : Lane) : Lane :=
  { l with
    refusals := Vector.replicate 30 0
    engine := Engine.reset
    portS := Port.reset
    portP := Port.reset
    waiting := []
    gate := { state := .outOfService, staffHold := false, emergency := false, command := .closed,
              motion := if l.inputs.report.agrees .closed then none else some l.config.motionMs,
              openTimer := none, mode := l.config.mode, lock := lockFor l.config.mode, place := false, queue := [], lineIn := [],
              passages := [] }
    monitor := { state := .clear, resync := !l.inputs.clear, occupancy := none }
    counters := Counters.zero
    resetting := none }

/-- The Hot List Store at power-on (R82). -/
def HotStore.powerUp (h : HotStore) : HotStore :=
  { h with standby := if h.complete then h.standby else ⟨none, []⟩, load := .idle }

/-- The pending table at power-on (R49, R71). -/
def PendingTable.powerUp : PendingTable → PendingTable
  | .waiting t e => .waiting t e
  | _ => .none

/-- The Emergency Input at power-on: a line that reads low starts settling (R139). -/
def EmergencyInput.powerUp (e : EmergencyInput) : EmergencyInput :=
  { rawLow := e.rawLow, taken := false, settling := if e.rawLow then some Config.settlingTime else none, assertedAt := none,
    owed := false }

/-- Volatile state starts afresh (00_scope, section 3.2; R46, R187, R188). -/
def State.clearVolatile (s : State) : State :=
  { s with
    link := { rate := s.link.rate, framer := .hunt, discarded := 0, overrun := 0, requests := [], replies := [], completion := none,
              sending := none }
    proc := { partSense := none, laneSenses := Vector.replicate 8 none, tracker := none, lastCompletion := none, initStage := 0 }
    lanes := s.lanes.map Lane.powerUp
    claims := Vector.replicate 8 none
    seen := { s.seen with inbox := [], sweepDue := false }
    hot := s.hot.powerUp
    fare := { active := s.fare.active, pending := s.fare.pending.powerUp, retiring := none }
    incidents := { s.incidents with lineIn := [] }
    clock := { time := 0, valid := false, hold := 0, phase := 0 }
    notices := { s.notices with inbox := [], conditions := [], pending := [] }
    emergency := s.emergency.powerUp }

/-- POWER_LOSS: volatile state is lost, and no step is taken until power returns (R46, log 31). -/
def execPowerLoss (s : State) : Host.Outcome State Fault Refusal := .next { s.clearVolatile with powered := false }

/-- A slot at power-on: RESERVED becomes OPEN with both times pending, its seen entry marked; an OPEN slot's expiry is pending
(R108). -/
def State.powerUpSlot (s : State) (i : SlotId) : State :=
  match s.slot i with
  | .free => s
  | .reserved f => (s.setSlot i (.opened f false none none)).markTear i f
  | .opened f em wt _ => s.setSlot i (.opened f em wt none)

/-- POWER_ON: straps sampled and NVWP at the level given, volatile state afresh, the Journal's TIME record before any other, then the
recovery slots (R46, R108, R165, R168, log 11). Several RESERVED slots are opened from slot 0 to slot 7, so that the marked seen entry
of the highest is the most recent: neither R80 nor R108 gives an order, the model's choice, log 52. -/
def State.powerOn (s : State) (slb1 slb0 nvwp : Bool) : State :=
  let s := { s.clearVolatile with powered := true, nvwp := nvwp }
  let s := { s with link := { s.link with rate := strapRate slb1 slb0 } }
  let s := s.record none RecordFlags.clear .timePowerOn
  slotIds.foldl (fun t i => t.powerUpSlot i) s

/-- POWER_ON (R46). -/
def execPowerOn (slb1 slb0 nvwp : Bool) (s : State) : Host.Outcome State Fault Refusal := .next (s.powerOn slb1 slb0 nvwp)

end Sys2Proof.Machine
end

