-- ==== Sys2Proof/Machine/Reports.lean ====
section
/-! DEFINITION. The two reports: READ LANE (R136) and READ STATUS (R194), byte by byte as 11, section 11.5 lays them out. -/

namespace Sys2Proof.Machine

/-! ### READ LANE (R136) -/

/-- The six stored fields, then the mode in force. -/
def Lane.configBytes (l : Lane) : List Byte :=
  [l.config.mode.code] ++ be 1 l.config.level ++ be 1 l.config.openTime ++ be 1 l.config.motionTimeout ++ be 1 l.config.tailgate ++
  [boolByte l.config.service, l.gate.mode.code]

def Lane.gateBytes (l : Lane) : List Byte :=
  [l.gate.state.code, boolByte l.gate.staffHold, boolByte l.gate.emergency, l.gate.wanted.code, l.gate.command.code,
   l.inputs.report.code, boolByte l.gate.motion.isSome, bitByte [l.gate.openTimer.isSome]] ++ optBytes 2 l.gate.openTimer

/-- A queued grant of 19 bytes. -/
def Grant.bytes (g : Grant) : List Byte :=
  [bitByte [g.identity.isSome, g.seq.isSome]] ++ optId g.identity ++ [g.direction.code, g.kind.code] ++ be 4 g.time ++
  optBytes 4 g.seq

/-- The place of a queued grant; of one that is not queued every field is absent: no presence bit, direction and kind FFH, the longer
fields 00H (R200). -/
def grantPlace (q : List Grant) (k : Nat) : List Byte :=
  match q[k]? with
  | some g => g.bytes
  | none => [0] ++ zeros 8 ++ [optCode none, optCode none] ++ zeros 4 ++ zeros 4

def Lane.queueBytes (l : Lane) : List Byte :=
  [l.gate.lock.code, boolByte l.gate.place] ++ be 1 l.gate.queue.length ++ grantPlace l.gate.queue 0 ++ grantPlace l.gate.queue 1

def Lane.monitorBytes (l : Lane) : List Byte :=
  [l.monitor.state.code, boolByte l.monitor.resync, bitByte [l.monitor.occupancy.isSome]] ++ optBytes 2 l.monitor.occupancy

def Lane.engineBytes (l : Lane) : List Byte := [l.engine.phase.code, optCode (l.engine.side.map sideCode)]

def Port.bytes (p : Port) : List Byte := [p.state.code, p.presence.code] ++ optId p.presence.identity

def Counters.bytes (c : Counters) : List Byte :=
  be 4 c.paid ++ be 4 c.tailgateSuspect ++ be 4 c.held ++ be 4 c.emergency ++ be 4 c.forced ++ be 4 c.counterflow ++
  be 4 c.unpaid ++ be 4 c.balk ++ be 4 c.forfeited ++ be 4 c.emergencyEntry ++ be 4 c.emergencyExit

/-- The 249 bytes of READ LANE. -/
def Lane.bytes (l : Lane) : List Byte :=
  l.configBytes ++ l.gateBytes ++ l.queueBytes ++ l.monitorBytes ++ l.engineBytes ++ l.portS.bytes ++ l.portP.bytes ++
  l.refusals.toList.flatMap (be 4) ++ l.counters.bytes

/-- The nine counters and the refusal counters zeroed, the assertion counts kept (R135). -/
def Lane.clearCounters (l : Lane) : Lane :=
  { l with
    refusals := Vector.replicate 30 0
    counters := { Counters.zero with emergencyEntry := l.counters.emergencyEntry, emergencyExit := l.counters.emergencyExit } }

/-- READ LANE (R135, R136). -/
def readLane (n : LaneId) (r : Request) (s : State) : State × Answer :=
  if r.byte 4 = 0 then (s, .good (s.lane n).bytes)
  else if r.byte 4 = 1 then (s.updLane n Lane.clearCounters, .good (s.lane n).bytes)
  else (s, .check (illegalField 4))

/-- READ_LANE (R136). -/
def execReadLane : State → Host.Outcome State Fault Refusal := whenPowered (serve 0x2D (onLane readLane))

/-! ### READ STATUS (R194) -/

/-- Readiness and the reason set (R192, R204). -/
def State.readinessBytes (s : State) : List Byte := [boolByte s.ready, bitByte s.partReasons]

def Clock.bytes (c : Clock) : List Byte := [boolByte c.valid] ++ be 4 c.time ++ be 2 c.hold

def keyBytes : Option Key → List Byte
  | some k => [1] ++ be 1 k.generation
  | none => [0, 0]

/-- Pending state, version, sections received and effective time (R49). The bytes of what R49 does not report in a state, the sections
received outside LOADING among them, are 00H: the model's choice, log 51. -/
def PendingTable.bytes : PendingTable → List Byte
  | .none => zeros 8
  | .loading v sections => [1] ++ be 2 v ++ [sectionBits sections] ++ zeros 4
  | .verifying v _ _ => [2] ++ be 2 v ++ zeros 5
  | .waiting t effective => [3] ++ be 2 t.version ++ zeros 1 ++ be 4 effective

def FareStore.bytes (f : FareStore) : List Byte :=
  [boolByte f.active.isSome] ++ optBytes 2 (f.active.map (·.version)) ++ f.pending.bytes

def Bank.bytes (b : Bank) : List Byte := [boolByte b.version.isSome] ++ optBytes 2 b.version ++ be 2 b.ids.length

/-- The load state; its version and counts are reported in LOADING (R82). Outside it their bytes are 00H: the model's choice, log 51. -/
def HotLoad.bytes : HotLoad → List Byte
  | .idle => zeros 7
  | .loading v total running _ => [1] ++ be 2 v ++ be 2 total ++ be 2 running
  | .verifying .. => [2] ++ zeros 6

def HotStore.bytes (h : HotStore) : List Byte := h.active.bytes ++ h.standby.bytes ++ h.load.bytes ++ be 1 h.locals.length

/-- A slot of 16 bytes; the fields its state does not report are 00H (R110, R200). -/
def Slot.bytes : Slot → List Byte
  | .free => zeros 16
  | .reserved f => [1] ++ be 1 f.lane.val ++ zeros 14
  | .opened f _ _ expiry =>
    [2] ++ be 1 f.lane.val ++ idBytes f.identity ++ [f.direction.code, bitByte [expiry.isSome]] ++ optBytes 4 expiry

/-- The journal group (R167). -/
def Journal.bytes (j : Journal) : List Byte :=
  be 2 j.count ++ seqBytes j.oldest ++ be 4 j.newest ++ seqBytes j.next ++ [boolByte (decide (Config.max32 < j.next))] ++
  be 4 j.lastTime ++ be 4 j.gapCount ++ [bitByte [j.firstDrop.isSome]] ++ optBytes 4 j.firstDrop ++ optBytes 4 j.lastDrop ++
  be 2 j.limit ++ be 2 j.thresholdA ++ be 2 j.thresholdB ++
  [boolByte j.admits, boolByte (decide (Config.lastSequences ≤ j.next))]

def IncidentList.statusBytes (l : IncidentList) : List Byte :=
  be 1 l.entries.length ++ [boolByte (l.entries.any Incident.openLocal)]

def EmergencyInput.bytes (e : EmergencyInput) : List Byte :=
  [boolByte e.taken, Config.rawLevelCode e.rawLow, bitByte [e.assertedAt.isSome]] ++ optBytes 4 e.assertedAt

/-- The tracker; EMPTY has no tag and no command (R178, R200). -/
def trackerBytes : Option LongOp → List Byte
  | some op => [if op.ended then 2 else 1, op.tag, op.command]
  | none => [0, optCode none, optCode none]

/-- Last completion status codes (11, section 11.1). -/
def CompletionStatus.code : CompletionStatus → Byte
  | .good => 1
  | .check => 2
  | .aborted => 3

/-- The last completion; none has no tag and no command (R179, R200). -/
def completionBytes : Option LastCompletion → List Byte
  | some c => [c.status.code, c.tag, c.command]
  | none => [0, optCode none, optCode none]

def State.linkBytes (s : State) : List Byte :=
  be 2 s.link.discarded ++ be 2 s.link.overrun ++ trackerBytes s.proc.tracker ++ completionBytes s.proc.lastCompletion

def Notices.bytes (u : Notices) : List Byte := be 1 u.conditions.length ++ be 1 u.pending.length ++ u.levels.toList.flatMap (be 1)

/-- The 256 bytes of READ STATUS. -/
def State.statusBytes (s : State) : List Byte :=
  s.readinessBytes ++ s.clock.bytes ++ s.keys.toList.flatMap keyBytes ++ s.fare.bytes ++ s.hot.bytes ++ be 2 s.seen.entries.length ++
  s.recovery.toList.flatMap Slot.bytes ++ s.journal.bytes ++ s.incidents.statusBytes ++ s.emergency.bytes ++ s.linkBytes ++
  s.notices.bytes ++ be 1 s.window ++ be 2 s.retention

/-- READ STATUS (R194). -/
def readStatus (_ : Request) (s : State) : State × Answer := (s, .good s.statusBytes)

/-- READ_STATUS (R194). -/
def execReadStatus : State → Host.Outcome State Fault Refusal := whenPowered (serve 0x03 readStatus)

end Sys2Proof.Machine
end

