-- ==== Sys2Proof/Machine/Store.lean ====
section
/-! DEFINITION. INITIALISE STORE: its tests, its clearing steps and its end (R198, R199). -/

namespace Sys2Proof.Machine

/-- An OPEN slot. -/
def Slot.isOpen : Slot → Bool
  | .opened .. => true
  | _ => false

/-- The tests of INITIALISE STORE that answer CHECK, in order (R198). -/
def State.initialiseRefusal (s : State) : Option Sense :=
  if s.journal.count ≠ 0 then some ⟨.orderError, detailJournalNotEmpty, none, some s.journal.count⟩
  else
    match slotIds.find? (fun i => (s.slot i).isOpen) with
    | some i => some ⟨.orderError, detailSlotOpen, none, some i.val⟩
    | none => if s.emergency.taken then some (orderError detailEmergency) else none

/-- The operation begins: the part is NOT READY and every gate goes OUT OF SERVICE (R192, R198). -/
def State.startInitialise (s : State) (r : Request) : State :=
  let before := s.ready
  let s := s.startLong r
  { s with proc := { s.proc with initStage := 0 } }.settleReadiness before

/-- INITIALISE STORE (R198). -/
def initialiseStore (r : Request) (s : State) : State × Answer :=
  match s.initialiseRefusal with
  | some x => (s, .check x)
  | none => if s.proc.tracker.isSome then (s, .busy) else (s.startInitialise r, .accepted)

/-- INITIALISE_STORE (R198). -/
def execInitialiseStore (s : State) (nvwp : Bool := true) : Host.Outcome State Fault Refusal := serveProtected 0x21 initialiseStore nvwp s

def State.setStage (s : State) (k : Nat) : State := { s with proc := { s.proc with initStage := k } }

/-- Step 1: the Seen-Card Table emptied but for tear pending (R75, R199). -/
def State.clearSeen (s : State) : State := s.setEntries (s.seen.entries.filter (fun e => e.tearPending.isSome))

/-- Step 2: both banks and the local list emptied (R82, R90, R199). -/
def State.clearHot (s : State) : State :=
  { s with hot := { active := ⟨none, []⟩, standby := ⟨none, []⟩, complete := false, load := .idle, locals := [] } }

/-- Step 4: every entry but an open local incident removed (R144, R199). -/
def State.clearIncidents (s : State) : State :=
  { s with incidents := { s.incidents with entries := s.incidents.entries.filter Incident.openLocal } }

/-- The next clearing step; the third waits while a retiring table is held, and is then made at its release (R199, log 9). -/
def State.clearNext (s : State) : State :=
  if s.initialising then
    match s.proc.initStage with
    | 0 => s.clearSeen.setStage 1
    | 1 => s.clearHot.setStage 2
    | 2 => if s.fare.retiring.isSome then s else s.clearFare
    | 3 => s.clearIncidents.setStage 4
    | _ => s
  else s

/-- INITIALISE_STORE_CLEAR (R199, log 9). -/
def execInitialiseStoreClear : State → Host.Outcome State Fault Refusal := whenPowered State.clearNext

/-- The read-back ends the operation, GOOD or CHECK with the number of the step whose block failed (R199, R204, log 14). -/
def State.endInitialise (s : State) (failed : Option (Fin 4)) : State :=
  if s.initialising = true ∧ s.proc.initStage = 4 then
    let before := s.ready
    let sense := failed.map (fun k => Sense.mk .resource detailStoreError none (some (k.val + 1)))
    ((s.endLong sense).setStage 0).settleReadiness before
  else s

/-- INITIALISE_STORE_END (R199). -/
def execInitialiseStoreEnd (failed : Option (Fin 4)) : State → Host.Outcome State Fault Refusal :=
  whenPowered (fun s => s.endInitialise failed)

end Sys2Proof.Machine
end

