-- ==== Sys2Proof/Machine/Time.lean ====
section
/-! DEFINITION. The Station Clock's second, the expiry of recovery slots and the sweep (10, section 10.1; R81; R105). -/

namespace Sys2Proof.Machine

/-- An advance, handed to the Seen-Card Table on a whole minute; activation and expiry are considered at their own steps
(R188, R191, log 10). -/
def State.advance (s : State) : State :=
  let t := s.clock.time + 1
  let s := { s with clock := { s.clock with time := t } }
  if t % 60 = 0 then { s with seen := { s.seen with sweepDue := true } } else s

/-- The second (R188). -/
def State.second (s : State) : State :=
  let s := { s with clock := { s.clock with phase := 0 } }
  if s.clock.valid = false then s
  else if s.clock.hold ≠ 0 then { s with clock := { s.clock with hold := s.clock.hold - 1 } }
  else if s.clock.time < Config.max32 then s.advance
  else s

/-- CLOCK_SECOND (R188). -/
def execClockSecond : State → Host.Outcome State Fault Refusal := whenPowered State.second

/-- One slot expires: TEAR UNRESOLVED, then its event at the lane of the write (R105). -/
def State.expire (s : State) (i : SlotId) : State :=
  if s.slotDue i then
    match s.slot i with
    | .opened f _ _ _ =>
      (s.closeSlot i .unresolved f.lane).1.raise .tearUnresolved (.lane f.lane)
        (idBytes f.identity ++ be 1 i.val ++ be 3 f.newCounter)
    | _ => s
  else s

/-- Every slot whose time has come expires, in ascending order (R105). -/
def State.expireSlots (s : State) : State := slotIds.foldl (fun t i => t.expire i) s

/-- SLOT_EXPIRY (R105, log 10). -/
def execSlotExpiry : State → Host.Outcome State Fault Refusal := whenPowered State.expireSlots

/-- SEEN_SWEEP: a sweep handed over is taken (R81, log 10). -/
def execSeenSweep : State → Host.Outcome State Fault Refusal :=
  whenPowered (fun s => if s.seen.sweepDue = true ∧ s.clock.valid = true then s.sweep else s)

end Sys2Proof.Machine
end

