-- ==== Sys2Proof/Machine/Dispatch.lean ====
section
/-! DEFINITION. exec: one meaning for every command. -/

namespace Sys2Proof.Machine

def exec (i : Instr) (s : State) : Host.Outcome State Fault Refusal :=
  match i with
  | .powerOn slb1 slb0 nvwp => Sys2Proof.Machine.execPowerOn slb1 slb0 nvwp s
  | .powerLoss => Sys2Proof.Machine.execPowerLoss s
  | .receiveCharacter c => Sys2Proof.Machine.execReceiveCharacter c s
  | .transmitFrame => Sys2Proof.Machine.execTransmitFrame s
  | .frameSendComplete => Sys2Proof.Machine.execFrameSendComplete s
  | .unknownCommand => Sys2Proof.Machine.execUnknownCommand s
  | .testReady => Sys2Proof.Machine.execTestReady s
  | .requestSense => Sys2Proof.Machine.execRequestSense s
  | .readStatus => Sys2Proof.Machine.execReadStatus s
  | .setTime => Sys2Proof.Machine.execSetTime s
  | .setParameters nvwp => Sys2Proof.Machine.execSetParameters s nvwp
  | .readConditions => Sys2Proof.Machine.execReadConditions s
  | .readJournal => Sys2Proof.Machine.execReadJournal s
  | .releaseJournal nvwp => Sys2Proof.Machine.execReleaseJournal s nvwp
  | .hotlistBegin nvwp => Sys2Proof.Machine.execHotlistBegin s nvwp
  | .hotlistSegment nvwp => Sys2Proof.Machine.execHotlistSegment s nvwp
  | .hotlistAbandon => Sys2Proof.Machine.execHotlistAbandon s
  | .localListRead => Sys2Proof.Machine.execLocalListRead s
  | .localListRemove nvwp => Sys2Proof.Machine.execLocalListRemove s nvwp
  | .findCard => Sys2Proof.Machine.execFindCard s
  | .fareBegin nvwp => Sys2Proof.Machine.execFareBegin s nvwp
  | .fareSection nvwp => Sys2Proof.Machine.execFareSection s nvwp
  | .fareCommit nvwp => Sys2Proof.Machine.execFareCommit s nvwp
  | .incidentAdd nvwp => Sys2Proof.Machine.execIncidentAdd s nvwp
  | .incidentClose nvwp => Sys2Proof.Machine.execIncidentClose s nvwp
  | .incidentRemove nvwp => Sys2Proof.Machine.execIncidentRemove s nvwp
  | .incidentRead => Sys2Proof.Machine.execIncidentRead s
  | .resetPart => Sys2Proof.Machine.execResetPart s
  | .initialiseStore nvwp => Sys2Proof.Machine.execInitialiseStore s nvwp
  | .initialiseStoreClear => Sys2Proof.Machine.execInitialiseStoreClear s
  | .initialiseStoreEnd failed => Sys2Proof.Machine.execInitialiseStoreEnd failed s
  | .configureLane nvwp => Sys2Proof.Machine.execConfigureLane s nvwp
  | .laneService nvwp => Sys2Proof.Machine.execLaneService s nvwp
  | .holdOpen => Sys2Proof.Machine.execHoldOpen s
  | .releaseHold => Sys2Proof.Machine.execReleaseHold s
  | .grantPassage => Sys2Proof.Machine.execGrantPassage s
  | .readLane => Sys2Proof.Machine.execReadLane s
  | .resetLane => Sys2Proof.Machine.execResetLane s
  | .setNoticeLevels nvwp => Sys2Proof.Machine.execSetNoticeLevels s nvwp
  | .loadKey nvwp => Sys2Proof.Machine.execLoadKey s nvwp
  | .fareVerificationEnd => Sys2Proof.Machine.execFareVerificationEnd s
  | .hotlistVerificationEnd good => Sys2Proof.Machine.execHotlistVerificationEnd good s
  | .headReady n side => Sys2Proof.Machine.execHeadReady n side s
  | .headFaultReport n side => Sys2Proof.Machine.execHeadFaultReport n side s
  | .headAnswerTimeout n side => Sys2Proof.Machine.execHeadAnswerTimeout n side s
  | .faultPoll n side => Sys2Proof.Machine.execFaultPoll n side s
  | .headPresent n side id => Sys2Proof.Machine.execHeadPresent n side id s
  | .headMultiple n side => Sys2Proof.Machine.execHeadMultiple n side s
  | .headGone n side => Sys2Proof.Machine.execHeadGone n side s
  | .headData n side image => Sys2Proof.Machine.execHeadData n side image s
  | .headLost n side => Sys2Proof.Machine.execHeadLost n side s
  | .headDone n side => Sys2Proof.Machine.execHeadDone n side s
  | .headLostBefore n side => Sys2Proof.Machine.execHeadLostBefore n side s
  | .headLostDuring n side => Sys2Proof.Machine.execHeadLostDuring n side s
  | .admissionRequest n => Sys2Proof.Machine.execAdmissionRequest n s
  | .journalAdmissionCheck n => Sys2Proof.Machine.execJournalAdmissionCheck n s
  | .hotlistLookup n => Sys2Proof.Machine.execHotlistLookup n s
  | .claimRequest n => Sys2Proof.Machine.execClaimRequest n s
  | .claimRelease n => Sys2Proof.Machine.execClaimRelease n s
  | .resolutionRequest n => Sys2Proof.Machine.execResolutionRequest n s
  | .reservationRequest n => Sys2Proof.Machine.execReservationRequest n s
  | .grantPush n => Sys2Proof.Machine.execGrantPush n s
  | .seenUpdate n => Sys2Proof.Machine.execSeenUpdate n s
  | .passageForfeitureUpdate => Sys2Proof.Machine.execPassageForfeitureUpdate s
  | .localAddition n => Sys2Proof.Machine.execLocalAddition n s
  | .incidentQuery n => Sys2Proof.Machine.execIncidentQuery n s
  | .journalAppend n => Sys2Proof.Machine.execJournalAppend n s
  | .noticeEvent => Sys2Proof.Machine.execNoticeEvent s
  | .openTimerExpiry n => Sys2Proof.Machine.execOpenTimerExpiry n s
  | .motionTimerExpiry n => Sys2Proof.Machine.execMotionTimerExpiry n s
  | .actuatorReport n gsa gsb => Sys2Proof.Machine.execActuatorReport n gsa gsb s
  | .beamBroken n side => Sys2Proof.Machine.execBeamBroken n side s
  | .beamClear n side => Sys2Proof.Machine.execBeamClear n side s
  | .passageCompleted n => Sys2Proof.Machine.execPassageCompleted n s
  | .emrgnChange low => Sys2Proof.Machine.execEmrgnChange low s
  | .emergencyAssertionTaken => Sys2Proof.Machine.execEmergencyAssertionTaken s
  | .emergencyReleaseTaken => Sys2Proof.Machine.execEmergencyReleaseTaken s
  | .gateTakesAssertion n => Sys2Proof.Machine.execGateTakesAssertion n s
  | .gateTakesRelease n => Sys2Proof.Machine.execGateTakesRelease n s
  | .engineTakesAssertion n => Sys2Proof.Machine.execEngineTakesAssertion n s
  | .engineTakesRelease n => Sys2Proof.Machine.execEngineTakesRelease n s
  | .incidentTakesAssertion => Sys2Proof.Machine.execIncidentTakesAssertion s
  | .incidentTakesRelease => Sys2Proof.Machine.execIncidentTakesRelease s
  | .clockSecond => Sys2Proof.Machine.execClockSecond s
  | .fareTableActivation => Sys2Proof.Machine.execFareTableActivation s
  | .slotExpiry => Sys2Proof.Machine.execSlotExpiry s
  | .seenSweep => Sys2Proof.Machine.execSeenSweep s

end Sys2Proof.Machine
end

