-- ==== Sys2Proof/Machine/Tick.lean ====
section
/-! DEFINITION. One millisecond of a part whose queue of commands is empty, and the steps it then owes (log 3). -/

namespace Sys2Proof.Machine

/-! ### One millisecond -/

/-- The head answer timer of an outstanding exchange, and the second of FAULT (R9, R10, R12). -/
def Port.tick (p : Port) : Port :=
  { p with
    exchange := p.exchange.map (fun x => { x with timer := x.timer - 1 })
    pollTimer := if p.state = .fault then p.pollTimer - 1 else p.pollTimer }

/-- Motion timer and open timer (R114, R118). -/
def Gate.tick (g : Gate) : Gate := { g with motion := g.motion.map (· - 1), openTimer := g.openTimer.map (· - 1) }

/-- Occupancy, which stays at 65,535 (R130). -/
def Monitor.tick (m : Monitor) : Monitor := { m with occupancy := m.occupancy.map (saturate 65535) }

def Lane.tick (l : Lane) : Lane :=
  { l with portS := l.portS.tick, portP := l.portP.tick, gate := l.gate.tick, monitor := l.monitor.tick }

def EmergencyInput.tick (e : EmergencyInput) : EmergencyInput := { e with settling := e.settling.map (· - 1) }

/-- A millisecond passes (log 3). -/
def State.millisecond (s : State) : State :=
  { s with
    lanes := s.lanes.map Lane.tick
    emergency := s.emergency.tick
    clock := { s.clock with phase := s.clock.phase + 1 } }

/-! ### The steps the part owes -/

/-- The row of a request's code, at this level of NVWP. -/
def requestRow (nvwp : Bool) (c : Byte) : Instr :=
  match c.toNat with
  | 0x01 => .testReady
  | 0x02 => .requestSense
  | 0x03 => .readStatus
  | 0x04 => .setTime
  | 0x05 => .setParameters nvwp
  | 0x06 => .readConditions
  | 0x08 => .readJournal
  | 0x09 => .releaseJournal nvwp
  | 0x10 => .hotlistBegin nvwp
  | 0x11 => .hotlistAbandon
  | 0x12 => .localListRead
  | 0x13 => .localListRemove nvwp
  | 0x14 => .findCard
  | 0x18 => .fareBegin nvwp
  | 0x19 => .fareCommit nvwp
  | 0x1C => .incidentClose nvwp
  | 0x1D => .incidentRemove nvwp
  | 0x1E => .incidentRead
  | 0x20 => .resetPart
  | 0x21 => .initialiseStore nvwp
  | 0x28 => .configureLane nvwp
  | 0x29 => .laneService nvwp
  | 0x2A => .holdOpen
  | 0x2B => .releaseHold
  | 0x2C => .grantPassage
  | 0x2D => .readLane
  | 0x2E => .resetLane
  | 0x40 => .setNoticeLevels nvwp
  | 0x41 => .hotlistSegment nvwp
  | 0x42 => .fareSection nvwp
  | 0x43 => .loadKey nvwp
  | 0x44 => .incidentAdd nvwp
  | _ => .unknownCommand

/-- The row that takes the oldest frame (R173, R174, log 2). -/
def State.dueRequest (s : State) : List Instr :=
  match s.link.requests with
  | frame :: _ =>
    if s.processorFree then
      (if (frameTarget frame).isSome then [requestRow s.nvwp (byteAt frame 3)] else [.unknownCommand])
    else []
  | [] => []

/-- A frame waits and the line is free (R180). -/
def State.dueFrame (s : State) : List Instr :=
  if s.link.sending.isNone &&
      (!s.link.replies.isEmpty || s.link.completion.isSome || !s.notices.pending.isEmpty) then [.transmitFrame] else []

/-- What a port's timers owe (R12). -/
def Port.due (p : Port) (n : LaneId) (side : Side) : List Instr :=
  (if p.exchange.any (fun x => x.timer == 0) then [.headAnswerTimeout n side] else []) ++
  (if p.state = .fault ∧ p.pollTimer = 0 then [.faultPoll n side] else [])

/-- The row an engine waits for. -/
def Awaiting.row (n : LaneId) : Awaiting → List Instr
  | .nothing => []
  | .admission => [.admissionRequest n]
  | .journal => [.journalAdmissionCheck n]
  | .hotlist => [.hotlistLookup n]
  | .claim => [.claimRequest n]
  | .resolution => [.resolutionRequest n]
  | .incident => [.incidentQuery n]
  | .reservation => [.reservationRequest n]

/-- The row of a step of FINISHING. -/
def Duty.row (n : LaneId) : Duty → Instr
  | .localAddition => .localAddition n
  | .cardRecord => .journalAppend n
  | .seenUpdate => .seenUpdate n
  | .push => .grantPush n
  | .releaseClaim => .claimRelease n

/-- The row of a change of the line. -/
def lineRow (assertion release : Instr) : List LineChange → List Instr
  | .assertion :: _ => [assertion]
  | .release :: _ => [release]
  | [] => []

/-- What a gate's timers owe. They stand before every other step, the motion timer's before the open timer's, so that no step of the
same millisecond starts afresh a timer that has expired: an open expiry's close would (R114, R116, log 3). -/
def Gate.due (g : Gate) (n : LaneId) : List Instr :=
  (if g.motion = some 0 then [.motionTimerExpiry n] else []) ++
  (if g.openTimer = some 0 then [.openTimerExpiry n] else [])

/-- What a lane owes beside its gate's timers. -/
def Lane.due (l : Lane) (n : LaneId) : List Instr :=
  l.portS.due n .s ++ l.portP.due n .p ++
  lineRow (.gateTakesAssertion n) (.gateTakesRelease n) l.gate.lineIn ++
  lineRow (.engineTakesAssertion n) (.engineTakesRelease n) l.engine.lineIn ++
  (if l.gate.passages.isEmpty then [] else [.passageCompleted n]) ++
  l.engine.awaiting.row n ++ (l.engine.duties.take 1).map (Duty.row n)

/-- What the Emergency Input owes (R139). -/
def EmergencyInput.due (e : EmergencyInput) : List Instr :=
  if e.settling = some 0 then
    (if e.rawLow = true ∧ e.taken = false then [.emergencyAssertionTaken]
     else if e.rawLow = false ∧ e.taken = true then [.emergencyReleaseTaken] else [])
  else []

/-- What the clock and the blocks that wait on time owe (R191). -/
def State.dueTime (s : State) : List Instr :=
  (if 1000 ≤ s.clock.phase then [.clockSecond] else []) ++
  (if s.activationDue.isSome then [.fareTableActivation] else []) ++
  (if slotIds.any s.slotDue then [.slotExpiry] else []) ++
  (if s.seen.sweepDue && s.clock.valid then [.seenSweep] else [])

/-- The clearing step of a RUNNING INITIALISE STORE (R199). -/
def State.dueClear (s : State) : List Instr :=
  if s.initialising && decide (s.proc.initStage < 4) then [.initialiseStoreClear] else []

/-- Every step the part owes of itself (log 3). -/
def State.due (s : State) : List Instr :=
  laneIds.flatMap (fun n => (s.lane n).gate.due n) ++ s.emergency.due ++ s.dueTime ++
  lineRow .incidentTakesAssertion .incidentTakesRelease s.incidents.lineIn ++
  laneIds.flatMap (fun n => (s.lane n).due n) ++
  (if s.seen.inbox.isEmpty then [] else [.passageForfeitureUpdate]) ++
  (if s.notices.inbox.isEmpty then [] else [.noticeEvent]) ++
  s.dueClear ++ s.dueRequest ++ s.dueFrame

/-- What step does on an empty queue: a millisecond passes and the steps then owed are put in the queue; without power nothing
happens (log 3, log 31). -/
def tick (s : State) : State :=
  if s.powered then
    let s := s.millisecond
    { s with pending := s.due }
  else s

end Sys2Proof.Machine
end

