-- ==== Sys2Proof/Machine/Step.lean ====
section
/-! DEFINITION. The step of the block: the command at the front of its queue, or a millisecond when the queue is empty. -/

namespace Sys2Proof.Machine

/-- The command at the front is run on the state with the queue's rest; on an empty queue the part ticks (log 3). -/
def step (s : State) : Host.Outcome State Fault Refusal :=
  match s.pending with
  | c :: rest => exec c { s with pending := rest }
  | [] => .next (tick s)

/-- The command a word spells, put at the front of the queue; no word spells one (Decode.lean). -/
def State.withFetchWord (s : State) (nbits w : Nat) : State :=
  match decodeTableWord nbits w with
  | some c => { s with pending := c :: s.pending }
  | none => s

end Sys2Proof.Machine
end

