-- ==== Sys2Proof/Safety.lean ====
section
/-! DEFINITION. What the statements speak of: the invariants of the part's stores, and when a request's command runs. -/

namespace Sys2Proof.Machine

/-! ### Invariants -/

/-- The records stand in consecutive sequence from the oldest to one below the next sequence, their times never fall and are not
above the last record time, and the store is never over its capacity or past the last sequence; the sequence starts at 1 (R151, R155,
R156, R164). -/
def Journal.wf (j : Journal) : Prop :=
  j.records.map (·.seq) = List.range' j.oldest j.count ∧ j.oldest + j.count = j.next ∧
  (j.records.map (·.time)).Pairwise (· ≤ ·) ∧ (∀ r ∈ j.records, r.time ≤ j.lastTime) ∧
  j.count ≤ Config.journalCapacity ∧ j.next ≤ Config.max32 + 1 ∧ 1 ≤ j.next

/-- A bank's identities are strictly ascending and at most 16,384 (R82). -/
def Bank.wf (b : Bank) : Prop := ascending b.ids = true ∧ b.ids.length ≤ Config.bankCapacity

/-- The running count of a load is that of the standby bank and not above its total, and the last identity is the newest (R82). -/
def HotLoad.wf (standby : Bank) : HotLoad → Prop
  | .idle => True
  | .loading _ total running last =>
    running = standby.ids.length ∧ running ≤ total ∧ total ≤ Config.bankCapacity ∧ last = standby.ids.getLast?
  | .verifying _ total running => running = standby.ids.length ∧ running ≤ total ∧ total ≤ Config.bankCapacity

/-- Both banks in order; the local list at most 64 identities, each once and none of the active bank (R82, R90). -/
def HotStore.wf (h : HotStore) : Prop :=
  h.active.wf ∧ h.standby.wf ∧ h.load.wf h.standby ∧ (h.locals.map (·.identity)).Nodup ∧
  (∀ e ∈ h.locals, e.identity ∉ h.active.ids) ∧ h.locals.length ≤ Config.localCapacity

/-- No identity is held by the claims of two lanes (R72). -/
def State.claimsApart (s : State) : Prop := ∀ m n id, s.claim m = some id → s.claim n = some id → m = n

/-- The slot a tear-pending mark names is OPEN for the entry's identity (R80). -/
def State.markHolds (s : State) (e : SeenEntry) : Prop :=
  ∀ i, e.tearPending = some i → ∃ f em wt ex, s.slot i = .opened f em wt ex ∧ f.identity = e.identity

/-- One seen entry for an identity, at most 8,192, every mark that of an OPEN slot of its identity (R75, R78, R80). -/
def State.seenWf (s : State) : Prop :=
  (s.seen.entries.map (·.identity)).Nodup ∧ s.seen.entries.length ≤ Config.seenCapacity ∧ ∀ e ∈ s.seen.entries, s.markHolds e

/-- Bytes the framer holds. -/
def Framer.size : Framer → Nat
  | .hunt => 0
  | .body bs => bs.length
  | .escape bs => bs.length

/-- A frame body in the request queue: 10 to 1,098 bytes without its CRC, of type REQUEST (R170). -/
def requestShaped (q : List Byte) : Prop := 10 ≤ q.length ∧ q.length + 2 ≤ Config.maxBody ∧ byteAt q 0 = 0x01#8

/-- At most four requests, one reply of the Request Processor and eight OVERRUN replies; the framer within 1,100 bytes; the two
counters of 16 bits (R169, R170, R172, R173). -/
def Link.wf (l : Link) : Prop :=
  l.requests.length ≤ Config.requestPlaces ∧ (∀ q ∈ l.requests, requestShaped q) ∧
  (l.replies.filter (fun r => !r.overrun)).length ≤ 1 ∧ l.overruns ≤ Config.overrunPlaces ∧
  l.framer.size ≤ Config.maxBody ∧ l.discarded ≤ 65535 ∧ l.overrun ≤ 65535

/-- Station time of 32 bits, a hold of at most 300 seconds, and both 0 while the valid flag is clear (R188, R190). -/
def Clock.wf (c : Clock) : Prop :=
  c.time ≤ Config.max32 ∧ c.hold ≤ 300 ∧ (c.valid = false → c.time = 0 ∧ c.hold = 0)

/-- One condition and one pending notice for a pair, counts of 1 to 255, and no pending notice of a kind at level 0 (R181, R182,
R184). -/
def Notices.wf (u : Notices) : Prop :=
  (u.conditions.map (fun c => (c.kind, c.target))).Nodup ∧ (u.pending.map (fun p => (p.kind, p.target))).Nodup ∧
  (∀ c ∈ u.conditions, 1 ≤ c.count ∧ c.count ≤ 255) ∧
  (∀ p ∈ u.pending, 1 ≤ p.count ∧ p.count ≤ 255 ∧ u.level p.kind ≠ 0)

/-! ### When a request's command runs -/

/-- The Request Processor has power and is free, and the oldest frame is r, of this code (R173). -/
abbrev State.fronts (s : State) (code : Byte) (r : Request) (rest : List (List Byte)) : Prop :=
  s.powered = true ∧ s.processorFree = true ∧ s.link.requests = r.body :: rest ∧ frameTarget r.body = some r.target ∧
  r = Request.ofFrame r.body r.target ∧ r.code = code

/-- That request passes the tests of R174 and is not answered BUSY by R175, so its command runs. -/
abbrev State.takes (s : State) (code : Byte) (r : Request) (rest : List (List Byte)) : Prop :=
  s.fronts code r rest ∧ r.refusal = none ∧ s.busyFor r = false

/-- The oldest frame removed from the queue, and nothing else. -/
def State.popped (s : State) (rest : List (List Byte)) : State := { s with link := { s.link with requests := rest } }

/-- The reply GOOD to a request placed. -/
def State.good (s : State) (r : Request) (data : List Byte) : State := s.answer r.tag r.target (.good data)
/-- The reply CHECK placed, its sense on the target's record. -/
def State.checked (s : State) (r : Request) (x : Sense) : State := s.answer r.tag r.target (.check x)
/-- The reply BUSY placed. -/
def State.busied (s : State) (r : Request) : State := s.answer r.tag r.target .busy
/-- The reply ACCEPTED placed. -/
def State.accepted (s : State) (r : Request) : State := s.answer r.tag r.target .accepted

end Sys2Proof.Machine
end

