-- ==== Sys2Proof/Certificates/Slice0/Obligations.lean ====
section
/-! DEFINITION. The statements about the part, for the provers. -/

open Sys2Proof Sys2Proof.Machine

/-! ### The machine as a whole -/

/-- A step takes the command at the front of the queue and runs its meaning on the state with the queue's rest. -/
def Obligations.StepTakesTheFrontCommand : Prop :=
  ∀ (c : Instr) (s : State), step { s with pending := c :: s.pending } = exec c s

/-- On an empty queue a powered part lets one millisecond pass: its timers run and the steps then owed are queued; a part without
power does nothing. The model's choice: log 3, log 31. -/
def Obligations.EmptyQueuePassesMillisecond : Prop :=
  ∀ s : State, s.pending = [] →
    (s.powered = false → step s = .next s) ∧
    (s.powered = true → ∃ t, step s = .next t ∧ t.pending = s.millisecond.due ∧
      t.clock = { s.clock with phase := s.clock.phase + 1 } ∧
      t.emergency = { s.emergency with settling := s.emergency.settling.map (· - 1) } ∧
      (∀ n, (t.lane n).gate = { (s.lane n).gate with motion := (s.lane n).gate.motion.map (· - 1)
                                                     openTimer := (s.lane n).gate.openTimer.map (· - 1) }) ∧
      (∀ n, (t.lane n).monitor.occupancy = (s.lane n).monitor.occupancy.map (fun o => if o < 65535 then o + 1 else o)) ∧
      (∀ n side, ((t.lane n).port side).exchange =
        ((s.lane n).port side).exchange.map (fun x => { x with timer := x.timer - 1 })) ∧
      (∀ n, (t.lane n).engine = (s.lane n).engine ∧ (t.lane n).config = (s.lane n).config ∧
        (t.lane n).counters = (s.lane n).counters ∧ (t.lane n).refusals = (s.lane n).refusals ∧
        (t.lane n).inputs = (s.lane n).inputs) ∧
      { t with pending := [], clock := s.clock, emergency := s.emergency, lanes := s.lanes } = s)

/-- Every well-formed command ends in a next state; the one command turned away is a DATA without its 64 bytes (log 40). -/
def Obligations.WellFormedCommandsComplete : Prop :=
  (∀ (c : Instr) (s : State), c.wellFormed = true → ∃ t, exec c s = .next t) ∧
  (∀ (n : LaneId) (side : Side) (m : List Byte) (s : State), m.length ≠ 64 →
    exec (.headData n side m) s = .refused .malformedRecord)

/-- No command's meaning touches the queue of waiting commands. -/
def Obligations.CommandsKeepTheQueue : Prop := ∀ (c : Instr) (s t : State), exec c s = .next t → t.pending = s.pending

/-- The part right after its first power-on holds the delivered and power-on values of every block. -/
def Obligations.ResetHoldsDeliveredValues : Prop :=
  let s := State.reset
  s.pending = [] ∧ s.powered = true ∧
  s.link.framer = .hunt ∧ s.link.discarded = 0 ∧ s.link.overrun = 0 ∧ s.link.requests = [] ∧ s.link.replies = [] ∧
  s.link.completion = none ∧ s.link.sending = none ∧
  s.proc.partSense = none ∧ (∀ n : LaneId, s.sense (.lane n) = none) ∧ s.proc.tracker = none ∧ s.proc.lastCompletion = none ∧
  (∀ n : LaneId, (s.lane n).config = ⟨.both, 3, 8, 15, 18, false⟩ ∧ (s.lane n).engine.phase = .idle ∧
    (s.lane n).gate.state = .outOfService ∧ (s.lane n).gate.staffHold = false ∧ (s.lane n).gate.emergency = false ∧
    (s.lane n).gate.command = .closed ∧ (s.lane n).gate.openTimer = none ∧ (s.lane n).gate.mode = .both ∧
    (s.lane n).gate.lock = .free ∧ (s.lane n).gate.place = false ∧ (s.lane n).gate.queue = [] ∧
    (s.lane n).monitor.state = .clear ∧ (s.lane n).monitor.occupancy = none ∧ (s.lane n).counters = Counters.zero ∧
    (∀ r : Fin 30, (s.lane n).refusals[r] = 0) ∧
    (∀ side, ((s.lane n).port side).state = .polling ∧ ((s.lane n).port side).presence = .none ∧
      ((s.lane n).port side).exchange = some ⟨.poll, 250⟩)) ∧
  (∀ n : LaneId, s.claim n = none) ∧ s.seen.entries = [] ∧
  s.hot.active = ⟨none, []⟩ ∧ s.hot.standby = ⟨none, []⟩ ∧ s.hot.complete = false ∧ s.hot.load = .idle ∧ s.hot.locals = [] ∧
  (∀ i : SlotId, s.slot i = .free) ∧ s.fare.active = none ∧ s.fare.pending = .none ∧ s.fare.retiring = none ∧
  s.incidents.entries = [] ∧ s.incidents.next = 1 ∧ (∀ k : Fin 4, s.keys[k] = none) ∧
  s.journal.records.map (·.body) = [.timePowerOn] ∧ s.journal.oldest = 1 ∧ s.journal.next = 2 ∧ s.journal.lastTime = 0 ∧
  s.journal.gapCount = 0 ∧ s.journal.limit = 30720 ∧ s.journal.thresholdA = 24576 ∧ s.journal.thresholdB = 28672 ∧
  s.window = 20 ∧ s.retention = 240 ∧ s.clock.time = 0 ∧ s.clock.valid = false ∧ s.clock.hold = 0 ∧
  s.notices.conditions = [] ∧ s.notices.pending = [] ∧
  s.notices.levels.toList = [7, 7, 7, 6, 6, 6, 5, 5, 5, 4, 4, 3, 3, 2, 2, 1] ∧
  s.emergency.taken = false ∧ s.emergency.assertedAt = none ∧ s.emergency.owed = false

/-! ### Invariants -/

/-- Every invariant below holds of the part right after reset. -/
def Obligations.InvariantsHoldAtReset : Prop :=
  State.reset.journal.wf ∧ State.reset.hot.wf ∧ State.reset.claimsApart ∧ State.reset.seenWf ∧ State.reset.link.wf ∧
  State.reset.clock.wf ∧ State.reset.notices.wf

/-- Every step keeps the Journal's records in consecutive sequence and rising time, within its capacity. -/
def Obligations.StepKeepsJournalOrder : Prop :=
  ∀ s t : State, s.journal.wf → step s = .next t → t.journal.wf

/-- Every step keeps both banks strictly ascending and the local list apart from the active bank and without repeats. -/
def Obligations.StepKeepsHotListOrder : Prop :=
  ∀ s t : State, s.hot.wf → step s = .next t → t.hot.wf

/-- Every step keeps every identity to the claim of one lane. -/
def Obligations.StepKeepsClaimsApart : Prop :=
  ∀ s t : State, s.claimsApart → step s = .next t → t.claimsApart

/-- Every step keeps one seen entry for an identity, at most 8,192 of them, each tear-pending mark that of an OPEN slot. -/
def Obligations.StepKeepsSeenTable : Prop :=
  ∀ s t : State, s.seenWf → step s = .next t → t.seenWf

/-- Every step keeps the request queue, the reply list, the framer and the link counters within their bounds. -/
def Obligations.StepKeepsLinkBounds : Prop :=
  ∀ s t : State, s.link.wf → step s = .next t → t.link.wf

/-- Every step keeps the clock within its range, and the conditions and pending notices one to a pair. -/
def Obligations.StepKeepsClockAndNotices : Prop :=
  ∀ s t : State, s.clock.wf → s.notices.wf → step s = .next t → t.clock.wf ∧ t.notices.wf

/-! ### Station Link -/

/-- The bytes that stand for a body on the line, received one after another by a part in HUNT with a free place in its queue, put
exactly that body into the queue. -/
def Obligations.FramesArriveWhole : Prop :=
  ∀ (s : State) (body : List Byte) (waiting : List Instr),
    s.powered = true → 10 ≤ body.length → body.length + 2 ≤ 1100 → byteAt body 0 = 0x01#8 → s.link.framer = .hunt →
    s.link.requests.length < 4 →
    Host.Core.run core (wireBytes body).length
        { s with pending := (wireBytes body).map (fun b => Instr.receiveCharacter (.char b)) ++ waiting } =
      .next { s with pending := waiting, link := { s.link with requests := s.link.requests ++ [body] } }

/-- The framer at a character: its table, the escape test, and the three checks of a body that ended. -/
def Obligations.FramerFollowsItsTable : Prop :=
  ∀ (s : State) (c : LineChar), s.powered = true →
    let l := s.link
    let discard : Link := { l with discarded := if l.discarded < 65535 then l.discarded + 1 else l.discarded }
    let grow (body : List Byte) (b : Byte) : Link :=
      if body.length < 1100 then { l with framer := .body (body ++ [b]) } else { discard with framer := .hunt }
    let ended (body : List Byte) : Link :=
      if 12 ≤ body.length ∧ (crc16 (body.take (body.length - 2))).toNat = ofBe (body.drop (body.length - 2)) ∧
          byteAt body 0 = 0x01#8 then
        if l.requests.length < 4 then { l with framer := .hunt, requests := l.requests ++ [body.take (body.length - 2)] }
        else
          { l with
            framer := .hunt
            overrun := if l.overrun < 65535 then l.overrun + 1 else l.overrun
            replies := if l.overruns < 8 then l.replies ++ [⟨true, [0x02, byteAt body 1, 0x04]⟩] else l.replies }
      else { discard with framer := .hunt }
    exec (.receiveCharacter c) s = .next { s with
      link :=
        match l.framer, c with
        | .hunt, .char b => if b = 0xF5#8 then { l with framer := .body [] } else l
        | .hunt, .framingError => l
        | .body body, .char b =>
          if b = 0xF5#8 then { discard with framer := .body [] }
          else if b = 0xFA#8 then ended body
          else if b = 0xF0#8 then { l with framer := .escape body }
          else grow body b
        | .body _, .framingError => { discard with framer := .hunt }
        | .escape body, .char b =>
          if b = 0xF5#8 then { discard with framer := .body [] }
          else if b = 0xFA#8 ∨ b = 0xF0#8 then { discard with framer := .hunt }
          else if [0xF5#8, 0xFA#8, 0xF0#8].contains (b ^^^ 0x20#8) then grow body (b ^^^ 0x20#8)
          else { discard with framer := .hunt }
        | .escape _, .framingError => { discard with framer := .hunt } }

/-- The arbiter at a free line: the oldest reply, else the COMPLETION, whose sending empties the tracker, else a pending notice of
the highest level, the earliest of that level; and the end of a frame frees the line. -/
def Obligations.ArbiterChoosesTheFrame : Prop :=
  ∀ s : State, s.powered = true →
    (∀ (r : Reply) (rest : List Reply), s.link.sending = none → s.link.replies = r :: rest →
      exec .transmitFrame s = .next { s with link := { s.link with replies := rest, sending := some (wireBytes r.body) } }) ∧
    (∀ c : List Byte, s.link.sending = none → s.link.replies = [] → s.link.completion = some c →
      exec .transmitFrame s = .next { s with
        link := { s.link with completion := none, sending := some (wireBytes c) }
        proc := { s.proc with tracker := none } }) ∧
    (∀ (before after : List PendingNotice) (p : PendingNotice), s.link.sending = none → s.link.replies = [] →
      s.link.completion = none → s.notices.pending = before ++ p :: after →
      (s.notices.pending.map (fun q => (q.kind, q.target))).Nodup →
      (∀ q ∈ before, s.notices.level q.kind < s.notices.level p.kind) →
      (∀ q ∈ after, s.notices.level q.kind ≤ s.notices.level p.kind) →
      exec .transmitFrame s = .next { s with
        link := { s.link with sending := some (wireBytes ([0x04, p.kind.code, p.target.code] ++ be 1 (s.notices.level p.kind) ++
          be 1 p.count ++ be 4 p.first ++ be 4 p.last ++ p.data)) }
        notices := { s.notices with pending := before ++ after } }) ∧
    (s.link.sending ≠ none → exec .transmitFrame s = .next s) ∧
    exec .frameSendComplete s = .next { s with link := { s.link with sending := none } }

/-- An event taken by the Notice Unit: its pair's condition latched anew at the end, or counted again in its place; its pair's
notice placed or refreshed the same way when its kind's level is not 0. -/
def Obligations.NoticeUnitLatchesEvents : Prop :=
  ∀ (s : State) (e : Event) (rest : List Event), s.powered = true → s.notices.wf → s.notices.inbox = e :: rest →
    let now := if s.clock.valid then s.clock.time else 0
    let conditions :=
      if s.notices.conditions.any (fun c => c.kind == e.kind && c.target == e.target) then
        s.notices.conditions.map (fun c =>
          if c.kind = e.kind ∧ c.target = e.target then { c with count := min 255 (c.count + 1), last := now } else c)
      else s.notices.conditions ++ [⟨e.kind, e.target, 1, now, now⟩]
    let pending :=
      if s.notices.level e.kind = 0 then s.notices.pending
      else if s.notices.pending.any (fun p => p.kind == e.kind && p.target == e.target) then
        s.notices.pending.map (fun p =>
          if p.kind = e.kind ∧ p.target = e.target then { p with count := min 255 (p.count + 1), last := now, data := e.data }
          else p)
      else s.notices.pending ++ [⟨e.kind, e.target, 1, now, now, e.data⟩]
    exec .noticeEvent s = .next { s with
      notices := { s.notices with inbox := rest, conditions := conditions, pending := pending } }

/-! ### Requests to the part -/

/-- TEST READY replies GOOD when no reason fails, and otherwise CHECK, NOT READY, with the first failing reason as detail and the
set of them as information; at a lane two further reasons are tested. A frame whose target or code names nothing is refused. Of
every command, a frame sent to the wrong kind of target or of a wrong length is refused; then a lane that is being reset and a
RUNNING INITIALISE STORE are answered BUSY, and the command of any other frame runs. -/
def Obligations.ReadinessIsTested : Prop :=
  (∀ (s : State) (r : Request) (rest : List (List Byte)), s.takes 0x01 r rest →
    let u := s.takeRequest r rest
    let reasons :=
      [!s.clock.valid, s.fare.active.isNone, s.keys.toList.all (fun k => k.isNone), s.initialising] ++
      (match r.target with
       | .part => []
       | .lane n => [!(s.lane n).config.service, decide ((s.lane n).gate.state = .fault)])
    exec .testReady s = .next (
      match reasons.findIdx? id with
      | none => u.good r []
      | some k => u.checked r ⟨.notReady, 0x20 + k, none, some (bitsOf reasons)⟩)) ∧
  (∀ (s : State) (frame : List Byte) (rest : List (List Byte)), s.powered = true → s.processorFree = true →
    s.link.requests = frame :: rest → frameTarget frame = none →
    exec .unknownCommand s = .next
      (((s.popped rest).setSense .part none).answer (byteAt frame 1) .part (.check ⟨.illegalRequest, 0x01, some 2, none⟩))) ∧
  (∀ (s : State) (r : Request) (rest : List (List Byte)), s.fronts r.code r rest → commandKind r.code = none →
    exec .unknownCommand s = .next
      (((s.popped rest).setSense r.target none).checked r ⟨.illegalRequest, 0x02, some 3, none⟩)) ∧
  (∀ (base : State) (nvwp : Bool) (c : Byte) (r : Request) (rest : List (List Byte)),
    let partWide : List Byte :=
      [0x04, 0x05, 0x06, 0x08, 0x09, 0x10, 0x11, 0x12, 0x13, 0x14, 0x18, 0x19, 0x1C, 0x1D, 0x1E, 0x20, 0x21, 0x40, 0x41, 0x42, 0x43,
       0x44]
    let ofLane : List Byte := [0x28, 0x29, 0x2A, 0x2B, 0x2C, 0x2D, 0x2E]
    let testsStore : List Byte :=
      [0x05, 0x09, 0x10, 0x13, 0x18, 0x19, 0x1C, 0x1D, 0x21, 0x28, 0x29, 0x40, 0x41, 0x42, 0x43, 0x44]
    let s : State := if c ∈ testsStore then { base with nvwp := nvwp } else base
    c ∈ ([0x01, 0x02, 0x03] : List Byte) ++ partWide ++ ofLane → s.fronts c r rest →
    let u : State := if c = 0x02 then s.popped rest else (s.popped rest).setSense r.target none
    let wrongTarget := (c ∈ partWide ∧ r.target ≠ .part) ∨ (c ∈ ofLane ∧ r.target = .part)
    let wrongLength := if 0x40 ≤ c.toNat then r.body.length ≠ 12 + r.dataLength ∨ 1024 < r.dataLength else r.body.length ≠ 10
    let held := (c ≠ 0x02 ∧ ∃ n, r.target = .lane n ∧ (s.lane n).resetting ≠ none) ∨
      (c ∉ ([0x01, 0x02, 0x03] : List Byte) ∧ ∃ op, s.proc.tracker = some op ∧ op.command = 0x21 ∧ op.ended = false)
    (wrongTarget → exec (requestRow nvwp c) base = .next (u.checked r ⟨.illegalRequest, 0x01, some 2, none⟩)) ∧
    (¬ wrongTarget → wrongLength → exec (requestRow nvwp c) base = .next
      (u.checked r ⟨.illegalRequest, 0x03, some (if 0x40 ≤ c.toNat then 10 else 3), none⟩)) ∧
    (¬ wrongTarget → ¬ wrongLength → held → exec (requestRow nvwp c) base = .next (u.busied r)) ∧
    (s.takes c r rest ↔ ¬ wrongTarget ∧ ¬ wrongLength ∧ ¬ held))

/-- REQUEST SENSE returns the target's sense record as the request before left it and empties it, also at a lane that is being reset
and while INITIALISE STORE runs; one that fails the tests of R174 sets its target's record, or the part's when its target is none. That
the detail byte of an empty record is 00H is the model's reading, log 55. -/
def Obligations.RequestSenseReturnsTheRecord : Prop :=
  (∀ (s : State) (r : Request) (rest : List (List Byte)), s.fronts 0x02 r rest →
    exec .requestSense s = .next (
      match r.refusal with
      | some x => (s.popped rest).checked r x
      | none =>
        ((s.popped rest).setSense r.target none).good r (
          match s.sense r.target with
          | none => [0, 0, 0, 0, 0, 0, 0, 0]
          | some x =>
            [x.key.code] ++ be 1 x.detail ++ [bitByte [x.field.isSome, x.info.isSome]] ++ be 1 (x.field.getD 0) ++
            be 4 (x.info.getD 0)))) ∧
  (∀ (s : State) (frame : List Byte) (rest : List (List Byte)), s.powered = true → s.processorFree = true →
    s.link.requests = frame :: rest → frameTarget frame = none → byteAt frame 3 = 0x02#8 →
    ∃ t, exec .unknownCommand s = .next t ∧ t.proc.partSense = some ⟨.illegalRequest, 0x01, some 2, none⟩ ∧
      t.link.replies = s.link.replies ++ [⟨false, [0x02, byteAt frame 1, 0x01]⟩])

/-- READ STATUS returns 256 bytes and READ LANE 249, of the state as it stands: each group of the state at its offset, coded as
section 11.5 lays it out; of a grant that is not queued every field is absent (log 19), what the Fare Store and the Hot List Store do
not report in a state is 00H (log 51), and the bytes of a sequence past the last are the model's free value (log 18). READ LANE with its clear flag zeroes the lane's refusal counters and nine passage counters, and
nothing else. -/
def Obligations.ReportsReadTheState : Prop :=
  (∀ (s : State) (r : Request) (rest : List (List Byte)), s.takes 0x03 r rest →
    s.statusBytes.length = 256 ∧
    exec .readStatus s = .next ((s.takeRequest r rest).good r s.statusBytes)) ∧
  (∀ (s : State) (n : LaneId) (r : Request) (rest : List (List Byte)), s.takes 0x2D r rest → r.target = .lane n →
    let u := s.takeRequest r rest
    let cleared : Lane :=
      { s.lane n with
        refusals := Vector.replicate 30 0
        counters := { paid := 0, tailgateSuspect := 0, held := 0, emergency := 0, forced := 0, counterflow := 0, unpaid := 0,
                      balk := 0, forfeited := 0, emergencyEntry := (s.lane n).counters.emergencyEntry,
                      emergencyExit := (s.lane n).counters.emergencyExit } }
    (s.lane n).bytes.length = 249 ∧
    exec .readLane s = .next (
      if r.byte 4 = 0 then u.good r (s.lane n).bytes
      else if r.byte 4 = 1 then (u.setLane n cleared).good r (s.lane n).bytes
      else u.checked r ⟨.illegalRequest, 0x01, some 4, none⟩)) ∧
  (∀ s : State,
    let part (k m : Nat) : List Byte := (s.statusBytes.drop k).take m
    let flag (b : Bool) : Byte := if b then 1 else 0
    let j := s.journal
    let bank (b : Bank) : List Byte := [flag b.version.isSome] ++ be 2 (b.version.getD 0) ++ be 2 b.ids.length
    part 0 2 = [flag s.ready, bitByte [!s.clock.valid, s.fare.active.isNone, s.keys.toList.all (fun k => k.isNone), s.initialising]] ∧
    part 2 7 = [flag s.clock.valid] ++ be 4 s.clock.time ++ be 2 s.clock.hold ∧
    (∀ k : Fin 4, part (9 + 2 * k.val) 2 = [flag (s.keys[k]).isSome] ++ be 1 (((s.keys[k]).map (·.generation)).getD 0)) ∧
    part 17 3 = [flag s.fare.active.isSome] ++ be 2 ((s.fare.active.map (·.version)).getD 0) ∧
    part 20 8 = (match s.fare.pending with
      | .none => [0, 0, 0, 0, 0, 0, 0, 0]
      | .loading v sections => [1] ++ be 2 v ++ [bitByte (sections.toList.map (fun x => x.isSome)), 0, 0, 0, 0]
      | .verifying v _ _ => [2] ++ be 2 v ++ [0, 0, 0, 0, 0]
      | .waiting table effective => [3] ++ be 2 table.version ++ [0] ++ be 4 effective) ∧
    part 28 10 = bank s.hot.active ++ bank s.hot.standby ∧
    part 38 8 = (match s.hot.load with
      | .idle => [0, 0, 0, 0, 0, 0, 0]
      | .loading v total running _ => [1] ++ be 2 v ++ be 2 total ++ be 2 running
      | .verifying _ _ _ => [2, 0, 0, 0, 0, 0, 0]) ++ be 1 s.hot.locals.length ∧
    part 46 2 = be 2 s.seen.entries.length ∧
    (∀ i : SlotId, part (48 + 16 * i.val) 16 = match s.slot i with
      | .free => List.replicate 16 0
      | .reserved f => [1] ++ be 1 f.lane.val ++ List.replicate 14 0
      | .opened f _ _ expiry => [2] ++ be 1 f.lane.val ++ be 8 f.identity.toNat ++
          [if f.direction = .entry then 0 else 1, flag expiry.isSome] ++ be 4 (expiry.getD 0)) ∧
    part 176 40 = be 2 j.count ++ seqBytes j.oldest ++ be 4 j.newest ++ seqBytes j.next ++ [flag (decide (4294967295 < j.next))] ++
      be 4 j.lastTime ++ be 4 j.gapCount ++ [flag j.firstDrop.isSome] ++ be 4 (j.firstDrop.getD 0) ++ be 4 (j.lastDrop.getD 0) ++
      be 2 j.limit ++ be 2 j.thresholdA ++ be 2 j.thresholdB ++
      [flag (decide (j.count < j.limit ∧ j.next < 4294967280)), flag (decide (4294967280 ≤ j.next))] ∧
    part 216 2 = be 1 s.incidents.entries.length ++
      [flag (s.incidents.entries.any (fun i => decide (i.origin = .fromLine ∧ i.finish = none)))] ∧
    part 218 1 = [flag s.emergency.taken] ∧
    part 220 5 = [flag s.emergency.assertedAt.isSome] ++ be 4 (s.emergency.assertedAt.getD 0) ∧
    part 225 4 = be 2 s.link.discarded ++ be 2 s.link.overrun ∧
    part 229 3 = (match s.proc.tracker with
      | some op => [if op.ended then 2 else 1, op.tag, op.command]
      | none => [0, 0xFF, 0xFF]) ∧
    part 232 3 = (match s.proc.lastCompletion with
      | some ⟨tag, command, status⟩ => [match status with
          | .good => 1
          | .check => 2
          | .aborted => 3, tag, command]
      | none => [0, 0xFF, 0xFF]) ∧
    part 235 18 = be 1 s.notices.conditions.length ++ be 1 s.notices.pending.length ++ s.notices.levels.toList.flatMap (be 1) ∧
    part 253 3 = be 1 s.window ++ be 2 s.retention) ∧
  (∀ l : Lane,
    let part (k m : Nat) : List Byte := (l.bytes.drop k).take m
    let flag (b : Bool) : Byte := if b then 1 else 0
    let g := l.gate
    let mode (m : DirMode) : Byte := match m with
      | .entry => 0
      | .exit => 1
      | .both => 2
    let identity (x : Option Identity) : List Byte := be 8 ((x.map (·.toNat)).getD 0)
    let grant (x : Option Grant) : List Byte := match x with
      | some x => [bitByte [x.identity.isSome, x.seq.isSome]] ++ identity x.identity ++ [if x.direction = .entry then 0 else 1,
          match x.kind with
          | .paid => 0
          | .reGranted => 1
          | .recovered => 2
          | .staff => 3] ++ be 4 x.time ++ be 4 (x.seq.getD 0)
      | none => List.replicate 9 0 ++ [0xFF, 0xFF] ++ List.replicate 8 0
    let status (p : Port) : Byte := match p.state with
      | .polling => 0
      | .ready => 1
      | .fault => 2
    let head (p : Port) : List Byte :=
      [status p] ++ (match p.presence with
        | .none => [0] ++ List.replicate 8 0
        | .card id => [1] ++ be 8 id.toNat
        | .multiple => [2] ++ List.replicate 8 0)
    part 0 7 = [mode l.config.mode] ++ be 1 l.config.level ++ be 1 l.config.openTime ++ be 1 l.config.motionTimeout ++
      be 1 l.config.tailgate ++ [flag l.config.service, mode g.mode] ∧
    part 7 10 = [match g.state with
        | .outOfService => 0
        | .closed => 1
        | .opened => 2
        | .closing => 3
        | .heldOpen => 4
        | .fault => 5,
      flag g.staffHold, flag g.emergency,
      if g.state = .opened ∨ g.state = .heldOpen ∨ ((g.state = .outOfService ∨ g.state = .fault) ∧ g.emergency = true) then 1 else 0,
      if g.command = .opened then 1 else 0,
      match l.inputs.gsa, l.inputs.gsb with
        | true, false => 0
        | false, true => 1
        | _, _ => 2,
      flag g.motion.isSome, flag g.openTimer.isSome] ++ be 2 (g.openTimer.getD 0) ∧
    part 17 3 = [match g.lock with
        | .free => 0
        | .s => 1
        | .p => 2, flag g.place] ++ be 1 g.queue.length ∧
    part 20 38 = grant g.queue[0]? ++ grant g.queue[1]? ∧
    part 58 5 = [match l.monitor.state with
        | .clear => 0
        | .s1 => 1
        | .spIn => 2
        | .p2 => 3
        | .p1 => 4
        | .psOut => 5
        | .s2 => 6, flag l.monitor.resync, flag l.monitor.occupancy.isSome] ++ be 2 (l.monitor.occupancy.getD 0) ∧
    part 63 2 = [match l.engine.phase with
        | .idle => 0
        | .admitting => 1
        | .reading => 2
        | .checking => 3
        | .resolving => 4
        | .writing => 5
        | .finishing => 6,
      match l.engine.side with
        | some .s => 0
        | some .p => 1
        | none => 0xFF] ∧
    part 65 20 = head l.portS ++ head l.portP ∧
    (∀ k : Fin 30, part (85 + 4 * k.val) 4 = be 4 l.refusals[k]) ∧
    part 205 44 = [l.counters.paid, l.counters.tailgateSuspect, l.counters.held, l.counters.emergency, l.counters.forced,
      l.counters.counterflow, l.counters.unpaid, l.counters.balk, l.counters.forfeited, l.counters.emergencyEntry,
      l.counters.emergencyExit].flatMap (be 4))

/-- FIND CARD lists, ascending and each once, exactly the identities with the low 48 bits given that some source holds: up to
eight of them, and whether there are more. Each is given in 51 bytes: the identity, which sources hold it, and the seen entry, the
claim's lane, the OPEN slot and the hot-list entry, at their offsets, those of a source that does not hold it 00H. -/
def Obligations.FindCardListsWhatIsKnown : Prop :=
  ∀ (s : State) (r : Request) (rest : List (List Byte)), s.takes 0x14 r rest →
    let ids := s.matching (r.field 4 6)
    ascending ids = true ∧
    (∀ id, id ∈ ids ↔ id.toNat % 2 ^ 48 = r.field 4 6 ∧
      ((∃ e ∈ s.seen.entries, e.identity = id ∧ s.older e = false) ∨ (∃ n, s.claim n = some id) ∨
       (∃ i f em wt ex, s.slot i = .opened f em wt ex ∧ f.identity = id) ∨ (∃ e ∈ s.hot.locals, e.identity = id) ∨
       id ∈ s.hot.active.ids)) ∧
    exec .findCard s = .next ((s.takeRequest r rest).good r
      (be 1 (min 8 ids.length) ++ [if 8 < ids.length then 1 else 0] ++ (ids.take 8).flatMap s.finding)) ∧
    (∀ id : Identity,
      let part (k m : Nat) : List Byte := ((s.finding id).drop k).take m
      let way (d : Direction) : Byte := if d = .entry then 0 else 1
      let opens (i : SlotId) : Prop := ∃ f em wt ex, s.slot i = .opened f em wt ex ∧ f.identity = id
      let active := id ∈ s.hot.active.ids
      (s.finding id).length = 51 ∧ part 0 8 = be 8 id.toNat ∧
      (∀ claimed opened listed : Bool, (claimed = true ↔ ∃ n, s.claim n = some id) → (opened = true ↔ ∃ i, opens i) →
        (listed = true ↔ active ∨ ∃ e ∈ s.hot.locals, e.identity = id) →
        part 8 1 = [bitByte [(s.seenLookup id).isSome, claimed, opened, listed]]) ∧
      part 9 12 = (match s.seenLookup id with
        | none => List.replicate 12 0
        | some e =>
          be 3 e.counter ++ be 4 e.time ++ be 1 e.lane.val ++ [way e.direction, match e.outcome with
            | .granted => 0 | .passed => 1 | .unused => 2 | .refused => 3 | .reGranted => 4] ++
          [if e.cloneSuspect then 1 else 0, match e.tearPending with
            | some i => BitVec.ofNat 8 i.val
            | none => 0xFF]) ∧
      (∀ n, s.claim n = some id → (∀ m, m < n → s.claim m ≠ some id) → part 21 1 = be 1 n.val) ∧
      ((∀ n, s.claim n ≠ some id) → part 21 1 = [0]) ∧
      (∀ i f em wt ex, s.slot i = .opened f em wt ex → f.identity = id → (∀ j, j < i → ¬ opens j) →
        part 22 20 = be 1 i.val ++ be 1 f.lane.val ++ [way f.direction] ++ be 3 f.oldCounter ++ be 3 f.newCounter ++
          be 2 f.charge ++ [bitByte [wt.isSome, ex.isSome]] ++ be 4 (wt.getD 0) ++ be 4 (ex.getD 0)) ∧
      ((∀ i, ¬ opens i) → part 22 20 = List.replicate 20 0) ∧
      (active → part 42 9 = [0] ++ be 2 (s.hot.active.version.getD 0) ++ List.replicate 6 0) ∧
      (∀ before e after, ¬ active → s.hot.locals = before ++ e :: after → e.identity = id → (∀ x ∈ before, x.identity ≠ id) →
        part 42 9 = [1, 0, 0] ++ be 1 before.length ++ be 4 e.time ++ be 1 e.lane.val) ∧
      (¬ active → (∀ e ∈ s.hot.locals, e.identity ≠ id) → part 42 9 = List.replicate 9 0))

/-- SET TIME while station time is valid: a step below −300 is refused; a backward one sets the hold; one of 0 or above sets the
time and ends a hold. A taken one appends the TIME record with its step, and hands a sweep on. -/
def Obligations.SetTimeStepsTheClock : Prop :=
  ∀ (s : State) (r : Request) (rest : List (List Byte)), s.takes 0x04 r rest → s.clock.valid = true →
    let u := s.takeRequest r rest
    let v := r.field 4 4
    let t := s.clock.time
    exec .setTime s = .next (
      if (v : Int) - t < -300 then u.checked r ⟨.illegalRequest, 0x17, some 4, some t⟩
      else
        let clock : Clock := if t ≤ v then ⟨v, true, 0, 0⟩ else ⟨t, true, t - v, 0⟩
        let w := { u with clock := clock }.record none RecordFlags.clear (.timeStep v ((v : Int) - t))
        { w with seen := { w.seen with sweepDue := true } }.good r [])

/-- The first SET TIME: refused behind the journal; else the time set and valid, its TIME record appended before anything else
(the model's choice of R191's orders, log 54), the pending times of the slots given, the owed incident opened with the SET TIME's value
unless one is open, or, where none is owed, the open one ended, and the sweep handed on. Two of these clauses are the model's choice:
that the owed incident takes the station code of the table active before an activation that the same SET TIME makes due (log 57), and
that the open one is ended with the SET TIME's value also where that lies below its start (log 56). At a second of a valid clock a hold runs down, else the time rises by one, up to its
highest value. -/
def Obligations.ClockStartsAndRuns : Prop :=
  (∀ (s : State) (r : Request) (rest : List (List Byte)), s.takes 0x04 r rest → s.clock.valid = false →
    let u := s.takeRequest r rest
    let v := r.field 4 4
    let list := s.incidents
    let localOpen := ∃ i ∈ list.entries, i.origin = .fromLine ∧ i.finish = none
    let opened := Incident.mk list.next ((s.fare.active.map (·.station)).getD 0) v none .waive .fromLine
    let after := if 65535 ≤ list.next then 1 else list.next + 1
    (v < s.journal.lastTime → exec .setTime s = .next (u.checked r ⟨.illegalRequest, 0x16, some 4, some s.journal.lastTime⟩)) ∧
    (s.journal.lastTime ≤ v → ∃ t, exec .setTime s = .next t ∧ t.clock = ⟨v, true, 0, 0⟩ ∧
      ({ u with clock := ⟨v, true, 0, 0⟩ }.record none RecordFlags.clear (.timeSet v)).journal.records <+: t.journal.records ∧
      (∀ i f em wt, s.slot i = .opened f em wt none → v + s.window ≤ Config.max32 →
        t.slot i = .opened f em (some (wt.getD v)) (some (v + s.window))) ∧
      t.emergency = { s.emergency with owed := false } ∧ t.incidents.lineIn = list.lineIn ∧
      (s.emergency.owed = false → t.incidents.next = list.next ∧ t.incidents.entries =
        list.entries.map (fun i => if i.origin = .fromLine ∧ i.finish = none then { i with finish := some v } else i)) ∧
      (s.emergency.owed = true → localOpen → t.incidents = list) ∧
      (s.emergency.owed = true → ¬ localOpen →
        (list.entries.length < 16 → t.incidents.entries = list.entries ++ [opened]) ∧
        (∀ before old more, 16 ≤ list.entries.length → list.entries = before ++ old :: more → old.finish ≠ none →
          (∀ i ∈ before, i.finish = none) → t.incidents.entries = before ++ more ++ [opened]) ∧
        (∀ old more, 16 ≤ list.entries.length → list.entries = old :: more → (∀ i ∈ list.entries, i.finish = none) →
          t.incidents.entries = more ++ [opened]) ∧
        ((∀ i ∈ t.incidents.entries, i.number ≠ after) → t.incidents.next = after)) ∧
      t.seen.sweepDue = true ∧ t.seen.entries = s.seen.entries ∧ t.hot = s.hot ∧ t.fare = s.fare ∧ t.claims = s.claims ∧
      t.keys = s.keys ∧ t.link.replies = s.link.replies ++ [⟨false, [0x02, r.tag, 0x00]⟩] ∧ t.link.requests = rest)) ∧
  (∀ s : State, s.powered = true →
    exec .clockSecond s = .next (
      let c : Clock := { s.clock with phase := 0 }
      if s.clock.valid = false then { s with clock := c }
      else if 0 < s.clock.hold then { s with clock := { c with hold := s.clock.hold - 1 } }
      else if s.clock.time < 4294967295 then
        { s with clock := { c with time := s.clock.time + 1 }
                 seen := { s.seen with sweepDue := s.seen.sweepDue || decide ((s.clock.time + 1) % 60 = 0) } }
      else { s with clock := c }))

/-- SET PARAMETERS stores one parameter within its range; LOAD KEY empties a key slot or loads it under a generation no other slot
holds, and the change of readiness it makes is handed to the gates. -/
def Obligations.StoredSettingsKeepTheirRanges : Prop :=
  (∀ (base : State) (nvwp : Bool) (r : Request) (rest : List (List Byte)),
    let s : State := { base with nvwp := nvwp }
    s.takes 0x05 r rest →
    let u := s.takeRequest r rest
    let k := r.field 4 1
    let v := r.field 5 2
    exec (.setParameters nvwp) base = .next (
      if s.nvwp = false then u.checked r ⟨.notReady, 0x04, none, none⟩
      else if 4 < k then u.checked r ⟨.illegalRequest, 0x01, some 4, none⟩
      else if v < [5, 10, 1024, 0, 0].getD k 0 ∨ [120, 1440, 32512, 32768, 32768].getD k 0 < v then
        u.checked r ⟨.illegalRequest, 0x01, some 5, some k⟩
      else
        { u with
          window := if k = 0 then v else s.window
          retention := if k = 1 then v else s.retention
          journal := { s.journal with
            limit := if k = 2 then v else s.journal.limit
            thresholdA := if k = 3 then v else s.journal.thresholdA
            thresholdB := if k = 4 then v else s.journal.thresholdB } }.good r [])) ∧
  (∀ (base : State) (nvwp : Bool) (r : Request) (rest : List (List Byte)),
    let s : State := { base with nvwp := nvwp }
    s.takes 0x43 r rest →
    let u := s.takeRequest r rest
    exec (.loadKey nvwp) base = .next (
      if s.nvwp = false then u.checked r ⟨.notReady, 0x04, none, none⟩
      else if h : r.field 4 1 < 4 then
        if r.dataLength = 0 then
          (({ u with keys := s.keys.set (r.field 4 1) none }).settleReadiness s.ready).good r []
        else if r.dataLength ≠ 16 then u.checked r ⟨.illegalRequest, 0x01, some 10, none⟩
        else if ∃ i : Fin 4, i.val ≠ r.field 4 1 ∧ (s.keys[i]).map (·.generation) = some (r.field 5 1) then
          u.checked r ⟨.illegalRequest, 0x01, some 5, none⟩
        else
          (({ u with keys := s.keys.set (r.field 4 1) (some ⟨r.field 5 1, r.data⟩) }).settleReadiness s.ready).good r []
      else u.checked r ⟨.illegalRequest, 0x01, some 4, none⟩))

/-- READ CONDITIONS returns conditions from the front, at most the number asked for, and removes them. SET NOTICE LEVELS stores
sixteen levels of 0 to 7, and every pending notice whose kind is now at level 0 leaves the list. -/
def Obligations.ConditionsAreReadAndLevelsStored : Prop :=
  (∀ (s : State) (r : Request) (rest : List (List Byte)), s.takes 0x06 r rest →
      let u := s.takeRequest r rest
      let m := r.field 4 1
      let taken := s.notices.conditions.take m
      let left := s.notices.conditions.drop m
      exec .readConditions s = .next (
        if m = 0 ∨ 32 < m then u.checked r ⟨.illegalRequest, 0x01, some 4, none⟩
        else
          { u with notices := { s.notices with conditions := left } }.good r
            (be 1 taken.length ++ be 1 left.length ++
             taken.flatMap (fun (c : Condition) => [c.kind.code, c.target.code] ++ be 1 c.count ++ be 4 c.first ++ be 4 c.last)))) ∧
  (∀ (base : State) (nvwp : Bool) (r : Request) (rest : List (List Byte)),
    let s : State := { base with nvwp := nvwp }
    s.takes 0x40 r rest →
      let u := s.takeRequest r rest
      let levels : Vector Nat 16 := Vector.ofFn (fun i => (byteAt r.body (12 + i.val)).toNat)
      exec (.setNoticeLevels nvwp) base = .next (
        if s.nvwp = false then u.checked r ⟨.notReady, 0x04, none, none⟩
        else if r.dataLength ≠ 16 then u.checked r ⟨.illegalRequest, 0x01, some 10, none⟩
        else
          match (List.range 16).find? (fun i => decide (7 < (byteAt r.body (12 + i)).toNat)) with
          | some i => u.checked r ⟨.illegalRequest, 0x01, some 12, some i⟩
          | none =>
            { u with
              notices := { s.notices with
                levels := levels
                pending := s.notices.pending.filter (fun p => levels[p.kind.index] != 0) } }.good r []))

/-- READ JOURNAL returns, of records in consecutive sequence, those from the sequence asked for on, at most the number asked for,
and changes nothing; RELEASE JOURNAL removes exactly the records through the sequence given. Of two fields of READ JOURNAL at fault
the count is tested first, the model's choice: log 45. A record is given in 48 bytes: its sequence, time, kind, lane, flags, sub-code
and the fields of its kind, filled with 00H. The bytes of a sequence past the last, and of a TIME step that 4 signed bytes do not
hold, are the model's free values (log 18, log 47). -/
def Obligations.JournalIsReadAndReleased : Prop :=
  (∀ (s : State) (r : Request) (rest : List (List Byte)), s.takes 0x08 r rest → s.journal.wf →
    let u := s.takeRequest r rest
    let j := s.journal
    let q := r.field 4 4
    let m := r.field 8 1
    let found := (j.records.filter (fun x => decide (q ≤ x.seq))).take m
    (j.oldest ≤ q → found.length = min m (j.newest + 1 - q)) ∧
    exec .readJournal s = .next (
      if m = 0 ∨ 16 < m then u.checked r ⟨.illegalRequest, 0x01, some 8, none⟩
      else if q < j.oldest then u.checked r ⟨.illegalRequest, 0x14, some 4, some (sequenceInfo j.oldest)⟩
      else if j.newest + 1 < q then u.checked r ⟨.illegalRequest, 0x15, some 4, some j.newest⟩
      else
        u.good r (be 1 found.length ++ seqBytes j.oldest ++ be 4 j.newest ++ be 2 j.count ++ be 4 j.gapCount ++
          found.flatMap JRecord.bytes))) ∧
  (∀ (base : State) (nvwp : Bool) (r : Request) (rest : List (List Byte)),
    let s : State := { base with nvwp := nvwp }
    s.takes 0x09 r rest → s.journal.wf →
    let u := s.takeRequest r rest
    let j := s.journal
    let q := r.field 4 4
    let kept := j.records.filter (fun x => decide (q < x.seq))
    exec (.releaseJournal nvwp) base = .next (
      if s.nvwp = false then u.checked r ⟨.notReady, 0x04, none, none⟩
      else if q + 1 < j.oldest then u.checked r ⟨.illegalRequest, 0x14, some 4, some (j.oldest - 1)⟩
      else if j.newest < q then u.checked r ⟨.illegalRequest, 0x15, some 4, some j.newest⟩
      else { u with journal := { j with records := kept } }.good r (seqBytes (q + 1) ++ be 2 kept.length)) ∧
    (j.oldest ≤ q + 1 → q ≤ j.newest → { j with records := kept }.oldest = q + 1)) ∧
  (∀ (seq time : Nat) (lane : Option LaneId) (flags : RecordFlags), seq ≤ 4294967295 →
    let lays (b : RecordBody) (kind sub : Byte) (fields : List Byte) : Prop :=
      (⟨seq, time, lane, flags, b⟩ : JRecord).bytes =
        be 4 seq ++ be 4 time ++ [kind, match lane with
          | some n => BitVec.ofNat 8 n.val
          | none => 0xFF] ++
        [bitByte [flags.emergency, flags.clone, flags.counterfeit, flags.unverified, flags.gapFollows], sub] ++ fields ++
        List.replicate (36 - fields.length) 0 ∧ fields.length ≤ 36
    let way (d : Direction) : Byte := if d = .entry then 0 else 1
    (∀ b, lays (.card b) 0x01 (match b.outcome with | .granted => 0 | .reGranted => 1 | .refused => 2)
      ([match b.refusal with | some r => r.code | none => 0xFF, bitByte [b.counterWritten.isSome, b.related.isSome]] ++
        be 8 b.identity.toNat ++ [way b.direction] ++ be 1 b.product ++ be 3 b.counterRead ++ be 3 (b.counterWritten.getD 0) ++
        be 2 b.charge ++ beSigned 3 b.balanceBefore ++ beSigned 3 b.balanceAfter ++ be 2 b.fareVersion ++ be 2 b.originStation ++
        be 1 b.legs ++ be 4 (b.related.getD 0))) ∧
    (∀ b, lays (.tear b) 0x02 (match b.outcome with | .landed => 0 | .notLanded => 1 | .unresolved => 2 | .conflict => 3)
      (be 1 b.lane.val ++ [way b.direction] ++ be 8 b.identity.toNat ++ be 3 b.oldCounter ++ be 3 b.newCounter ++ be 2 b.charge)) ∧
    (∀ c d o, lays (.passage c d o) 0x03
      (match c with | .unpaid => 0 | .forced => 1 | .counterflow => 2 | .tailgateSuspect => 3) ([way d] ++ be 2 o)) ∧
    (∀ c g, lays (.unusedGrant c g) 0x04
      (match c with | .timer => 0 | .fault => 1 | .service => 2 | .reset => 3 | .emergency => 4)
      ([way g.direction, match g.kind with | .paid => 0 | .reGranted => 1 | .recovered => 2 | .staff => 3] ++
        [bitByte [g.identity.isSome, g.seq.isSome]] ++ be 8 (g.identity.getD 0).toNat ++ be 4 g.time ++ be 4 (g.seq.getD 0))) ∧
    (∀ d x, lays (.staffGrant d x) 0x05 0 ([way d] ++ be 4 x)) ∧
    lays .emergencyStart 0x06 0 [] ∧
    (∀ x, lays (.emergencyEnd x) 0x06 1 ([if x.isSome then 1 else 0] ++ be 4 (x.getD 0))) ∧
    (∀ a b, lays (.emergencySummary a b) 0x06 2 ([0, 0, 0, 0, 0] ++ be 4 a ++ be 4 b)) ∧
    (∀ v c k, lays (.listSwap v c k) 0x07 0 (be 2 v ++ be 2 c ++ be 1 k)) ∧
    (∀ id : Identity, lays (.listLocalAdd id) 0x07 1 (be 8 id.toNat) ∧ lays (.listLocalEvict id) 0x07 2 (be 8 id.toNat) ∧
      lays (.listLocalRemove id) 0x07 3 (be 8 id.toNat)) ∧
    (∀ v, lays (.table v) 0x08 0 (be 2 v)) ∧
    lays (.lane .serviceOn) 0x09 0 [] ∧ lays (.lane .serviceOff) 0x09 1 [] ∧ lays (.lane .reset) 0x09 3 [] ∧
    lays (.lane (.fault (.head .s))) 0x09 2 [0] ∧ lays (.lane (.fault (.head .p))) 0x09 2 [1] ∧
    lays (.lane (.fault .gate)) 0x09 2 [2] ∧
    (∀ m level openTime motion tailgate, lays (.lane (.configuration m level openTime motion tailgate)) 0x09 4
      ([(match m with | .entry => 0 | .exit => 1 | .both => 2 : Byte)] ++ be 1 level ++ be 1 openTime ++ be 1 motion ++ be 1 tailgate)) ∧
    lays .timePowerOn 0x0A 0 [] ∧ (∀ x, lays (.timeSet x) 0x0A 1 (be 4 x)) ∧
    (∀ x d, d < 2147483648 → lays (.timeStep x d) 0x0A 2 (be 4 x ++ beSigned 4 d)) ∧
    (∀ c first last, lays (.gap c first last) 0x0B 0 (be 4 c ++ be 4 first ++ be 4 last))) ∧
  ([.partNotReady, .laneClosed, .emergency, .oppositeFlow, .laneFull, .journalFull, .twoCards, .readLost, .readFault, .unknownFormat,
    .identityMismatch, .unknownKey, .badCheckValue, .hotlisted, .inUseElsewhere, .wrongDirection, .tearConflict, .counterRegression,
    .counterExhausted, .cardExpired, .unknownProduct, .notAdmitted, .productNotValid, .passback, .exitWithoutEntry,
    .insufficientFunds, .noRides, .recoveryFull, .cardRemoved, .laneReset] : List RefusalCode).map RefusalCode.code =
      (List.range 30).map (fun k => BitVec.ofNat 8 (k + 1))

/-! ### Hot list -/

/-- HOTLIST BEGIN opens a load into an emptied standby bank. A segment of identities in strictly ascending order within the total
is stored whole; with the end mark it starts verification when the count is the total, and abandons the load when it is below; the
first identity out of order or beyond the total abandons the load, its order tested before the count, the model's choice: log 41. -/
def Obligations.HotListIsLoadedInOrder : Prop :=
  (∀ (base : State) (nvwp : Bool) (r : Request) (rest : List (List Byte)),
    let s : State := { base with nvwp := nvwp }
    s.takes 0x10 r rest →
    let u := s.takeRequest r rest
    exec (.hotlistBegin nvwp) base = .next (
      if s.nvwp = false then u.checked r ⟨.notReady, 0x04, none, none⟩
      else if 16384 < r.field 6 2 then u.checked r ⟨.illegalRequest, 0x01, some 6, none⟩
      else
        match s.hot.load with
        | .verifying _ _ _ => u.busied r
        | _ =>
          { u with hot := { s.hot with standby := ⟨none, []⟩, complete := false
                                       load := .loading (r.field 4 2) (r.field 6 2) 0 none } }.good r [])) ∧
  (∀ (base : State) (nvwp : Bool) (r : Request) (rest : List (List Byte)),
    let s : State := { base with nvwp := nvwp }
    s.takes 0x41 r rest →
    let u := s.takeRequest r rest
    (s.nvwp = false → exec (.hotlistSegment nvwp) base = .next (u.checked r ⟨.notReady, 0x04, none, none⟩)) ∧
    (s.nvwp = true → r.byte 4 ≠ 0 → r.byte 4 ≠ 1 →
      exec (.hotlistSegment nvwp) base = .next (u.checked r ⟨.illegalRequest, 0x01, some 4, none⟩)) ∧
    (s.nvwp = true → r.byte 4 = 0 ∨ r.byte 4 = 1 → r.dataLength % 8 ≠ 0 →
      exec (.hotlistSegment nvwp) base = .next (u.checked r ⟨.illegalRequest, 0x01, some 10, none⟩)) ∧
    (s.nvwp = true → r.byte 4 = 0 ∨ r.byte 4 = 1 → r.dataLength % 8 = 0 →
      (∀ version total running last, s.hot.load ≠ .loading version total running last) →
      exec (.hotlistSegment nvwp) base = .next (u.checked r ⟨.orderError, 0x05, none, none⟩))) ∧
  (∀ (base : State) (r : Request) (rest : List (List Byte)) (version total running : Nat) (last : Option Identity),
    let s : State := { base with nvwp := true }
    s.takes 0x41 r rest → (r.byte 4 = 0 ∨ r.byte 4 = 1) → r.dataLength % 8 = 0 →
    s.hot.load = .loading version total running last →
    let u := s.takeRequest r rest
    let ids := identitiesOf r.data
    let bank : Bank := { s.hot.standby with ids := s.hot.standby.ids ++ ids }
    let abandoned : State := { u with hot := { s.hot with standby := ⟨none, []⟩, load := .idle } }
    let asked : Bool := r.byte 4 == 0 || s.proc.tracker.isNone
    (asked = false → exec (.hotlistSegment true) base = .next (u.busied r)) ∧
    (asked = true → ascending (last.toList ++ ids) = true → running + ids.length ≤ total →
      exec (.hotlistSegment true) base = .next (
        if r.byte 4 = 0 then
          { u with hot := { s.hot with standby := bank
                                       load := .loading version total (running + ids.length) (ids.getLast?.or last) } }.good r []
        else if running + ids.length = total then
          { u with hot := { s.hot with standby := bank, load := .verifying version total total }
                   proc := { u.proc with tracker := some ⟨r.tag, 0x41, false⟩ } }.accepted r
        else abandoned.checked r ⟨.illegalRequest, 0x0A, none, some (running + ids.length)⟩)) ∧
    (∀ before x after, asked = true → ids = before ++ x :: after → ascending (last.toList ++ before) = true →
      running + before.length ≤ total →
      (ascending (last.toList ++ before ++ [x]) = false →
        exec (.hotlistSegment true) base = .next (abandoned.checked r ⟨.illegalRequest, 0x09, none, some before.length⟩)) ∧
      (ascending (last.toList ++ before ++ [x]) = true → running + before.length = total →
        exec (.hotlistSegment true) base = .next (abandoned.checked r ⟨.illegalRequest, 0x0A, none, some total⟩))))

/-- HOTLIST ABANDON by load state: it ends a load, is refused in IDLE and answered BUSY in VERIFYING, whatever NVWP's level. -/
def Obligations.HotListAbandonFollowsLoadState : Prop :=
  ∀ (s : State) (r : Request) (rest : List (List Byte)), s.takes 0x11 r rest →
    let u := s.takeRequest r rest
    exec .hotlistAbandon s = .next (
      match s.hot.load with
      | .loading _ _ _ _ => { u with hot := { s.hot with standby := ⟨none, []⟩, load := .idle } }.good r []
      | .idle => u.checked r ⟨.orderError, 0x05, none, none⟩
      | .verifying _ _ _ => u.busied r)

/-- The end of verification: a standby bank that reads back with its count, strictly ascending, becomes the active one, the local
list loses its identities, and the LIST SWAP record and a GOOD COMPLETION follow; one that does not is emptied, with RESOURCE, store
error. How the bank reads back is an operand of the command, the model's choice: log 14. -/
def Obligations.HotListVerificationSwapsBanks : Prop :=
  ∀ (s : State) (good : Bool) (version total running : Nat) (op : LongOp), s.powered = true →
    s.hot.load = .verifying version total running → s.proc.tracker = some op →
    let confirmed := good = true ∧ s.hot.standby.ids.length = running ∧ ascending s.hot.standby.ids = true
    let kept := s.hot.locals.filter (fun e => !(s.hot.standby.ids.contains e.identity))
    let swapped : State := { s with hot :=
      { active := ⟨some version, s.hot.standby.ids⟩, standby := s.hot.active, complete := true, load := .idle, locals := kept } }
    let recorded := swapped.record none RecordFlags.clear
      (.listSwap version s.hot.standby.ids.length (s.hot.locals.length - kept.length))
    (confirmed → exec (.hotlistVerificationEnd good) s = .next { recorded with
      proc := { s.proc with tracker := some { op with ended := true }, lastCompletion := some ⟨op.tag, op.command, .good⟩ }
      link := { s.link with completion := some [0x03, op.tag, op.command, 0x00] } }) ∧
    (¬ confirmed → exec (.hotlistVerificationEnd good) s = .next { s with
      hot := { s.hot with standby := ⟨none, []⟩, load := .idle }
      proc := { s.proc with tracker := some { op with ended := true }, lastCompletion := some ⟨op.tag, op.command, .check⟩
                            partSense := some ⟨.resource, 0x1A, none, none⟩ }
      link := { s.link with completion := some [0x03, op.tag, op.command, 0x01] } })

/-- LOCAL LIST READ returns the whole list with positions and changes nothing. -/
def Obligations.LocalListIsReadWhole : Prop :=
  ∀ (s : State) (r : Request) (rest : List (List Byte)), s.takes 0x12 r rest →
    exec .localListRead s = .next ((s.takeRequest r rest).good r
      (be 1 s.hot.locals.length ++ (s.hot.locals.zipIdx).flatMap (fun (x : LocalEntry × Nat) =>
        be 1 x.2 ++ be 8 x.1.identity.toNat ++ be 4 x.1.time ++ be 1 x.1.lane.val)))

/-- LOCAL LIST REMOVE removes the entry at a position when its identity has the low 40 bits given, records it, and clears the clone
suspicion of its seen entry. -/
def Obligations.LocalListRemovesAnEntry : Prop :=
  ∀ (base : State) (nvwp : Bool) (r : Request) (rest : List (List Byte)),
    let s : State := { base with nvwp := nvwp }
    s.takes 0x13 r rest →
    let u := s.takeRequest r rest
    let k := r.field 4 1
    exec (.localListRemove nvwp) base = .next (
      if s.nvwp = false then u.checked r ⟨.notReady, 0x04, none, none⟩
      else
        match s.hot.locals[k]? with
        | none => u.checked r ⟨.illegalRequest, 0x01, some 4, none⟩
        | some e =>
          if e.identity.toNat % 2 ^ 40 ≠ r.field 5 5 then u.checked r ⟨.illegalRequest, 0x0B, none, some k⟩
          else
            let w := { u with hot := { s.hot with locals := s.hot.locals.eraseIdx k } }.record none RecordFlags.clear
              (.listLocalRemove e.identity)
            { w with seen := { s.seen with entries := s.seen.entries.map (fun (x : SeenEntry) =>
                if x.identity = e.identity then { x with cloneSuspect := false } else x) } }.good r [])

/-! ### Fare tables and incidents -/

/-- FARE BEGIN opens an empty pending table, discarding one in LOADING or WAITING. -/
def Obligations.FareBeginOpensALoad : Prop :=
  ∀ (base : State) (nvwp : Bool) (r : Request) (rest : List (List Byte)),
    let s : State := { base with nvwp := nvwp }
    s.takes 0x18 r rest →
    let u := s.takeRequest r rest
    let version := r.field 4 2
    exec (.fareBegin nvwp) base = .next (
      if s.nvwp = false then u.checked r ⟨.notReady, 0x04, none, none⟩
      else
        match s.fare.pending with
        | .verifying _ _ _ => u.busied r
        | _ =>
          if s.fare.active.map (·.version) = some version then u.checked r ⟨.illegalRequest, 0x01, some 4, none⟩
          else { u with fare := { s.fare with pending := .loading version (Vector.replicate 6 none) } }.good r [])

/-- FARE SECTION stores a section of its fixed length that has not been received in this load, and is refused in every other case. The
cases are tested in the order of R66's table, so that of a section both of a wrong data length and already received the data length is
answered: the model's choice, log 50. -/
def Obligations.FareSectionIsStored : Prop :=
  ∀ (base : State) (nvwp : Bool) (r : Request) (rest : List (List Byte)),
    let s : State := { base with nvwp := nvwp }
    s.takes 0x42 r rest →
    let u := s.takeRequest r rest
    exec (.fareSection nvwp) base = .next (
      if s.nvwp = false then u.checked r ⟨.notReady, 0x04, none, none⟩
      else
        match s.fare.pending with
        | .loading version sections =>
          if h : r.field 4 1 < 6 then
            if r.dataLength ≠ [11, 288, 288, 512, 512, 97].getD (r.field 4 1) 0 then
              u.checked r ⟨.illegalRequest, 0x01, some 10, none⟩
            else if (sections[r.field 4 1]).isSome then u.checked r ⟨.orderError, 0x06, none, some (r.field 4 1)⟩
            else
              { u with fare := { s.fare with
                pending := .loading version (sections.set (r.field 4 1) (some (r.body.drop 12))) } }.good r []
          else u.checked r ⟨.illegalRequest, 0x01, some 4, none⟩
        | _ => u.checked r ⟨.orderError, 0x05, none, none⟩)

/-- FARE COMMIT starts verification of a table in LOADING; verification ends with the table discarded and CHECK, or WAITING and
GOOD, with activation considered at once; a WAITING table whose time has come is activated when no table is retiring, the replaced
one retiring while a running transaction is bound to it. Verification makes its tests in the order sections, version, header, bands,
products, within a section by rising position (log 28), and names the first that fails; of a table that passes, each field is read
from its place in the sections. -/
def Obligations.FareTablesAreCommittedAndActivated : Prop :=
  (∀ (base : State) (nvwp : Bool) (r : Request) (rest : List (List Byte)),
    let s : State := { base with nvwp := nvwp }
    s.takes 0x19 r rest →
    let u := s.takeRequest r rest
    exec (.fareCommit nvwp) base = .next (
      if s.nvwp = false then u.checked r ⟨.notReady, 0x04, none, none⟩
      else if s.proc.tracker.isSome then u.busied r
      else
        match s.fare.pending with
        | .loading version sections =>
          { u with fare := { s.fare with pending := .verifying version sections (r.field 4 4) }
                   proc := { u.proc with tracker := some ⟨r.tag, 0x19, false⟩ } }.accepted r
        | _ => u.checked r ⟨.orderError, 0x05, none, none⟩)) ∧
  (∀ (s : State) (version effective : Nat) (sections : Sections) (op : LongOp), s.powered = true →
    s.fare.pending = .verifying version sections effective → s.proc.tracker = some op →
    exec .fareVerificationEnd s = .next (
      match verificationFailure version sections with
      | some x => { s with
          fare := { s.fare with pending := .none }
          proc := { s.proc with tracker := some { op with ended := true }, lastCompletion := some ⟨op.tag, op.command, .check⟩
                                partSense := some x }
          link := { s.link with completion := some [0x03, op.tag, op.command, 0x01] } }
      | none => { s with
          fare := { s.fare with pending := .waiting (tableOf sections) effective }
          proc := { s.proc with tracker := some { op with ended := true }, lastCompletion := some ⟨op.tag, op.command, .good⟩ }
          link := { s.link with completion := some [0x03, op.tag, op.command, 0x00] } }.considerActivation)) ∧
  (∀ (s : State) (table : FareTable) (effective : Nat), s.powered = true → s.fare.pending = .waiting table effective →
    (¬ (s.clock.valid = true ∧ effective ≤ s.clock.time ∧ s.fare.retiring = none) →
      exec .fareTableActivation s = .next s) ∧
    (s.clock.valid = true → effective ≤ s.clock.time → s.fare.retiring = none →
      let retiring := match s.fare.active with
        | some old => if ∃ n, (s.lane n).engine.boundVersion = some old.version then some old else none
        | none => none
      exec .fareTableActivation s = .next (
        ((({ s with fare := ⟨some table, .none, retiring⟩ }.record none RecordFlags.clear (.table table.version)).raise
          .tableActivated .part (be 2 table.version)).settleReadiness s.ready)))) ∧
  (∀ (version : Nat) (sections : Sections) (k : Fin 6), sections[k] = none → (∀ j : Fin 6, j < k → sections[j] ≠ none) →
    verificationFailure version sections = some ⟨.orderError, 0x07, none, some k.val⟩) ∧
  (∀ (version : Nat) (sections : Sections) (c : Fin 6 → List Byte), (∀ k : Fin 6, sections[k] = some (c k)) →
    let fails (part info : Nat) : Prop :=
      verificationFailure version sections = some ⟨.illegalRequest, 0x08, some part, some info⟩
    let head (k n : Nat) : Nat := fieldAt (c 0) k n
    let headFails (k : Nat) : Prop :=
      (k = 2 ∧ (head 2 2 = 0 ∨ head 2 2 = 65535)) ∨ (k = 4 ∧ (head 4 1 = 0 ∨ 16 < head 4 1)) ∨
      (k = 9 ∧ 120 < head 9 1) ∨ (k = 10 ∧ 120 < head 10 1)
    let count := fieldAt (c 5) 64 1
    let start (i : Nat) : Nat := fieldAt (c 5) (65 + 4 * i) 3
    let band (i : Nat) : Nat := fieldAt (c 5) (68 + 4 * i) 1
    let bandFails (i : Nat) : Prop := 86399 < start i ∨ 1 < band i ∨ (0 < i ∧ start i ≤ start (i - 1))
    let entry (code k n : Nat) : Nat := fieldAt (c (if code < 32 then 1 else 2)) (9 * (code % 32) + k) n
    let productFails (code : Nat) : Prop := 1 < entry code 0 1 ∨
      (entry code 0 1 = 1 ∧ (4 < entry code 1 1 ∨ 3 < entry code 2 1 ∨ 100 < entry code 3 1 ∨ 5000 < entry code 4 2 ∨
        240 < entry code 6 1))
    let headPasses := head 0 2 = version ∧ ∀ k, ¬ headFails k
    let bandsPass := 1 ≤ count ∧ count ≤ 8 ∧ ∀ i, i < count → ¬ bandFails i
    let table := tableOf sections
    (head 0 2 ≠ version → fails 0 (head 0 2)) ∧
    (∀ k, head 0 2 = version → headFails k → (∀ j, j < k → ¬ headFails j) → fails 0 k) ∧
    (headPasses → count = 0 ∨ 8 < count → fails 5 count) ∧
    (∀ i, headPasses → 1 ≤ count → count ≤ 8 → i < count → bandFails i → (∀ j, j < i → ¬ bandFails j) → fails 5 i) ∧
    (∀ code, headPasses → bandsPass → code < 64 → productFails code → (∀ x, x < code → ¬ productFails x) →
      fails (if code < 32 then 1 else 2) code) ∧
    (headPasses → bandsPass → (∀ code, code < 64 → ¬ productFails code) →
      verificationFailure version sections = none ∧
      table.version = head 0 2 ∧ table.station = head 2 2 ∧ table.zone = head 4 1 ∧ table.minEntry = head 5 2 ∧
      table.minFare = head 7 2 ∧ table.passback = head 9 1 ∧ table.reentry = head 10 1 ∧
      table.bands = (List.range count).map (fun i => (start i, if band i = 0 then .peak else .offpeak)) ∧
      table.peakFares = (List.range 256).map (fun k => fieldAt (c 3) (2 * k) 2) ∧
      table.offpeakFares = (List.range 256).map (fun k => fieldAt (c 4) (2 * k) 2) ∧
      table.maxFares = (List.range 32).map (fun k => fieldAt (c 5) (2 * k) 2) ∧
      (∀ code, code < 64 → table.product code =
        if entry code 0 1 = 1 then
          some ⟨([.storedValue, .periodPass, .rideCount, .staff, .free] : List Scheme).getD (entry code 1 1) .free,
            entry code 2 1, entry code 3 1, entry code 4 2, entry code 6 1, entry code 7 2⟩
        else none)))

/-- INCIDENT ADD appends an open incident of origin LOADED under the next number; its refusals are taken in order, the length of its
data after the test of NVWP. The next number is one above it, from 65,535 on 1, where no entry holds that number. -/
def Obligations.IncidentAddAppendsAnEntry : Prop :=
  ∀ (base : State) (nvwp : Bool) (r : Request) (rest : List (List Byte)),
    let s : State := { base with nvwp := nvwp }
    s.takes 0x44 r rest →
    let u := s.takeRequest r rest
    let added := Incident.mk s.incidents.next (r.field 12 2) (r.field 14 4) none (if r.byte 4 = 0 then .waive else .minimum) .loaded
    let after := if 65535 ≤ s.incidents.next then 1 else s.incidents.next + 1
    (s.nvwp = false → exec (.incidentAdd nvwp) base = .next (u.checked r ⟨.notReady, 0x04, none, none⟩)) ∧
    (s.nvwp = true → r.dataLength ≠ 6 → exec (.incidentAdd nvwp) base = .next (u.checked r ⟨.illegalRequest, 0x03, some 10, none⟩)) ∧
    (s.nvwp = true → r.dataLength = 6 →
      (r.field 12 2 = 65535 → exec (.incidentAdd nvwp) base = .next (u.checked r ⟨.illegalRequest, 0x01, some 12, none⟩)) ∧
      (r.field 12 2 ≠ 65535 → r.byte 4 ≠ 0 → r.byte 4 ≠ 1 →
        exec (.incidentAdd nvwp) base = .next (u.checked r ⟨.illegalRequest, 0x01, some 4, none⟩)) ∧
      (r.field 12 2 ≠ 65535 → r.byte 4 = 0 ∨ r.byte 4 = 1 → 16 ≤ s.incidents.entries.length →
        exec (.incidentAdd nvwp) base = .next (u.checked r ⟨.resource, 0x11, none, none⟩)) ∧
      (r.field 12 2 ≠ 65535 → r.byte 4 = 0 ∨ r.byte 4 = 1 → s.incidents.entries.length < 16 →
        ∃ next, exec (.incidentAdd nvwp) base = .next ({ u with
            incidents := { s.incidents with entries := s.incidents.entries ++ [added], next := next } }.good r
              (be 2 s.incidents.next)) ∧
          ((∀ i ∈ s.incidents.entries ++ [added], i.number ≠ after) → next = after)))

/-- INCIDENT CLOSE gives an open LOADED incident its end, and INCIDENT REMOVE removes one that is no open local incident. -/
def Obligations.IncidentsAreClosedAndRemoved : Prop :=
  ∀ (base : State) (nvwp : Bool) (r : Request) (rest : List (List Byte)),
    let s : State := { base with nvwp := nvwp }
    let u := s.takeRequest r rest
    let number := r.field 4 2
    let found := s.incidents.entries.find? (fun i => i.number == number)
    (s.takes 0x1C r rest → exec (.incidentClose nvwp) base = .next (
      if s.nvwp = false then u.checked r ⟨.notReady, 0x04, none, none⟩
      else
        match found with
        | none => u.checked r ⟨.illegalRequest, 0x01, some 4, none⟩
        | some i =>
          if i.origin = .fromLine ∧ i.finish = none then u.checked r ⟨.orderError, 0x12, none, none⟩
          else if i.finish ≠ none then u.checked r ⟨.orderError, 0x13, none, none⟩
          else if r.field 6 4 < i.start then u.checked r ⟨.illegalRequest, 0x01, some 6, none⟩
          else
            { u with incidents := { s.incidents with entries := s.incidents.entries.map (fun (j : Incident) =>
              if j.number = number then { j with finish := some (r.field 6 4) } else j) } }.good r [])) ∧
    (s.takes 0x1D r rest → exec (.incidentRemove nvwp) base = .next (
      if s.nvwp = false then u.checked r ⟨.notReady, 0x04, none, none⟩
      else
        match found with
        | none => u.checked r ⟨.illegalRequest, 0x01, some 4, none⟩
        | some i =>
          if i.origin = .fromLine ∧ i.finish = none then u.checked r ⟨.orderError, 0x12, none, none⟩
          else
            { u with incidents := { s.incidents with
              entries := s.incidents.entries.filter (fun (j : Incident) => decide (j.number ≠ number)) } }.good r []))

/-- INCIDENT READ returns the whole list and the next number, and changes nothing. -/
def Obligations.IncidentReadReturnsTheList : Prop :=
  ∀ (s : State) (r : Request) (rest : List (List Byte)), s.takes 0x1E r rest →
    exec .incidentRead s = .next ((s.takeRequest r rest).good r
      (be 1 s.incidents.entries.length ++ be 2 s.incidents.next ++ s.incidents.entries.flatMap (fun i =>
        be 2 i.number ++ be 2 i.station ++ be 4 i.start ++ [if i.finish.isSome then 1 else 0] ++ be 4 (i.finish.getD 0) ++
        [i.treatment.code, i.origin.code])))

/-! ### Resets, the store and lane requests -/

/-- RESET LANE replies GOOD and acts by phase: in IDLE the queue is forfeited with cause reset and its UNUSED GRANT records, the gate
goes to the state its service flag and readiness lead to with its command and motion timer, the monitor resynchronises, both ports
poll anew, and the LANE reset record follows; the offers that waited when the reset was taken are withdrawn, and of those made during
it the engine takes the one that the lock names or else the longest waiting, a part that is not READY counting its refusal (log 25); in
FINISHING the lane waits to be reset; in WRITING the slot opens as at LOST-DURING,
with no refusal counted (log 20); else the transaction is abandoned with LANE RESET, as State.abandon is stated to do. RESET PART is
BUSY while an earlier one is under way; else it replies GOOD, abandons a RUNNING operation, so that a fare table in verification is in
LOADING again and a hot list in verification or LOADING is abandoned, empties senses, conditions and notices, not the events still to
be taken (log 48), and resets the lanes, lane 0 first (log 26). -/
def Obligations.ResetsActOnLanes : Prop :=
  (∀ (s : State) (n : LaneId) (k : ResetKind),
    let l := s.lane n
    let g := l.gate
    let e := l.engine
    let serves := l.config.service && s.ready
    let report : Report := match l.inputs.gsa, l.inputs.gsb with
      | true, false => .opened
      | false, true => .closed
      | _, _ => .between
    let command : Position :=
      if g.emergency = true then .opened else if l.inputs.beamS = false ∧ l.inputs.beamP = false then .closed else g.command
    let matched := report = (if command = .opened then .opened else .closed)
    let state : GateState :=
      if serves = false then .outOfService
      else if g.emergency = true then .heldOpen
      else if command = .closed ∧ report = .closed then .closed
      else .closing
    let port (p : Port) : Port := ⟨.polling, .none, some ⟨.poll, 250⟩, false, false, 1000, p.releases ++ [.stop]⟩
    let forfeited := s.forfeit n .reset
    let kept : List Offer := (l.waiting.filter (fun o => o.inReset)).map (fun o => { o with inReset := false })
    let reset : Lane := { forfeited.lane n with
      gate := { g with
        state := state, staffHold := false, command := command, openTimer := none, queue := []
        motion := if matched then none else some (l.config.motionTimeout * 100)
        mode := l.config.mode
        lock := match l.config.mode with | .both => .free | .entry => .s | .exit => .p }
      monitor := ⟨.clear, l.inputs.beamS || l.inputs.beamP, none⟩
      portS := port l.portS, portP := port l.portP, waiting := kept, resetting := none }
    let done : State := (forfeited.setLane n reset).record (some n) RecordFlags.clear (.lane .reset)
    let taken (o : Offer) (others : List Offer) : State := done.setLane n { done.lane n with
      waiting := others
      engine := { Engine.reset with
        phase := .admitting, awaiting := .admission, side := some o.side, presence := some o.presence
        identity := match o.presence with
          | .card id => some id
          | _ => none
        lineTaken := e.lineTaken, lineIn := e.lineIn } }
    let t := s.resetLane n k
    let ending (p : Port) : Port := { p with exchange := none }
    let ended : Lane := match e.side with
      | some .s => { l with resetting := some k, portS := ending l.portS }
      | some .p => { l with resetting := some k, portP := ending l.portP }
      | none => { l with resetting := some k }
    (e.phase = .idle → kept = [] → t = done) ∧
    (∀ o, e.phase = .idle → s.ready = true → kept = [o] → t = taken o []) ∧
    (∀ o p, e.phase = .idle → s.ready = true → kept = [o, p] → o.side ≠ p.side →
      t = if (l.config.mode = .entry ∧ p.side = .s) ∨ (l.config.mode = .exit ∧ p.side = .p) then taken p [o] else taken o [p]) ∧
    (∀ o, e.phase = .idle → s.ready = false → kept = [o] → t =
      (done.setLane n ({ done.lane n with waiting := [] }.setPort o.side
        { (done.lane n).port o.side with releases := ((done.lane n).port o.side).releases ++ [Release.stop] })).countRefusal n
        .partNotReady) ∧
    (e.phase = .idle → s.journal.gapCount = 0 → s.journal.count + g.queue.length + 1 ≤ 32752 →
      s.journal.next + g.queue.length + 1 ≤ 4294967280 →
      t.journal.records.map (·.body) =
        s.journal.records.map (·.body) ++ g.queue.map (fun x => .unusedGrant .reset x) ++ [.lane .reset]) ∧
    (e.phase = .finishing → t = s.setLane n { l with resetting := some k }) ∧
    (e.phase = .admitting ∨ e.phase = .reading ∨ e.phase = .checking ∨ e.phase = .resolving →
      t = (s.setLane n { l with resetting := some k }).abandon n .laneReset) ∧
    (∀ i f id, e.phase = .writing → e.slot = some i → s.slot i = .reserved f → s.claim n = some id →
      (s.clock.valid = true → s.clock.time + s.window ≤ Config.max32 →
        t = (((s.setLane n ended).setSlot i
            (.opened f e.emergency (some s.clock.time) (some (s.clock.time + s.window)))).markTear i f).updEngine n (fun e => { e with
          slot := none, grantKind := none, charge := none, newImage := none, phase := .finishing, awaiting := .nothing
          duties := [.releaseClaim] })) ∧
      (s.clock.valid = false →
        t = (((s.setLane n ended).setSlot i (.opened f e.emergency none none)).markTear i f).updEngine n (fun e => { e with
          slot := none, grantKind := none, charge := none, newImage := none, phase := .finishing, awaiting := .nothing
          duties := [.releaseClaim] })))) ∧
  (∀ (s : State) (n : LaneId) (r : Request) (rest : List (List Byte)), s.takes 0x2E r rest → r.target = .lane n →
    exec .resetLane s = .next (((s.takeRequest r rest).resetLane n .lane).good r [])) ∧
  (∀ (s : State) (r : Request) (rest : List (List Byte)), s.takes 0x20 r rest →
    let u := s.takeRequest r rest
    let running : Option LongOp := s.proc.tracker.filter (fun op => !op.ended)
    let emptied : HotStore := { s.hot with standby := ⟨none, []⟩, load := .idle }
    let linked : State := { u with
      fare := { s.fare with pending := match running, s.fare.pending with
        | some _, .verifying version sections _ => .loading version sections
        | _, pending => pending }
      hot := match running, s.hot.load with
        | _, .idle => s.hot
        | _, .loading _ _ _ _ => emptied
        | some _, .verifying _ _ _ => emptied
        | none, .verifying _ _ _ => s.hot
      proc := { s.proc with
        laneSenses := Vector.replicate 8 none
        partSense := running.map (fun op => ⟨.aborted, op.command.toNat, none, some op.tag.toNat⟩)
        tracker := if running.isSome then none else s.proc.tracker
        lastCompletion := match running with
          | some op => some ⟨op.tag, op.command, .aborted⟩
          | none => s.proc.lastCompletion }
      notices := { s.notices with conditions := [], pending := [] } }
    ((∃ n, (s.lane n).resetting = some .part) → exec .resetPart s = .next (u.busied r)) ∧
    ((∀ n, (s.lane n).resetting ≠ some .part) →
      exec .resetPart s = .next ((([0, 1, 2, 3, 4, 5, 6, 7] : List LaneId).foldl (fun w n => w.resetLane n .part) linked).good r []) ∧
      ∃ t, exec .resetPart s = .next t ∧
      t.notices.conditions = [] ∧ t.notices.pending = [] ∧ (∀ n : LaneId, t.sense (.lane n) = none) ∧
      (match s.proc.tracker with
       | some ⟨tag, command, false⟩ => t.proc.tracker = none ∧ t.proc.lastCompletion = some ⟨tag, command, .aborted⟩ ∧
           t.proc.partSense = some ⟨.aborted, command.toNat, none, some tag.toNat⟩
       | _ => t.proc.tracker = s.proc.tracker ∧ t.proc.lastCompletion = s.proc.lastCompletion ∧ t.proc.partSense = none) ∧
      (∀ n, (t.lane n).resetting ≠ none → (t.lane n).engine.phase = .finishing) ∧
      (∀ n, (t.lane n).config = (s.lane n).config) ∧
      t.clock = s.clock ∧ t.keys = s.keys ∧ t.hot = linked.hot ∧
      t.incidents = s.incidents ∧ t.emergency = s.emergency ∧ t.window = s.window ∧ t.retention = s.retention ∧
      t.notices.levels = s.notices.levels ∧ t.link.requests = rest ∧
      t.link.replies = s.link.replies ++ [⟨false, [0x02, r.tag, 0x00]⟩]))

/-- INITIALISE STORE is refused by its tests in order, else its operation is RUNNING and no gate but one in FAULT is in service; its
steps empty the seen, hot-list, fare and incident tables in order, one step to a command (log 9); its end frees the tracker with the
COMPLETION and the outcome of the read-back (log 14). -/
def Obligations.InitialiseStoreClearsInSteps : Prop :=
  (∀ (base : State) (nvwp : Bool) (r : Request) (rest : List (List Byte)),
    let s : State := { base with nvwp := nvwp }
    s.takes 0x21 r rest →
    let u := s.takeRequest r rest
    let slotOpen (i : SlotId) : Bool := match s.slot i with
      | .opened _ _ _ _ => true
      | _ => false
    (s.nvwp = false → exec (.initialiseStore nvwp) base = .next (u.checked r ⟨.notReady, 0x04, none, none⟩)) ∧
    (s.nvwp = true → s.journal.count ≠ 0 →
      exec (.initialiseStore nvwp) base = .next (u.checked r ⟨.orderError, 0x18, none, some s.journal.count⟩)) ∧
    (∀ i, s.nvwp = true → s.journal.count = 0 → slotOpen i = true → (∀ j, j < i → slotOpen j = false) →
      exec (.initialiseStore nvwp) base = .next (u.checked r ⟨.orderError, 0x19, none, some i.val⟩)) ∧
    (s.nvwp = true → s.journal.count = 0 → (∀ i, slotOpen i = false) → s.emergency.taken = true →
      exec (.initialiseStore nvwp) base = .next (u.checked r ⟨.orderError, 0x0E, none, none⟩)) ∧
    (s.nvwp = true → s.journal.count = 0 → (∀ i, slotOpen i = false) → s.emergency.taken = false →
      (s.proc.tracker ≠ none → exec (.initialiseStore nvwp) base = .next (u.busied r)) ∧
      (s.proc.tracker = none → ∃ t, exec (.initialiseStore nvwp) base = .next t ∧ t.ready = false ∧
        t.proc.tracker = some ⟨r.tag, 0x21, false⟩ ∧ t.proc.initStage = 0 ∧
        (s.ready = true → ∀ n, (t.lane n).gate.state = .outOfService ∨ (t.lane n).gate.state = .fault) ∧
        t.seen.entries = s.seen.entries ∧ t.hot = s.hot ∧ t.fare = s.fare ∧ t.incidents = s.incidents ∧ t.keys = s.keys ∧
        t.recovery = s.recovery ∧ t.clock = s.clock ∧
        t.link.replies = s.link.replies ++ [⟨false, [0x02, r.tag, 0x03]⟩]))) ∧
  (∀ s : State, s.powered = true → s.initialising = true →
    (s.proc.initStage = 0 → exec .initialiseStoreClear s = .next { s with
      seen := { s.seen with entries := s.seen.entries.filter (fun e => e.tearPending.isSome) }
      proc := { s.proc with initStage := 1 } }) ∧
    (s.proc.initStage = 1 → exec .initialiseStoreClear s = .next { s with
      hot := ⟨⟨none, []⟩, ⟨none, []⟩, false, .idle, []⟩, proc := { s.proc with initStage := 2 } }) ∧
    (s.proc.initStage = 2 → s.fare.retiring = none → exec .initialiseStoreClear s = .next { s with
      fare := ⟨none, .none, match s.fare.active with
        | some old => if ∃ n, (s.lane n).engine.boundVersion = some old.version then some old else none
        | none => none⟩
      proc := { s.proc with initStage := 3 } }) ∧
    (s.proc.initStage = 2 → s.fare.retiring ≠ none → exec .initialiseStoreClear s = .next s) ∧
    (s.proc.initStage = 3 → exec .initialiseStoreClear s = .next { s with
      incidents := { s.incidents with
        entries := s.incidents.entries.filter (fun i => decide (i.origin = .fromLine ∧ i.finish = none)) }
      proc := { s.proc with initStage := 4 } })) ∧
  (∀ (s : State) (op : LongOp) (failed : Option (Fin 4)), s.powered = true → s.initialising = true → s.proc.initStage = 4 →
    s.proc.tracker = some op → s.fare.active = none →
    exec (.initialiseStoreEnd failed) s = .next { s with
      proc := { s.proc with
        initStage := 0
        tracker := some { op with ended := true }
        lastCompletion := some ⟨op.tag, op.command, if failed = none then .good else .check⟩
        partSense := match failed with
          | none => s.proc.partSense
          | some k => some ⟨.resource, 0x1A, none, some (k.val + 1)⟩ }
      link := { s.link with completion := some [0x03, op.tag, op.command, if failed = none then 0 else 1] } })

/-- CONFIGURE LANE stores five fields in range together and records them; LANE SERVICE stores the flag, and a change of it is
recorded and takes the gate out of service or, in a READY part, lets it back. The LANE record comes before the forfeiture's, the
model's choice: log 42. -/
def Obligations.LanesAreConfigured : Prop :=
  (∀ (base : State) (nvwp : Bool) (n : LaneId) (r : Request) (rest : List (List Byte)),
    let s : State := { base with nvwp := nvwp }
    s.takes 0x28 r rest → r.target = .lane n →
    let u := s.takeRequest r rest
    let mode := r.byte 4
    let level := r.field 5 1
    let openTime := r.field 6 1
    let motion := r.field 7 1
    let tailgate := r.field 8 1
    let m : DirMode := if mode = 0 then .entry else if mode = 1 then .exit else .both
    exec (.configureLane nvwp) base = .next (
      if s.nvwp = false then u.checked r ⟨.notReady, 0x04, none, none⟩
      else if mode ≠ 0 ∧ mode ≠ 1 ∧ mode ≠ 2 then u.checked r ⟨.illegalRequest, 0x01, some 4, none⟩
      else if 3 < level then u.checked r ⟨.illegalRequest, 0x01, some 5, none⟩
      else if openTime < 2 ∨ 30 < openTime then u.checked r ⟨.illegalRequest, 0x01, some 6, none⟩
      else if motion < 5 ∨ 50 < motion then u.checked r ⟨.illegalRequest, 0x01, some 7, none⟩
      else if tailgate < 5 ∨ 50 < tailgate then u.checked r ⟨.illegalRequest, 0x01, some 8, none⟩
      else
        (((u.setLane n { s.lane n with config := ⟨m, level, openTime, motion, tailgate, (s.lane n).config.service⟩ }).record
          (some n) RecordFlags.clear (.lane (.configuration m level openTime motion tailgate))).settleGate n).good r [])) ∧
  (∀ (base : State) (nvwp : Bool) (n : LaneId) (r : Request) (rest : List (List Byte)),
    let s : State := { base with nvwp := nvwp }
    s.takes 0x29 r rest → r.target = .lane n →
    let u := s.takeRequest r rest
    let stored (on : Bool) : State :=
      (u.setLane n { s.lane n with config := { (s.lane n).config with service := on } }).record (some n) RecordFlags.clear
        (.lane (if on then .serviceOn else .serviceOff))
    let state := (s.lane n).gate.state
    (s.nvwp = false → exec (.laneService nvwp) base = .next (u.checked r ⟨.notReady, 0x04, none, none⟩)) ∧
    (s.nvwp = true → r.byte 4 ≠ 0 → r.byte 4 ≠ 1 →
      exec (.laneService nvwp) base = .next (u.checked r ⟨.illegalRequest, 0x01, some 4, none⟩)) ∧
    (∀ on : Bool, s.nvwp = true → r.byte 4 = (if on then 1 else 0) → (s.lane n).config.service = on →
      exec (.laneService nvwp) base = .next (u.good r [])) ∧
    (s.nvwp = true → r.byte 4 = 0 → (s.lane n).config.service = true →
      (state = .fault ∨ state = .outOfService → exec (.laneService nvwp) base = .next ((stored false).good r [])) ∧
      (state ≠ .fault → state ≠ .outOfService → exec (.laneService nvwp) base = .next (
        ((((stored false).updGate n (fun g => { g with openTimer := none, staffHold := false })).forfeit n .service).updGate n
          (fun g => { g with state := .outOfService }) |>.settleGate n).good r []))) ∧
    (s.nvwp = true → r.byte 4 = 1 → (s.lane n).config.service = false →
      (state = .fault ∨ (state = .outOfService ∧ s.ready = false) →
        exec (.laneService nvwp) base = .next ((stored true).good r [])) ∧
      (state = .outOfService → s.ready = true → exec (.laneService nvwp) base = .next (
        (((stored true).updGate n (fun g => { g with state := if g.emergency then .heldOpen else .closing })).settleGate n).good
          r []))))

/-- HOLD OPEN and RELEASE HOLD by gate state, staff hold, emergency cause and queue. -/
def Obligations.StaffHoldsAndReleases : Prop :=
  (∀ (s : State) (n : LaneId) (r : Request) (rest : List (List Byte)), s.takes 0x2A r rest → r.target = .lane n →
    let u := s.takeRequest r rest
    let g := (s.lane n).gate
    exec .holdOpen s = .next (
      if g.state = .outOfService ∨ g.state = .fault then u.checked r ⟨.orderError, 0x0C, none, none⟩
      else
        ((u.setLane n { s.lane n with gate := { g with staffHold := true, openTimer := none, state := .heldOpen } }).settleGate
          n).good r [])) ∧
  (∀ (s : State) (n : LaneId) (r : Request) (rest : List (List Byte)), s.takes 0x2B r rest → r.target = .lane n →
    let u := s.takeRequest r rest
    let g := (s.lane n).gate
    let released : Gate :=
      if g.emergency = true then { g with staffHold := false }
      else if g.queue = [] then { g with staffHold := false, state := .closing }
      else { g with staffHold := false, state := .opened, openTimer := some ((s.lane n).config.openTime * 1000) }
    exec .releaseHold s = .next (
      if g.staffHold = false then u.checked r ⟨.orderError, 0x0D, none, none⟩
      else ((u.setLane n { s.lane n with gate := released }).settleGate n).good r []))

/-- GRANT PASSAGE is refused by its cases in order; else the lock is taken, the STAFF GRANT record appended, and a grant of kind
STAFF queued with the record's sequence, opening the gate unless it is held open. -/
def Obligations.StaffGrantsPassage : Prop :=
  ∀ (s : State) (n : LaneId) (r : Request) (rest : List (List Byte)) (d : Direction), s.takes 0x2C r rest → r.target = .lane n →
    let u := s.takeRequest r rest
    let g := (s.lane n).gate
    let side : Lock := if d = .entry then .s else .p
    let held := g.queue.length + (if g.place then 1 else 0)
    (r.byte 4 ≠ 0 → r.byte 4 ≠ 1 → exec .grantPassage s = .next (u.checked r ⟨.illegalRequest, 0x01, some 4, none⟩)) ∧
    (r.byte 4 = (if d = .entry then 0 else 1) → exec .grantPassage s = .next (
      if g.state = .outOfService ∨ g.state = .fault then u.checked r ⟨.orderError, 0x0C, none, none⟩
      else if g.emergency = true then u.checked r ⟨.orderError, 0x0E, none, none⟩
      else if g.lock ≠ .free ∧ g.lock ≠ side then u.checked r ⟨.orderError, 0x0F, none, none⟩
      else if 2 ≤ held then u.checked r ⟨.resource, 0x10, none, none⟩
      else
        let a := (u.updGate n (fun g => { g with lock := side })).append (some n) RecordFlags.clear (.staffGrant d s.clock.time)
        ((a.1.updGate n (fun g => { g with
            queue := g.queue ++ [⟨none, d, .staff, s.clock.time, a.2⟩]
            state := if g.state = .heldOpen then .heldOpen else .opened
            openTimer := if g.state = .heldOpen then g.openTimer else some ((s.lane n).config.openTime * 1000) })).settleGate
          n).good r []))

/-! ### The Journal and the gate, at their shared operations -/

/-- An append is stored with the next sequence while the store is out of its write reserve; in it a card-write record alone is
stored, and any other is dropped into the gap count; a GAP record owed is stored before the first record after the reserve, the gap
count back at 0 and the drop times absent, and the arriving record is then decided in the journal as the GAP record left it. The
events of one append stand in the order threshold A, threshold B, limit, the model's choice: log 46. -/
def Obligations.JournalDecidesAppends : Prop :=
  ∀ (s : State) (lane : Option LaneId) (flags : RecordFlags) (b : RecordBody),
    let j := s.journal
    let time := if s.clock.valid then max s.clock.time j.lastTime else j.lastTime
    let reserve := 32752 ≤ j.count ∨ 4294967280 ≤ j.next
    let crossings (c : Nat) : List Event :=
      (if j.thresholdA = c then [⟨.journalThresholdA, .part, be 2 c ++ be 2 c⟩] else []) ++
      (if j.thresholdB = c then [⟨.journalThresholdB, .part, be 2 c ++ be 2 c⟩] else []) ++
      (if j.limit = c then [⟨.journalLimit, .part, be 2 c ++ be 2 c⟩] else [])
    let stored (f : RecordFlags) : State := { s with
      journal := { j with records := j.records ++ [⟨j.next, time, lane, f, b⟩], next := j.next + 1, lastTime := time }
      notices := { s.notices with inbox := s.notices.inbox ++ crossings (j.count + 1) } }
    let isCardWrite := (∃ x, b = .tear x) ∨ (∃ x, b = .card x ∧ x.counterWritten ≠ none)
    (¬ reserve → j.gapCount = 0 → s.append lane flags b = (stored { flags with gapFollows := false }, some j.next)) ∧
    (reserve → isCardWrite → j.count < 32768 → j.next ≤ 4294967295 →
      s.append lane flags b = (stored { flags with gapFollows := decide (j.gapCount ≠ 0) }, some j.next)) ∧
    (reserve → ¬ isCardWrite → s.append lane flags b = ({ s with
      journal := { j with
        gapCount := if j.gapCount < 4294967295 then j.gapCount + 1 else j.gapCount
        firstDrop := if j.gapCount = 0 then some time else j.firstDrop
        lastDrop := some time } }, none)) ∧
    (¬ reserve → j.gapCount ≠ 0 → ∀ first last, j.firstDrop = some first → j.lastDrop = some last →
      let gap : JRecord := ⟨j.next, time, none, RecordFlags.clear, .gap j.gapCount first last⟩
      let after : State := { s with
        journal := { j with records := j.records ++ [gap], next := j.next + 1, lastTime := time, gapCount := 0
                            firstDrop := none, lastDrop := none }
        notices := { s.notices with inbox := s.notices.inbox ++ crossings (j.count + 1) } }
      s.append lane flags b = after.append lane flags b ∧
      (j.count + 1 < 32752 → j.next + 1 < 4294967280 →
        (s.append lane flags b).2 = some (j.next + 1) ∧ (s.append lane flags b).1.journal = { j with
          records := j.records ++ [gap, ⟨j.next + 1, time, lane, { flags with gapFollows := false }, b⟩]
          next := j.next + 2, lastTime := time, gapCount := 0, firstDrop := none, lastDrop := none }))

/-- A forfeiture empties the queue, counts every grant of it, and sends a forfeiture update for each grant with an identity, in
order and with the station time of the forfeiture; nothing else of the lane changes, and no other lane. -/
def Obligations.ForfeitureEmptiesTheQueue : Prop :=
  ∀ (s : State) (n : LaneId) (cause : ForfeitCause),
    let g := (s.lane n).gate
    let t := s.forfeit n cause
    (t.lane n).gate = { g with queue := [] } ∧
    ((s.lane n).counters.forfeited + g.queue.length ≤ 4294967295 →
      (t.lane n).counters = { (s.lane n).counters with forfeited := (s.lane n).counters.forfeited + g.queue.length }) ∧
    t.seen.inbox = s.seen.inbox ++ g.queue.filterMap (fun x => x.identity.map (fun id => ⟨false, id, n, x.direction, s.clock.time⟩)) ∧
    { t.lane n with gate := g, counters := (s.lane n).counters } = s.lane n ∧ (∀ m, m ≠ n → t.lane m = s.lane m) ∧
    (s.journal.gapCount = 0 → s.journal.count + g.queue.length ≤ 32752 → s.journal.next + g.queue.length ≤ 4294967280 →
      t.journal.records.map (·.body) = s.journal.records.map (·.body) ++ g.queue.map (fun x => .unusedGrant cause x)) ∧
    { t with lanes := s.lanes, seen := s.seen, journal := s.journal, notices := s.notices } = s

/-- What a Gate Controller settles after every step of its own: the command follows the wanted position, closing only with both
beams clear, and starts the motion timer when it changes; CLOSING becomes CLOSED on the report; the lock is released when it may be.
A change of the part's readiness is taken by all eight gates in one step, lane 0 first (log 43): of a part now READY every gate in
service leaves OUT OF SERVICE, of one no longer READY every gate enters it with its queue forfeited; a gate in FAULT stays in FAULT. -/
def Obligations.GateSettlesItsCommand : Prop :=
  (∀ l : Lane,
    let g := l.gate
    let wantsOpen := g.state = .opened ∨ g.state = .heldOpen ∨ ((g.state = .outOfService ∨ g.state = .fault) ∧ g.emergency = true)
    let report : Report := match l.inputs.gsa, l.inputs.gsb with
      | true, false => .opened
      | false, true => .closed
      | _, _ => .between
    let command : Position :=
      if wantsOpen then .opened else if l.inputs.beamS = false ∧ l.inputs.beamP = false then .closed else g.command
    let matched := report = (if command = .opened then .opened else .closed)
    let x := l.settle
    x.gate.command = command ∧
    x.gate.motion = (if command = g.command then g.motion
      else if matched ∨ g.state = .fault then none else some (l.config.motionTimeout * 100)) ∧
    x.gate.state = (if g.state = .closing ∧ command = .closed ∧ report = .closed then .closed else g.state) ∧
    (g.queue = [] → g.place = false → x.gate.state ≠ .opened → x.gate.state ≠ .closing →
      x.gate.mode = l.config.mode ∧ x.gate.lock = (match l.config.mode with | .both => .free | .entry => .s | .exit => .p)) ∧
    (g.queue ≠ [] ∨ g.place = true ∨ x.gate.state = .opened ∨ x.gate.state = .closing →
      x.gate.mode = g.mode ∧ x.gate.lock = g.lock) ∧
    { x with gate := { x.gate with
      command := g.command, motion := g.motion, state := g.state, mode := g.mode, lock := g.lock } } = l) ∧
  (∀ (s : State) (before : Bool),
    let leaves (w : State) (n : LaneId) : State :=
      let g := (w.lane n).gate
      (w.setLane n { w.lane n with gate := { g with state := if g.emergency then .heldOpen else .closing } }).settleGate n
    let enters (w : State) (n : LaneId) : State :=
      let l := w.lane n
      let x := (w.setLane n { l with gate := { l.gate with openTimer := none, staffHold := false } }).forfeit n .service
      (x.setLane n { x.lane n with gate := { (x.lane n).gate with state := .outOfService } }).settleGate n
    let moved (w : State) (n : LaneId) : State :=
      let l := w.lane n
      if l.gate.state = .fault then w
      else if l.config.service = true ∧ s.ready = true then (if l.gate.state = .outOfService then leaves w n else w)
      else if l.gate.state = .outOfService then w
      else enters w n
    let t := s.settleReadiness before
    (s.ready = before → t = s) ∧
    (s.ready ≠ before → t = (List.finRange 8).foldl moved s) ∧
    (∀ n, s.ready = true → before = false → (s.lane n).config.service = true → (s.lane n).gate.state = .outOfService →
      t.lane n = ({ s.lane n with gate := { (s.lane n).gate with
        state := if (s.lane n).gate.emergency then .heldOpen else .closing } } : Lane).settle) ∧
    (∀ n, s.ready = false → before = true → (s.lane n).gate.state ≠ .fault → (s.lane n).gate.state ≠ .outOfService →
      (t.lane n).gate.state = .outOfService ∧ (t.lane n).gate.queue = [] ∧ (t.lane n).gate.staffHold = false ∧
      (t.lane n).gate.openTimer = none) ∧
    (∀ n, (s.lane n).gate.state = .fault → t.lane n = s.lane n))

/-! ### Reader heads -/

/-- READY, FAULT, the head answer timer and the poll of FAULT at a port, by its state and the exchange outstanding; a READY in READY
ends a READ as READ LOST and a WRITE as LOST-DURING, keeping the presence (log 23). -/
def Obligations.PortsFollowTheirHeads : Prop :=
  ∀ (s : State) (n : LaneId) (side : Side), s.powered = true →
    let l := s.lane n
    let p := l.port side
    let others := l.waiting.filter (fun o => o.side != side)
    let set (q : Port) : State := s.setLane n (l.setPort side q)
    let withdrawn (q : Port) : State := s.setLane n ({ l with waiting := others }.setPort side q)
    let faulted : State :=
      ((withdrawn { p with state := .fault, presence := .none, exchange := none, dropped := true, pollTimer := 1000 }).record
        (some n) RecordFlags.clear (.lane (.fault (.head side)))).raise .headFault (.lane n) [if side = .s then 0 else 1]
    let ended : State :=
      if p.reading then faulted.refuse n .readFault [] else if p.writing then faulted.lostDuring n else faulted
    (p.state ≠ .ready → exec (.headReady n side) s = .next (set { p with state := .ready, exchange := none })) ∧
    (p.state = .ready → exec (.headReady n side) s = .next (
      if p.writing then (set { p with exchange := none, dropped := true }).lostDuring n
      else
        let w := withdrawn { p with presence := .none, exchange := none, dropped := true }
        if p.reading then w.refuse n .readLost [] else w)) ∧
    exec (.headFaultReport n side) s = .next (if p.state = .fault then s else ended) ∧
    exec (.headAnswerTimeout n side) s = .next (
      if p.exchange = none then s else if p.state = .fault then set { p with exchange := none } else ended) ∧
    exec (.faultPoll n side) s = .next (
      if p.state = .fault then set { p with exchange := some ⟨.poll, 250⟩, pollTimer := 1000 } else s)

/-- PRESENT and MULTIPLE that are no repeats set the presence and make an offer, which an IDLE engine of a READY part takes at once
and which waits while the engine runs, holding the presence and whether it was made during a reset of the lane; an offer that already
waits at the port takes the new presence in its place, also from a MULTIPLE that makes none; a part that is not READY counts the refusal, in the step that takes the offer (log 7); GONE
clears presence and offer, and ends a READ as READ LOST. A PRESENT of the transaction's identity after a GONE ends that GONE's effect on
the WRITE and leaves the mark of a READY taken in READY since the READ, which still has the WRITE answered LOST-BEFORE: the model's
choice, log 49. -/
def Obligations.PresenceMakesOffers : Prop :=
  ∀ (s : State) (n : LaneId) (side : Side) (id : Identity), s.powered = true →
    let l := s.lane n
    let p := l.port side
    let present : Lane := l.setPort side
      { p with presence := .card id
               gone := p.gone && !(l.engine.side == some side && l.engine.identity == some id) }
    let multiple : Lane := l.setPort side { p with presence := .multiple }
    let made (shown : Presence) : Offer := ⟨side, shown, l.resetting.isSome⟩
    let waits (x : Lane) (shown : Presence) : Lane := { x with
      waiting := if ∃ o ∈ l.waiting, o.side = side then l.waiting.map (fun o => if o.side = side then made shown else o)
        else l.waiting ++ [made shown] }
    let taken (x : Lane) (shown : Presence) (i : Option Identity) : Lane :=
      { x with engine := { Engine.reset with
          phase := .admitting, awaiting := .admission, side := some side, presence := some shown, identity := i
          lineTaken := l.engine.lineTaken, lineIn := l.engine.lineIn } }
    let gone : State := s.setLane n ({ l with waiting := l.waiting.filter (fun o => o.side != side) }.setPort side
      { p with presence := .none, exchange := if p.reading then none else p.exchange
               gone := p.gone || l.engine.side == some side })
    let notReady (x : Lane) (shown : Presence) : Prop :=
      (x.port side).releases = p.releases ++ [.stop] ∧ (x.port side).presence = shown ∧ x.waiting = [] ∧
      x.engine = l.engine ∧ x.gate = l.gate ∧
      x.refusals = l.refusals.set 0 (if l.refusals[0] < 4294967295 then l.refusals[0] + 1 else l.refusals[0])
    (p.presence = .card id → exec (.headPresent n side id) s = .next s) ∧
    (p.presence ≠ .card id → l.engine.phase ≠ .idle → exec (.headPresent n side id) s = .next (s.setLane n (waits present (.card id)))) ∧
    (p.presence ≠ .card id → l.engine.phase = .idle → l.resetting = none → l.waiting = [] → s.ready = true →
      exec (.headPresent n side id) s = .next (s.setLane n (taken present (.card id) (some id)))) ∧
    (p.presence ≠ .card id → l.engine.phase = .idle → l.resetting = none → l.waiting = [] → s.ready = false →
      ∃ t, exec (.headPresent n side id) s = .next t ∧ { t with lanes := s.lanes } = s ∧ (∀ m, m ≠ n → t.lane m = s.lane m) ∧
        notReady (t.lane n) (.card id)) ∧
    (p.presence = .multiple → exec (.headMultiple n side) s = .next s) ∧
    (p.presence ≠ .multiple → p.reading = true ∨ p.writing = true ∨ l.engine.side = some side →
      exec (.headMultiple n side) s = .next (s.setLane n { multiple with
        waiting := l.waiting.map (fun o => if o.side = side then { o with presence := .multiple } else o) })) ∧
    (p.presence ≠ .multiple → p.reading = false → p.writing = false → l.engine.side ≠ some side → l.engine.phase ≠ .idle →
      exec (.headMultiple n side) s = .next (s.setLane n (waits multiple .multiple))) ∧
    (p.presence ≠ .multiple → p.reading = false → p.writing = false → l.engine.side = none → l.engine.phase = .idle →
      l.resetting = none → l.waiting = [] → s.ready = true →
      exec (.headMultiple n side) s = .next (s.setLane n (taken multiple .multiple none))) ∧
    (p.presence ≠ .multiple → p.reading = false → p.writing = false → l.engine.side = none → l.engine.phase = .idle →
      l.resetting = none → l.waiting = [] → s.ready = false →
      ∃ t, exec (.headMultiple n side) s = .next t ∧ { t with lanes := s.lanes } = s ∧ (∀ m, m ≠ n → t.lane m = s.lane m) ∧
        notReady (t.lane n) .multiple) ∧
    exec (.headGone n side) s = .next (if p.reading then gone.refuse n .readLost [] else gone)

/-- The answers to a READ: DATA brings the image to checks 9 to 12, a card that passes them goes on to the hot list, one that fails
is refused with a CARD record alone; LOST refuses READ LOST; with no READ outstanding neither has an effect. A card is well formed by
the values of its fields at their offsets, a key is that of the slot holding the generation, and the check value chains the seven
blocks of the record by the block transform, a free value (log 13), and ends under the key material with its last byte inverted. The
transform is under each key material a permutation, so that a changed byte, and any change within one block, changes the check value. -/
def Obligations.ReadsEndByTheirAnswer : Prop :=
  (∀ (s : State) (n : LaneId) (side : Side) (m : List Byte), s.powered = true → m.length = 64 →
    let l := s.lane n
    let p := l.port side
    let e := l.engine
    let offered := e.identity.getD 0
    let read (f : Engine) : State := s.setLane n { (l.setPort side { p with exchange := none }) with engine := f }
    let image : Engine := { e with phase := .checking, image := some m }
    let refused (w : State) (r : RefusalCode) : State := w.refuse n r [.cardRecord]
    (p.reading = false → exec (.headData n side m) s = .next s ∧ exec (.headLost n side) s = .next s) ∧
    (p.reading = true →
      exec (.headLost n side) s = .next ((read e).refuse n .readLost []) ∧
      exec (.headData n side m) s = .next (
        if wellFormedCard m = false then refused (read { image with counterfeit := false }) .unknownFormat
        else if cardIdentity m ≠ offered then
          refused ((read { image with counterfeit := true }).raise .counterfeitAlarm (.lane n) (be 8 offered.toNat ++ [0x0B]))
            .identityMismatch
        else
          match s.keyFor (cardGeneration m) with
          | none => refused (read { image with counterfeit := false }) .unknownKey
          | some k =>
            if checkValue k.material (m.take 56) = cardCheck m then
              read { image with verified := true, awaiting := .hotlist }
            else
              refused ((read { image with counterfeit := true }).raise .counterfeitAlarm (.lane n)
                (be 8 offered.toNat ++ [0x0D])) .badCheckValue))) ∧
  (∀ m : List Byte,
    let v (k n : Nat) : Nat := fieldAt m k n
    (wellFormedCard m = true ↔
      v 0 1 = 1 ∧ v 26 1 ≤ 1 ∧ v 27 2 ≠ 65535 ∧ v 38 2 ≠ 65535 ∧ v 24 1 ≤ 16 ∧ v 25 1 ≤ 16 ∧
      (v 27 2 = 0 → v 29 1 = 0 ∧ v 34 1 = 0 ∧ v 26 1 = 0) ∧
      (v 27 2 ≠ 0 → 1 ≤ v 29 1 ∧ v 29 1 ≤ 16 ∧ 1 ≤ v 34 1 ∧ v 34 1 ≤ 4)) ∧
    cardIdentity m = BitVec.ofNat 64 (v 1 8) ∧ cardGeneration m = v 9 1 ∧ cardCheck m = BitVec.ofNat 64 (v 56 8)) ∧
  (∀ (s : State) (g : Nat),
    (∀ k, s.keyFor g = some k → k.generation = g ∧ ∃ i : Fin 4, s.keys[i] = some k) ∧
    (s.keyFor g = none → ∀ (i : Fin 4) (k : Key), s.keys[i] = some k → k.generation ≠ g)) ∧
  (∀ (first : List Byte) (z : Byte) (bytes : List Byte), first.length = 15 →
    let key := first ++ [z]
    let block (k : Nat) : BitVec 64 := BitVec.ofNat 64 (fieldAt bytes (8 * k) 8)
    checkValue key bytes = Config.blockTransform (first ++ [~~~z])
      ((List.range 7).foldl (fun c k => Config.blockTransform key (block k ^^^ c)) 0)) ∧
  (∀ key : List Byte,
    (∀ a b, Config.blockTransform key a = Config.blockTransform key b → a = b) ∧ (∀ c, ∃ a, Config.blockTransform key a = c)) ∧
  (∀ (key before x y after : List Byte) (k : Nat), before.length = 8 * k → x.length = 8 → y.length = 8 → after.length + 8 * k = 48 →
    x ≠ y → checkValue key (before ++ x ++ after) ≠ checkValue key (before ++ y ++ after)) ∧
  (∀ (key bytes : List Byte) (i : Nat) (z : Byte), bytes.length = 56 → i < 56 → bytes[i]? ≠ some z →
    checkValue key (bytes.set i z) ≠ checkValue key bytes)

/-- The answers to a WRITE: DONE appends the CARD record and frees the slot in the one step; LOST-BEFORE frees the slot and refuses
CARD REMOVED, its CARD record appended in the same step (log 44); LOST-DURING opens the slot and marks the seen entry; with no WRITE
outstanding none has an effect. A CARD record holds the outcome, the fields of the image read, and of a GRANTED the counter written,
the charge and the balance and trip of the new image; its flags are those of the transaction. The fare version of a transaction bound
to no table is the model's free value (log 16). -/
def Obligations.WritesEndByTheirAnswer : Prop :=
  (∀ (s : State) (n : LaneId) (side : Side), s.powered = true →
    let l := s.lane n
    let p := l.port side
    let e := l.engine
    let free : State := s.setLane n (l.setPort side { p with exchange := none })
    let claimed : List Duty := if (s.claim n).isSome then [.releaseClaim] else []
    let lost (w : State) (i : SlotId) (v : Nat) : State :=
      let refused (e : Engine) : Engine :=
        { e with refusal := some .cardRemoved, grantKind := none, charge := none, newImage := none }
      let a := ((w.countRefusal n .cardRemoved).updEngine n refused).append (some n) e.recordFlags (.card ((refused e).cardBody v))
      (a.1.setSlot i .free).updEngine n (fun e => { e with
        cardSeq := a.2, slot := none, phase := .finishing, awaiting := .nothing, duties := [.seenUpdate] ++ claimed })
    (p.writing = false → exec (.headDone n side) s = .next s ∧ exec (.headLostBefore n side) s = .next s ∧
      exec (.headLostDuring n side) s = .next s) ∧
    (∀ i f v, p.writing = true → e.slot = some i → s.slot i = .reserved f → e.boundVersion = some v →
      let a := free.append (some n) e.recordFlags (.card (e.cardBody v))
      exec (.headDone n side) s = .next ((a.1.setSlot i .free).updEngine n (fun e => { e with
        cardSeq := a.2, slot := none, phase := .finishing, awaiting := .nothing
        duties := [.seenUpdate] ++ (if e.emergency then [] else [.push]) ++ claimed })) ∧
      exec (.headLostBefore n side) s = .next (lost free i v) ∧
      (∀ id, s.claim n = some id → s.clock.valid = true → s.clock.time + s.window ≤ Config.max32 →
        exec (.headLostDuring n side) s = .next (
          ((free.setSlot i (.opened f e.emergency (some s.clock.time) (some (s.clock.time + s.window)))).markTear i f).updEngine n
            (fun e => { e with
              slot := none, grantKind := none, charge := none, newImage := none, phase := .finishing, awaiting := .nothing
              duties := [.releaseClaim] }))) ∧
      (∀ id, s.claim n = some id → s.clock.valid = false →
        exec (.headLostDuring n side) s = .next (
          ((free.setSlot i (.opened f e.emergency none none)).markTear i f).updEngine n
            (fun e => { e with
              slot := none, grantKind := none, charge := none, newImage := none, phase := .finishing, awaiting := .nothing
              duties := [.releaseClaim] })))) ∧
    (∀ i f, p.writing = true → e.slot = some i → s.slot i = .reserved f → e.boundVersion = none →
      ∃ v, v < 65536 ∧ exec (.headLostBefore n side) s = .next (lost { free with free := s.free + 1 } i v))) ∧
  (∀ (e : Engine) (m : List Byte) (id : Identity) (d : Direction) (v : Nat),
    e.image = some m → e.identity = some id → e.direction = some d →
    let body : CardBody :=
      { outcome := .refused, refusal := e.refusal, identity := id, direction := d, product := fieldAt m 12 1
        counterRead := fieldAt m 13 3, counterWritten := none, charge := 0, balanceBefore := cardBalance m
        balanceAfter := cardBalance m, fareVersion := v, originStation := fieldAt m 27 2, legs := fieldAt m 34 1
        related := e.related }
    (∀ r, e.refusal = some r → e.cardBody v = body) ∧
    (e.refusal = none → e.grantKind ≠ some .paid → e.cardBody v = { body with outcome := .reGranted }) ∧
    (∀ c x, e.refusal = none → e.grantKind = some .paid → e.charge = some c → e.newImage = some x →
      e.cardBody v = { body with
        outcome := .granted, counterWritten := some (fieldAt m 13 3 + 1), charge := c, balanceAfter := cardBalance x
        originStation := fieldAt x 27 2, legs := fieldAt x 34 1 }) ∧
    e.recordFlags = ⟨e.emergency, e.clone, e.counterfeit, !e.verified, false⟩)


/-! ### The card transaction -/

/-- Admission: checks 2 to 5 at the Gate Controller in order, then the lock taken and a place held; then check 6 at the Journal, the
bindings, and TWO CARDS or the READ, which a port in FAULT or POLLING answers READ FAULT (POLLING: the model's choice, log 34). A tap
that passed only because the gate has yet to take an assertion that the engine has taken is refused EMERGENCY: the engine holds the
line as taken and the gate has more changes of it left to take (log 8). -/
def Obligations.AdmissionMakesItsChecks : Prop :=
  ∀ (s : State) (n : LaneId) (side : Side), s.powered = true → (s.lane n).engine.side = some side →
    let l := s.lane n
    let p := l.port side
    let lock : Lock := if side = .s then .s else .p
    let closed := l.config.service = false ∨ l.gate.state = .fault ∨ l.gate.state = .outOfService ∨
      (l.gate.mode = .entry ∧ side = .p) ∨ (l.gate.mode = .exit ∧ side = .s) ∨ p.state ≠ .ready
    let admitted : Lane := { l with gate := { l.gate with lock := lock, place := true } }
    let bound : Engine := { l.engine with
      direction := some (if side = .s then .entry else .exit), admissionTime := some s.clock.time
      boundVersion := s.fare.active.map (·.version), boundLevel := some l.config.level }
    let asked : Port := { p with gone := false, dropped := false }
    (l.engine.awaiting ≠ .admission → exec (.admissionRequest n) s = .next s) ∧
    (l.engine.awaiting = .admission → exec (.admissionRequest n) s = .next (
      if closed then s.refuse n .laneClosed []
      else if l.gate.emergency = true then s.refuse n .emergency []
      else if l.gate.lock ≠ .free ∧ l.gate.lock ≠ lock then s.refuse n .oppositeFlow []
      else if 2 ≤ l.gate.queue.length then s.refuse n .laneFull []
      else if l.engine.lineTaken = true ∧ l.engine.lineIn.length < l.gate.lineIn.length then (s.setLane n admitted).refuse n .emergency []
      else s.setLane n { admitted with engine := { l.engine with awaiting := .journal } })) ∧
    (l.engine.awaiting ≠ .journal → exec (.journalAdmissionCheck n) s = .next s) ∧
    (l.engine.awaiting = .journal → exec (.journalAdmissionCheck n) s = .next (
      if s.journal.limit ≤ s.journal.count ∨ 4294967280 ≤ s.journal.next then s.refuse n .journalFull []
      else
        match l.engine.identity with
        | none => (s.setLane n { l with engine := bound }).refuse n .twoCards []
        | some id =>
          let ready : Lane := { l.setPort side asked with engine := bound }
          if p.state ≠ .ready then (s.setLane n ready).refuse n .readFault []
          else if p.presence ≠ .card id then (s.setLane n ready).refuse n .readLost []
          else s.setLane n { l.setPort side { asked with exchange := some ⟨.read, 250⟩ } with
            engine := { bound with phase := .reading, awaiting := .nothing } }))

/-- Screening: a hot-listed card is refused with its event; a claim is refused to an identity another lane's claim holds, with the
clone flag, and otherwise given; and FINISHING empties the lane's claim. -/
def Obligations.ScreeningAsksListAndClaims : Prop :=
  ∀ (s : State) (n : LaneId) (id : Identity), s.powered = true → (s.lane n).engine.identity = some id →
    let e := (s.lane n).engine
    let active := id ∈ s.hot.active.ids
    let onLocal := ∃ x ∈ s.hot.locals, x.identity = id
    let claimed : List Duty := if (s.claim n).isSome then [.releaseClaim] else []
    let elsewhere := ∃ m, m ≠ n ∧ s.claim m = some id
    let slotOpen := ∃ i f em wt ex, s.slot i = .opened f em wt ex ∧ f.identity = id
    let settled (phase : Phase) : State := (s.setClaim n (some id)).updEngine n (fun e => { e with
      phase := phase, awaiting := .resolution })
    (e.awaiting = .hotlist → (active ∨ onLocal) → ∃ flag : Byte, (active → flag = 0) ∧ (¬ active → flag = 1) ∧
      exec (.hotlistLookup n) s = .next ((s.raise .hotlistHit (.lane n) (be 8 id.toNat ++ [flag])).refuse n .hotlisted
        ([.cardRecord, .seenUpdate] ++ claimed))) ∧
    (e.awaiting = .hotlist → ¬ active → ¬ onLocal →
      exec (.hotlistLookup n) s = .next (s.updEngine n (fun e => { e with awaiting := .claim }))) ∧
    (e.awaiting = .claim → elsewhere → exec (.claimRequest n) s = .next
      ((s.updEngine n (fun e => { e with clone := true })).refuse n .inUseElsewhere
        ([.localAddition, .cardRecord, .seenUpdate] ++ claimed))) ∧
    (e.awaiting = .claim → ¬ elsewhere → slotOpen → exec (.claimRequest n) s = .next (settled .resolving)) ∧
    (e.awaiting = .claim → ¬ elsewhere → ¬ slotOpen → exec (.claimRequest n) s = .next (settled .checking)) ∧
    (∀ rest, e.duties = .releaseClaim :: rest → exec (.claimRelease n) s = .next (
      let w := (s.setClaim n none).updEngine n (fun e => { e with duties := rest })
      if rest = [] then w.endTransaction n else w)) ∧
    (e.awaiting ≠ .hotlist → exec (.hotlistLookup n) s = .next s) ∧
    (e.awaiting ≠ .claim → exec (.claimRequest n) s = .next s) ∧
    (e.duties.head? ≠ some .releaseClaim → exec (.claimRelease n) s = .next s)

/-- Check 15 settles an OPEN slot of the card by its counter and image; then the counter check, and checks 18 to 22 in the bound
table, where a transaction without one is refused UNKNOWN PRODUCT (log 36); the unclosed trip asks the Incident List; a computed
result that passes check 23 goes on to the reservation. Then the rules themselves: bands and fares, the outcomes and charges of an
entry and of an exit, the tests of funds and rides, which incident covers a trip, where the fields of a card stand, and the 56 bytes
of the new image, of which the rules' fields are read back and the others copied. -/
def Obligations.ResolutionLeadsToTheFare : Prop :=
  (∀ (s : State) (n : LaneId) (id : Identity) (m : List Byte) (d : Direction), s.powered = true →
    (s.lane n).engine.identity = some id → (s.lane n).engine.image = some m → (s.lane n).engine.direction = some d →
    let e := (s.lane n).engine
    let now := e.admissionTime.getD 0
    let settled (w : State) (q : Option Nat) (x : Option Landed) : State :=
      w.updEngine n (fun e => { e with related := q, landed := x })
    let computed (w : State) (c : Computed) : State :=
      w.updEngine n (fun e => { e with
        phase := .checking, awaiting := .reservation, grantKind := some .paid, charge := some c.charge
        newImage := some (newBytes m (cardBalance m - c.charge) c.rides c.trip ++ [0, 0, 0, 0, 0, 0, 0, 0]) })
    (e.awaiting ≠ .resolution → exec (.resolutionRequest n) s = .next s) ∧
    (∀ i f em wt ex, e.awaiting = .resolution → s.openSlot id = some i → s.slot i = .opened f em wt ex →
      (cardCounter m = f.newCounter → m.take 56 = f.newImage.take 56 →
        let a := s.closeSlot i .landed n
        let w := settled a.1 a.2 (some ⟨f.direction, f.newCounter⟩)
        exec (.resolutionRequest n) s = .next (if f.direction = d then w.reGrant n .recovered else w.refuseCard n .wrongDirection)) ∧
      (cardCounter m = f.oldCounter → f.oldCounter ≠ f.newCounter →
        let a := s.closeSlot i .notLanded n
        exec (.resolutionRequest n) s = .next ((settled a.1 a.2 none).screenCounter n)) ∧
      (cardCounter m ≠ f.oldCounter → (cardCounter m ≠ f.newCounter ∨ m.take 56 ≠ f.newImage.take 56) →
        let a := s.closeSlot i .conflict n
        exec (.resolutionRequest n) s = .next ((settled a.1 a.2 none).refuseClone n .tearConflict))) ∧
    (e.awaiting = .resolution → s.openSlot id = none →
      (∀ x, s.seenLookup id = some x → cardCounter m < x.counter →
        exec (.resolutionRequest n) s = .next (s.refuseClone n .counterRegression)) ∧
      ((∀ x, s.seenLookup id = some x → x.counter ≤ cardCounter m) →
        (cardCounter m = 16777215 → exec (.resolutionRequest n) s = .next (s.refuseCard n .counterExhausted)) ∧
        (cardCounter m ≠ 16777215 → cardExpiryDay m < now / 86400 →
          exec (.resolutionRequest n) s = .next (s.refuseCard n .cardExpired)) ∧
        (cardCounter m ≠ 16777215 → now / 86400 ≤ cardExpiryDay m → s.boundProduct n = none →
          exec (.resolutionRequest n) s = .next (s.refuseCard n .unknownProduct)) ∧
        (∀ f p, cardCounter m ≠ 16777215 → now / 86400 ≤ cardExpiryDay m → s.boundProduct n = some (f, p) →
          (e.boundLevel.getD 0 < p.privilege → exec (.resolutionRequest n) s = .next (s.refuseCard n .notAdmitted)) ∧
          (p.privilege ≤ e.boundLevel.getD 0 → p.scheme = .periodPass →
            (now / 86400 < cardPassFrom m ∨ cardPassTo m < now / 86400) →
            exec (.resolutionRequest n) s = .next (s.refuseCard n .productNotValid)) ∧
          (p.privilege ≤ e.boundLevel.getD 0 →
            (p.scheme = .periodPass → cardPassFrom m ≤ now / 86400 ∧ now / 86400 ≤ cardPassTo m) →
            exec (.resolutionRequest n) s = .next (
              match tripRules d f p m ((s.seenLookup id).filter (fun x => x.counter == cardCounter m)) now with
              | .reGrant => s.reGrant n .reGranted
              | .refuse r => s.refuseCard n r
              | .unclosed => s.updEngine n (fun e => { e with phase := .checking, awaiting := .incident })
              | .computed c =>
                match fundsRefusal d f p m c with
                | some r => s.refuseCard n r
                | none => computed s c))))) ∧
    (e.awaiting ≠ .incident → exec (.incidentQuery n) s = .next s) ∧
    (e.awaiting = .incident → s.boundProduct n = none →
      exec (.incidentQuery n) s = .next (s.refuseCard n .unknownProduct)) ∧
    (∀ f p, e.awaiting = .incident → s.boundProduct n = some (f, p) →
      let c := unclosedEntry f p m (s.incidents.answer (cardOriginStation m) (cardOriginTime m) now) now
      exec (.incidentQuery n) s = .next (
        match fundsRefusal d f p m c with
        | some r => s.refuseCard n r
        | none => computed s c))) ∧
  (∀ (f : FareTable) (p : Product) (t o : Nat) (b : Band),
    (∀ start before after, f.bands = before ++ (start, b) :: after → start ≤ t % 86400 → (∀ x ∈ after, t % 86400 < x.1) →
      f.band t = b) ∧
    (∀ start before, f.bands = before ++ [(start, b)] → (∀ x ∈ f.bands, t % 86400 < x.1) → f.band t = b) ∧
    f.baseFare o b p = (match b with
      | .peak => f.peakFares.getD ((o - 1) * 16 + (f.zone - 1)) 0
      | .offpeak => f.offpeakFares.getD ((o - 1) * 16 + (f.zone - 1)) 0) * (100 - p.discount) / 100 ∧
    f.maxFare o b = (match b with
      | .peak => f.maxFares.getD (o - 1) 0
      | .offpeak => f.maxFares.getD (16 + (o - 1)) 0)) ∧
  (∀ (f : FareTable) (p : Product) (m : List Byte) (seen : Option SeenEntry) (now : Nat) (d : Direction) (c : Computed),
    let t := Trip.ofImage m
    let near (w x : Nat) : Prop := w ≠ 0 ∧ now - x ≤ 60 * w
    let pass (z : Nat) : Prop := cardPassLow m ≠ 0 ∧ cardPassHigh m ≠ 0 ∧ cardPassLow m ≤ z ∧ z ≤ cardPassHigh m
    let unused (way : Direction) : Prop := ∃ e, seen = some e ∧ e.outcome = .unused ∧ e.direction = way ∧ near f.reentry e.time
    let passback : Prop := (t.originStation = f.station ∧ near f.passback t.originTime) ∨
      (∃ e, seen = some e ∧ e.direction = .entry ∧ (e.outcome = .granted ∨ e.outcome = .passed ∨ e.outcome = .reGranted) ∧
        near f.passback e.time)
    let links : Prop := t.lastStation ≠ 0 ∧ t.lastStation ≠ f.station ∧ t.originStation ≠ f.station ∧
      near p.transferWindow t.lastTime ∧ t.legs < 4
    let rides := if p.scheme = .rideCount then cardRides m - 1 else cardRides m
    let opened : Trip :=
      { t with isOpen := true, originStation := f.station, originZone := f.zone, originTime := now, legs := 1, charged := 0 }
    let noFare : Prop := p.scheme = .staff ∨ p.scheme = .free ∨ p.scheme = .rideCount
    let unclosed (covered : Option Treatment) (charge : Nat) : Prop := unclosedEntry f p m covered now = ⟨charge, rides, opened⟩
    let base := f.baseFare t.originZone (f.band now) p
    let stored := (if p.cap = 0 then base else min base p.cap) - t.charged
    let left (charge : Nat) : Prop := tripRules .exit f p m seen now = .computed ⟨charge, cardRides m,
      { t with isOpen := false, lastStation := f.station, lastTime := now, charged := min 16777215 (t.charged + charge) }⟩
    let after : Int := cardBalance m - c.charge
    (t.isOpen = true → unused .entry → tripRules .entry f p m seen now = .reGrant) ∧
    (t.isOpen = true → ¬ unused .entry → passback → tripRules .entry f p m seen now = .refuse .passback) ∧
    (t.isOpen = true → ¬ unused .entry → ¬ passback → tripRules .entry f p m seen now = .unclosed) ∧
    (t.isOpen = false → links →
      tripRules .entry f p m seen now = .computed ⟨0, rides, { t with isOpen := true, legs := t.legs + 1 }⟩) ∧
    (t.isOpen = false → ¬ links → tripRules .entry f p m seen now = .computed ⟨0, rides, opened⟩) ∧
    (∀ covered, noFare ∨ (p.scheme = .periodPass ∧ pass t.originZone) → unclosed covered 0) ∧
    (¬ noFare → ¬ (p.scheme = .periodPass ∧ pass t.originZone) →
      unclosed (some .waive) 0 ∧ unclosed (some .minimum) f.minFare ∧ unclosed none (f.maxFare t.originZone (f.band now))) ∧
    (t.isOpen = false → unused .exit → t.lastStation = f.station → tripRules .exit f p m seen now = .reGrant) ∧
    (t.isOpen = false → ¬ (unused .exit ∧ t.lastStation = f.station) →
      tripRules .exit f p m seen now = .refuse .exitWithoutEntry) ∧
    (t.isOpen = true → noFare ∨ (p.scheme = .periodPass ∧ pass t.originZone ∧ pass f.zone) → left 0) ∧
    (t.isOpen = true → ¬ noFare → ¬ (p.scheme = .periodPass ∧ pass t.originZone ∧ pass f.zone) → left stored) ∧
    (d = .entry → p.scheme = .rideCount → cardRides m = 0 → fundsRefusal d f p m c = some .noRides) ∧
    (¬ (d = .entry ∧ p.scheme = .rideCount ∧ cardRides m = 0) →
      (after < -(p.floor : Int) → fundsRefusal d f p m c = some .insufficientFunds) ∧
      (-(p.floor : Int) ≤ after →
        (d = .entry → (p.scheme = .storedValue ∨ (p.scheme = .periodPass ∧ ¬ pass f.zone)) →
          fundsRefusal d f p m c = if after < (f.minEntry : Int) then some .insufficientFunds else none) ∧
        (¬ (d = .entry ∧ (p.scheme = .storedValue ∨ (p.scheme = .periodPass ∧ ¬ pass f.zone))) →
          fundsRefusal d f p m c = none)))) ∧
  (∀ (list : IncidentList) (station origin admission : Nat),
    let covers (i : Incident) : Prop := (i.station = 0 ∨ i.station = station) ∧ i.start ≤ origin ∧ origin ≤ i.finish.getD admission
    let answer := list.answer station origin admission
    ((∃ i ∈ list.entries, covers i ∧ i.treatment = .waive) → answer = some .waive) ∧
    ((∃ i ∈ list.entries, covers i) → (∀ i ∈ list.entries, covers i → i.treatment = .minimum) → answer = some .minimum) ∧
    ((∀ i ∈ list.entries, ¬ covers i) → answer = none)) ∧
  (∀ m : List Byte,
    let v (k n : Nat) : Nat := fieldAt m k n
    cardExpiryDay m = v 10 2 ∧ cardProduct m = v 12 1 ∧ cardCounter m = v 13 3 ∧ cardRides m = v 19 1 ∧ cardPassFrom m = v 20 2 ∧
    cardPassTo m = v 22 2 ∧ cardPassLow m = v 24 1 ∧ cardPassHigh m = v 25 1 ∧
    Trip.ofImage m = ⟨v 26 1 == 1, v 27 2, v 29 1, v 30 4, v 34 1, v 35 3, v 38 2, v 40 4⟩ ∧
    (19 ≤ m.length → cardBalance m = if v 16 3 < 8388608 then (v 16 3 : Int) else (v 16 3 : Int) - 16777216)) ∧
  (∀ (m : List Byte) (balance : Int) (rides : Nat) (t : Trip),
    let new := newBytes m balance rides t
    new = m.take 13 ++ be 3 (fieldAt m 13 3 + 1) ++ beSigned 3 balance ++ be 1 rides ++ (m.drop 20).take 6 ++
      ([if t.isOpen then 1 else 0] ++ be 2 t.originStation ++ be 1 t.originZone ++ be 4 t.originTime ++ be 1 t.legs ++
        be 3 t.charged ++ be 2 t.lastStation ++ be 4 t.lastTime) ++ (m.drop 44).take 12 ∧
    (m.length = 64 → new.length = 56 ∧
      (fieldAt m 13 3 ≠ 16777215 → fieldAt new 13 3 = fieldAt m 13 3 + 1) ∧
      (-8388608 ≤ balance → balance ≤ 8388607 → cardBalance new = balance) ∧
      (rides ≤ 255 → cardRides new = rides) ∧
      (t.originStation ≤ 65535 → t.originZone ≤ 255 → t.originTime ≤ 4294967295 → t.legs ≤ 255 → t.charged ≤ 16777215 →
        t.lastStation ≤ 65535 → t.lastTime ≤ 4294967295 → Trip.ofImage new = t)))

/-- Check 24: a gate in FAULT or OUT OF SERVICE and a full Recovery Table refuse the card; else the lowest free slot takes the
write, the check value is made under the key of that moment and fills the last 8 bytes of the image, and the image is given to the
port, which sends WRITE or answers LOST-BEFORE itself. Where no key holds the generation, and where the port answers LOST-BEFORE, the
slot is free again and the refusal's CARD record appended in the same step (log 44), with the model's free value as fare version of a
transaction bound to no table (log 16). -/
def Obligations.ReservationStartsTheWrite : Prop :=
  (∀ (s : State) (n : LaneId) (side : Side) (id : Identity) (m bytes : List Byte) (d : Direction), s.powered = true →
    (s.lane n).engine.side = some side → (s.lane n).engine.identity = some id → (s.lane n).engine.image = some m →
    (s.lane n).engine.direction = some d → (s.lane n).engine.newImage = some bytes →
    let l := s.lane n
    let e := l.engine
    let shut := l.gate.state = .fault ∨ l.gate.state = .outOfService
    let freed (w : State) (r : RefusalCode) (v : Nat) : State :=
      let refused (e : Engine) : Engine := { e with refusal := some r, grantKind := none, charge := none, newImage := none }
      let a := ((w.countRefusal n r).updEngine n refused).append (some n) e.recordFlags (.card ((refused e).cardBody v))
      a.1.updEngine n (fun e => { e with
        cardSeq := a.2, slot := none, phase := .finishing, awaiting := .nothing
        duties := [.seenUpdate] ++ (if (s.claim n).isSome then [.releaseClaim] else []) })
    let endsFreed (r : RefusalCode) : Prop :=
      (∀ v, e.boundVersion = some v → exec (.reservationRequest n) s = .next (freed s r v)) ∧
      (e.boundVersion = none → ∃ v, v < 65536 ∧ exec (.reservationRequest n) s = .next (freed { s with free := s.free + 1 } r v))
    (e.awaiting ≠ .reservation → exec (.reservationRequest n) s = .next s) ∧
    (e.awaiting = .reservation → shut → exec (.reservationRequest n) s = .next (s.refuseCard n .laneClosed)) ∧
    (e.awaiting = .reservation → ¬ shut → (∀ i, s.slot i ≠ .free) →
      exec (.reservationRequest n) s = .next (s.refuseCard n .recoveryFull)) ∧
    (∀ i, e.awaiting = .reservation → ¬ shut → s.slot i = .free → (∀ j, j < i → s.slot j ≠ .free) →
      (s.keyFor (cardGeneration m) = none → endsFreed .unknownKey) ∧
      (∀ k, s.keyFor (cardGeneration m) = some k →
        let image := withCheck k bytes
        let w : State := (s.setSlot i (.reserved
            ⟨id, n, d, cardCounter m, cardCounter m + 1, e.charge.getD 0, image⟩)).updEngine n (fun e => { e with
          phase := .writing, awaiting := .nothing, slot := some i, newImage := some image })
        let answersItself := (l.port side).state ≠ .ready ∨ (l.port side).gone = true ∨ (l.port side).dropped = true
        (answersItself → endsFreed .cardRemoved) ∧
        (¬ answersItself → exec (.reservationRequest n) s = .next
          (w.updPort n side (fun p => { p with exchange := some ⟨.write image, 250⟩ })))))) ∧
  (∀ (k : Key) (bytes : List Byte),
    withCheck k bytes = bytes.take 56 ++ be 8 (checkValue k.material (bytes.take 56)).toNat)

/-- The steps of FINISHING, each made when it is the engine's next: the clone alarm, the CARD record, the seen update and the push,
which a gate in FAULT or OUT OF SERVICE or under the emergency cause refuses. The last step done ends the transaction: RELEASE sent,
the context cleared, the grant place given back, a retiring table released, a waiting reset made, else a waiting offer taken. The
seen update holds the outcome, direction and counter of the transaction's ending. That of an identity absent, or too old and
unmarked, makes a new entry, in a full table in the place of the least recent one
without a mark; where the update leaves the counter unchanged, that of a new entry is the model's free value (log 17). -/
def Obligations.FinishingMakesItsSteps : Prop :=
  (∀ (s : State) (n : LaneId) (id : Identity) (d : Direction) (next : Duty) (rest : List Duty), s.powered = true →
    (s.lane n).engine.identity = some id → (s.lane n).engine.direction = some d →
    let e := (s.lane n).engine
    let g := (s.lane n).gate
    let done (w : State) : State :=
      if rest = [] then (w.updEngine n (fun e => { e with duties := [] })).endTransaction n
      else w.updEngine n (fun e => { e with duties := rest })
    e.duties = next :: rest →
    (next = .localAddition → exec (.localAddition n) s = .next (done
      ((s.addLocal n id).raise .cloneAlarm (.lane n) (be 8 id.toNat ++ [(e.refusal.getD .inUseElsewhere).code])))) ∧
    (∀ v, next = .cardRecord → e.boundVersion = some v → exec (.journalAppend n) s = .next (done
      (let a := s.append (some n) e.recordFlags (.card (e.cardBody v))
       a.1.updEngine n (fun e => { e with cardSeq := a.2 })))) ∧
    (∀ x c, next = .seenUpdate → s.seenLookup id = some x → (e.seenChange n).counter = some c →
      exec (.seenUpdate n) s = .next (done (s.setEntries (s.seen.entries.filter (fun y => y.identity != id) ++
        [{ x with
           time := s.clock.time, lane := n, direction := (e.seenChange n).direction, outcome := (e.seenChange n).outcome
           counter := max x.counter c, cloneSuspect := x.cloneSuspect || e.clone }])))) ∧
    (∀ c, next = .seenUpdate → (∀ x ∈ s.seen.entries, x.identity ≠ id) → s.seen.entries.length < 8192 →
      (e.seenChange n).counter = some c →
      exec (.seenUpdate n) s = .next (done (s.setEntries (s.seen.entries ++
        [⟨id, c, s.clock.time, n, (e.seenChange n).direction, (e.seenChange n).outcome, e.clone, none⟩])))) ∧
    (next = .push → g.state = .fault ∨ g.state = .outOfService ∨ g.emergency = true →
      exec (.grantPush n) s = .next (done (
        let w := (s.updGate n (fun g => { g with place := false })).settleGate n
        { w with seen := { s.seen with inbox := s.seen.inbox ++ [⟨false, id, n, d, s.clock.time⟩] } }))) ∧
    (next = .push → g.state ≠ .fault → g.state ≠ .outOfService → g.emergency = false →
      exec (.grantPush n) s = .next (done (((s.updGate n (fun g => { g with
          place := false
          queue := g.queue ++ [⟨some id, d, e.grantKind.getD .paid, s.clock.time, e.cardSeq⟩]
          state := if g.state = .heldOpen then .heldOpen else .opened
          openTimer := if g.state = .heldOpen then g.openTimer else some ((s.lane n).config.openTime * 1000) })).settleGate
        n).updEngine n (fun e => { e with grantQueued := true }))))) ∧
  (∀ (s : State) (n : LaneId) (id : Identity) (rest : List Duty), s.powered = true → (s.lane n).engine.identity = some id →
    (s.lane n).engine.duties = .seenUpdate :: rest →
    let e := (s.lane n).engine
    let change := e.seenChange n
    let done (w : State) : State :=
      if rest = [] then (w.updEngine n (fun e => { e with duties := [] })).endTransaction n
      else w.updEngine n (fun e => { e with duties := rest })
    let absent := ∀ x ∈ s.seen.entries, x.identity = id → s.older x = true ∧ x.tearPending = none
    let others := s.seen.entries.filter (fun y => y.identity != id)
    let made (c : Nat) : SeenEntry := ⟨id, c, s.clock.time, n, change.direction, change.outcome, e.clone, none⟩
    (∀ c, absent → others.length < 8192 → change.counter = some c →
      exec (.seenUpdate n) s = .next (done (s.setEntries (others ++ [made c])))) ∧
    (∀ c before old more, absent → 8192 ≤ others.length → change.counter = some c → others = before ++ old :: more →
      (∀ x ∈ before, x.tearPending ≠ none) → old.tearPending = none →
      exec (.seenUpdate n) s = .next (done (s.setEntries (before ++ more ++ [made c])))) ∧
    (absent → others.length < 8192 → change.counter = none → ∃ v, v ≤ 16777215 ∧
      exec (.seenUpdate n) s = .next (done ({ s with free := s.free + 1 }.setEntries (others ++ [made v])))) ∧
    (∀ x before after, s.seen.entries = before ++ x :: after → (∀ y ∈ before, y.identity ≠ id) → x.identity = id →
      (s.older x = false ∨ x.tearPending ≠ none) →
      exec (.seenUpdate n) s = .next (done (s.setEntries (others ++ [{ x with
        time := s.clock.time, lane := n, direction := change.direction, outcome := change.outcome
        counter := max x.counter (change.counter.getD 0), cloneSuspect := x.cloneSuspect || e.clone }]))))) ∧
  (∀ (s : State) (n : LaneId) (r : RefusalCode) (duties : List Duty),
    let w := (s.countRefusal n r).updEngine n (fun e => { e with
      refusal := some r, grantKind := none, charge := none, newImage := none
      phase := .finishing, awaiting := .nothing, duties := duties })
    let counted := (s.lane n).refusals[r.index.val]
    let raised := if counted < 4294967295 then counted + 1 else counted
    s.countRefusal n r = s.setLane n { s.lane n with refusals := (s.lane n).refusals.set r.index.val raised } ∧
    s.refuse n r duties = (if duties = [] then w.endTransaction n else w)) ∧
  (∀ (s : State) (n : LaneId) (side : Side), (s.lane n).engine.side = some side →
    let l := s.lane n
    let p := l.port side
    let released : Port := { p with
      releases := p.releases ++ [if l.engine.grantQueued then Release.go else Release.stop], gone := false, dropped := false }
    let ended : Lane := { l.setPort side released with
      engine := { Engine.reset with lineTaken := l.engine.lineTaken, lineIn := l.engine.lineIn }
      gate := { l.gate with place := false } }
    let b := (s.setLane n ended.settle).releaseBinding
    let x := b.lane n
    let offerOf (side : Side) : Option Offer := x.waiting.find? (fun o => o.side == side)
    let takes (o : Offer) : Prop :=
      (x.gate.lock = .s ∧ offerOf .s = some o) ∨ (x.gate.lock = .p ∧ offerOf .p = some o) ∨
      (¬ (x.gate.lock = .s ∧ offerOf .s ≠ none) ∧ ¬ (x.gate.lock = .p ∧ offerOf .p ≠ none) ∧ x.waiting.head? = some o)
    (∀ k, l.resetting = some k → s.endTransaction n = b.resetLane n k) ∧
    (l.resetting = none → x.waiting = [] → s.endTransaction n = b) ∧
    (∀ offered, l.resetting = none → b.ready = true → takes offered → s.endTransaction n = b.setLane n { x with
      waiting := x.waiting.filter (fun o => o.side != offered.side)
      engine := { x.engine with
        phase := .admitting, awaiting := .admission, side := some offered.side, presence := some offered.presence
        identity := match offered.presence with
          | .card id => some id
          | _ => none } }) ∧
    (∀ offered, l.resetting = none → b.ready = false → x.waiting = [offered] → s.endTransaction n =
      (b.setLane n ({ x with waiting := [] }.setPort offered.side
        { x.port offered.side with releases := (x.port offered.side).releases ++ [Release.stop] })).countRefusal n
        .partNotReady)) ∧
  (∀ (s : State) (old : FareTable),
    let bound (version : Nat) : Prop := ∃ n, (s.lane n).engine.boundVersion = some version
    let without : State := { s with fare := { s.fare with retiring := none } }
    (s.fare.retiring = none → s.releaseBinding = s) ∧
    (s.fare.retiring = some old → bound old.version → s.releaseBinding = s) ∧
    (s.fare.retiring = some old → ¬ bound old.version →
      (¬ (s.initialising = true ∧ s.proc.initStage = 2) → s.releaseBinding = without.considerActivation) ∧
      (s.initialising = true → s.proc.initStage = 2 →
        (s.fare.active = none → s.releaseBinding =
          ({ s with fare := ⟨none, .none, none⟩, proc := { s.proc with initStage := 3 } }.settleReadiness s.ready)) ∧
        (∀ table, s.fare.active = some table → bound table.version → s.releaseBinding =
          ({ s with fare := ⟨none, .none, some table⟩, proc := { s.proc with initStage := 3 } }.settleReadiness s.ready)) ∧
        (∀ table, s.fare.active = some table → ¬ bound table.version → s.releaseBinding =
          ({ s with fare := ⟨none, .none, none⟩, proc := { s.proc with initStage := 3 } }.settleReadiness s.ready))))) ∧
  (∀ (e : Engine) (n : LaneId) (m : List Byte) (id : Identity) (d : Direction),
    e.image = some m → e.identity = some id → e.direction = some d →
    let read := fieldAt m 13 3
    let change (outcome : SeenOutcome) (way : Direction) (counter : Option Nat) : Prop :=
      e.seenChange n = ⟨id, n, way, outcome, counter, e.clone⟩
    (e.refusal = some .counterRegression ∨ e.refusal = some .tearConflict → change .refused d none) ∧
    (∀ r, e.refusal = some r → r ≠ .counterRegression → r ≠ .tearConflict →
      (e.landed = none → change .refused d (some read)) ∧
      (∀ x, e.landed = some x → change .unused x.direction (some x.newCounter))) ∧
    (e.refusal = none → e.grantKind = some .paid → change (if e.emergency then .unused else .granted) d (some (read + 1))) ∧
    (∀ x, e.refusal = none → e.grantKind = some .recovered → e.landed = some x → change .reGranted d (some x.newCounter)) ∧
    (e.refusal = none → e.grantKind = some .reGranted → change .reGranted d (some read)))

/-- A passage or forfeiture update is applied, with the time it carries, to an entry of its lane and direction that is not too old; slots whose time has come
expire in ascending order, each giving its place, its mark, one TEAR UNRESOLVED record and its event; a sweep removes what is too old
and holds no mark. A slot that closes, whatever its outcome, appends its TEAR record, becomes FREE and loses its mark, and LANDED
raises the seen counter; a local addition of an identity not listed is appended with its LOCAL ADD record, after the eviction of the
oldest entry from a list of 64. -/
def Obligations.TablesAreKeptUp : Prop :=
  (∀ s : State, s.powered = true →
    (s.seen.inbox = [] → exec .passageForfeitureUpdate s = .next s) ∧
    (∀ u rest, s.seen.inbox = u :: rest →
      (∀ x, s.seenLookup u.identity = some x → x.lane = u.lane → x.direction = u.direction →
        exec .passageForfeitureUpdate s = .next { s with seen := { s.seen with
          inbox := rest
          entries := s.seen.entries.filter (fun y => y.identity != u.identity) ++
            [{ x with outcome := if u.passed then .passed else .unused, time := u.time }] } }) ∧
      ((∀ x, s.seenLookup u.identity = some x → ¬ (x.lane = u.lane ∧ x.direction = u.direction)) →
        exec .passageForfeitureUpdate s = .next { s with seen := { s.seen with inbox := rest } })) ∧
    (let due : List SlotId := ([0, 1, 2, 3, 4, 5, 6, 7] : List SlotId).filter s.slotDue
     let tear (i : SlotId) : List RecordBody := match s.slot i with
       | .opened f _ _ _ => [.tear ⟨.unresolved, f.identity, f.oldCounter, f.newCounter, f.charge, f.lane, f.direction⟩]
       | _ => []
     let event (i : SlotId) : List Event := match s.slot i with
       | .opened f _ _ _ => [⟨.tearUnresolved, .lane f.lane, be 8 f.identity.toNat ++ be 1 i.val ++ be 3 f.newCounter⟩]
       | _ => []
     let expired (w : State) (i : SlotId) : State := match s.slot i with
       | .opened f em _ _ =>
         { w.record (some f.lane) { RecordFlags.clear with emergency := em }
             (.tear ⟨.unresolved, f.identity, f.oldCounter, f.newCounter, f.charge, f.lane, f.direction⟩) with
           recovery := w.recovery.set i .free
           seen := { w.seen with entries := w.seen.entries.map (fun (e : SeenEntry) =>
             if e.identity = f.identity then { e with tearPending := none } else e) } }.raise .tearUnresolved (.lane f.lane)
           (be 8 f.identity.toNat ++ be 1 i.val ++ be 3 f.newCounter)
       | _ => w
     exec .slotExpiry s = .next (due.foldl expired s) ∧
     ∃ t, exec .slotExpiry s = .next t ∧
      (∀ i, t.slot i = if s.slotDue i = true then .free else s.slot i) ∧
      (∀ i, s.slotDue i = true ↔ ∃ f em wt x, s.slot i = .opened f em wt (some x) ∧ s.clock.valid = true ∧ x ≤ s.clock.time) ∧
      t.seen.entries = s.seen.entries.map (fun (e : SeenEntry) =>
        if slotIds.any (fun i => s.slotDue i && (match s.slot i with
            | .opened f _ _ _ => f.identity == e.identity
            | _ => false)) then
          { e with tearPending := none } else e) ∧
      s.journal.records <+: t.journal.records ∧
      (s.journal.gapCount = 0 → s.journal.count + due.length ≤ 32768 → s.journal.next + due.length ≤ 4294967296 →
        t.journal.records.map (·.body) = s.journal.records.map (·.body) ++ due.flatMap tear) ∧
      t.notices.inbox.filter (fun e => e.kind == .tearUnresolved) =
        s.notices.inbox.filter (fun e => e.kind == .tearUnresolved) ++ due.flatMap event ∧
      { t with recovery := s.recovery, seen := s.seen, journal := s.journal, notices := s.notices } = s) ∧
    exec .seenSweep s = .next (
      if s.seen.sweepDue = true ∧ s.clock.valid = true then
        { s with seen := { s.seen with
          entries := s.seen.entries.filter (fun (e : SeenEntry) => e.tearPending.isSome || decide (s.clock.time - e.time ≤ 60 * s.retention))
          sweepDue := false } }
      else s)) ∧
  (∀ (s : State) (i : SlotId) (f : SlotFields) (em : Bool) (wt ex : Option Nat) (outcome : TearOutcome) (lane : LaneId),
    s.slot i = .opened f em wt ex →
    let a := s.append (some lane) { RecordFlags.clear with emergency := em, clone := decide (outcome = .conflict) }
      (.tear ⟨outcome, f.identity, f.oldCounter, f.newCounter, if outcome = .landed ∨ outcome = .unresolved then f.charge else 0,
        f.lane, f.direction⟩)
    s.closeSlot i outcome lane = ({ a.1 with
      recovery := s.recovery.set i .free
      seen := { s.seen with entries := s.seen.entries.map (fun (e : SeenEntry) =>
        if e.identity = f.identity then
          { e with tearPending := none, counter := if outcome = .landed then max e.counter f.newCounter else e.counter }
        else e) } }, a.2)) ∧
  (∀ (s : State) (n : LaneId) (id : Identity),
    let listed := id ∈ s.hot.active.ids ∨ ∃ e ∈ s.hot.locals, e.identity = id
    let added (w : State) (list : List LocalEntry) : State :=
      { w with hot := { s.hot with locals := list ++ [LocalEntry.mk id s.clock.time n] } }.record (some n) RecordFlags.clear (.listLocalAdd id)
    (listed → s.addLocal n id = s) ∧
    (¬ listed → s.hot.locals.length < 64 → s.addLocal n id = added s s.hot.locals) ∧
    (∀ oldest rest, ¬ listed → 64 ≤ s.hot.locals.length → s.hot.locals = oldest :: rest → s.addLocal n id =
      added (({ s with hot := { s.hot with locals := rest } }.record none RecordFlags.clear (.listLocalEvict oldest.identity)).raise
        .localHotlistEvict .part (be 8 oldest.identity.toNat)) rest))

/-! ### The gate's timers, beams and passages -/

/-- The open timer's expiry forfeits the queue and closes; the motion timer's puts the gate in FAULT with its record and event; the
actuator's report stops the motion timer when it matches the command and starts it when the match is lost. -/
def Obligations.GateTimersAndActuatorAct : Prop :=
  ∀ (s : State) (n : LaneId) (gsa gsb : Bool), s.powered = true →
    let l := s.lane n
    let g := l.gate
    let agrees (a b : Bool) : Bool :=
      match g.command with
      | .opened => a && !b
      | .closed => !a && b
    let motion : Option Nat :=
      if agrees gsa gsb then none
      else if agrees l.inputs.gsa l.inputs.gsb = true ∧ g.motion = none ∧ g.state ≠ .fault then
        some (l.config.motionTimeout * 100)
      else g.motion
    (g.openTimer = none → exec (.openTimerExpiry n) s = .next s) ∧
    (g.openTimer ≠ none → exec (.openTimerExpiry n) s = .next (
      (((s.setLane n { l with gate := { g with openTimer := none } }).forfeit n .timer).updGate n
        (fun g => { g with state := .closing })).settleGate n)) ∧
    (g.motion = none → exec (.motionTimerExpiry n) s = .next s) ∧
    (g.motion ≠ none → exec (.motionTimerExpiry n) s = .next (
      ((((s.setLane n { l with gate := { g with state := .fault, openTimer := none, staffHold := false, motion := none } }).forfeit
        n .fault).record (some n) RecordFlags.clear (.lane (.fault .gate))).raise .gateFault (.lane n) []).settleGate n)) ∧
    exec (.actuatorReport n gsa gsb) s = .next (
      (s.setLane n { l with inputs := { l.inputs with gsa := gsa, gsb := gsb }, gate := { g with motion := motion } }).settleGate n)

/-- A beam's change moves the monitor by its table, hands a completed passage with its occupancy to the gate, counts a balk, and,
when it breaks the beam, opens a closing gate again, but not one in CLOSED (log 30); while the monitor resynchronises it moves nothing
there; the gate then settles as Lane.settle is stated to do, so that a close held by the beams proceeds once both are clear. -/
def Obligations.BeamsMoveTheMonitor : Prop :=
  ∀ (s : State) (n : LaneId) (side : Side) (broken : Bool), s.powered = true →
    let l := s.lane n
    let g := l.gate
    let c : Instr := if broken then .beamBroken n side else .beamClear n side
    let before : Bool := if side = .s then l.inputs.beamS else l.inputs.beamP
    let inputs : LaneInputs := if side = .s then { l.inputs with beamS := broken } else { l.inputs with beamP := broken }
    let x := l.monitor.state
    let y : PassageState := match x, side, broken with
      | .clear, .s, true => .s1
      | .clear, .p, true => .p1
      | .s1, .s, false => .clear
      | .s1, .p, true => .spIn
      | .spIn, .s, false => .p2
      | .spIn, .p, false => .s1
      | .p2, .s, true => .spIn
      | .p2, .p, false => .clear
      | .p1, .s, true => .psOut
      | .p1, .p, false => .clear
      | .psOut, .s, false => .p1
      | .psOut, .p, false => .s2
      | .s2, .s, false => .clear
      | .s2, .p, true => .psOut
      | z, _, _ => z
    let passage : List Passage := match x, side, broken with
      | .p2, .p, false => [⟨.entry, l.monitor.occupancy.getD 0⟩]
      | .s2, .s, false => [⟨.exit, l.monitor.occupancy.getD 0⟩]
      | _, _, _ => []
    let balk : Bool := match x, side, broken with
      | .s1, .s, false => true
      | .p1, .p, false => true
      | _, _, _ => false
    let monitor : Monitor :=
      if l.monitor.resync then { l.monitor with resync := broken || inputs.beamS || inputs.beamP }
      else ⟨y, false, if y = .clear then none else if x = .clear then some 0 else l.monitor.occupancy⟩
    let reverses := broken = true ∧ g.command = .closed ∧ g.motion ≠ none ∧ g.state ≠ .closed
    let moved : Lane := { l with
      inputs := inputs
      monitor := monitor
      gate := { g with
        passages := g.passages ++ (if l.monitor.resync then [] else passage)
        command := if reverses then .opened else g.command
        motion :=
          if reverses then
            (if g.state = .fault ∨ (l.inputs.gsa = true ∧ l.inputs.gsb = false) then none else some (l.config.motionTimeout * 100))
          else g.motion }
      counters := { l.counters with balk :=
        if l.monitor.resync = false ∧ balk = true ∧ l.counters.balk < 4294967295 then l.counters.balk + 1 else l.counters.balk } }
    (before = broken → exec c s = .next s) ∧
    (before ≠ broken → exec c s = .next (s.setLane n moved.settle)) ∧
    (before ≠ broken → broken = false → inputs.beamS = false → inputs.beamP = false → g.state = .closing ∨ g.state = .closed →
      moved.settle.gate.command = .closed)

/-- A completed passage is classified by the first line of the table that applies: what it consumes, counts, records and raises. That
the two assertion counts stop at 4,294,967,295 as the nine passage counters do is the model's choice, log 53. -/
def Obligations.PassagesAreClassified : Prop :=
  ∀ (s : State) (n : LaneId) (p : Passage) (rest : List Passage), s.powered = true →
    (s.lane n).gate.passages = p :: rest →
    let g := (s.lane n).gate
    let w := s.setLane n { s.lane n with gate := { g with passages := rest } }
    let count (x : Nat) : Nat := if x < 4294967295 then x + 1 else x
    let granted := ∃ x more, g.queue = x :: more ∧ x.direction = p.direction
    let recorded (t : State) (cls : PassageClass) (kind : NoticeKind) : State :=
      (t.record (some n) RecordFlags.clear (.passage cls p.direction p.occupancy)).raise kind (.lane n)
        ([if p.direction = .entry then 0 else 1] ++ be 2 p.occupancy)
    let ends (t : State) (f : Counters → Counters) : Prop :=
      exec (.passageCompleted n) s = .next ((t.updCounters n f).settleGate n)
    let consumed (x : Grant) (more : List Grant) : State :=
      let t := w.updGate n (fun g =>
        { g with queue := more
                 state := if g.state = .opened ∧ more = [] then .closing else g.state
                 openTimer := if g.state = .opened ∧ more = [] then none else g.openTimer })
      match x.identity with
      | some id => { t with seen := { s.seen with inbox := s.seen.inbox ++ [⟨true, id, n, x.direction, s.clock.time⟩] } }
      | none => t
    (g.emergency = true → ends w (fun c => { c with
      emergency := count c.emergency
      emergencyEntry := if p.direction = .entry then count c.emergencyEntry else c.emergencyEntry
      emergencyExit := if p.direction = .exit then count c.emergencyExit else c.emergencyExit })) ∧
    (g.emergency = false → g.state = .heldOpen →
      (¬ granted → ends w (fun c => { c with held := count c.held })) ∧
      (∀ x more, g.queue = x :: more → x.direction = p.direction →
        ends (consumed x more) (fun c => { c with held := count c.held }))) ∧
    (∀ x more, g.emergency = false → g.state ≠ .heldOpen → g.queue = x :: more → x.direction = p.direction →
      (p.occupancy ≤ (s.lane n).config.tailgate * 100 → ends (consumed x more) (fun c => { c with paid := count c.paid })) ∧
      ((s.lane n).config.tailgate * 100 < p.occupancy →
        ends (recorded (consumed x more) .tailgateSuspect .tailgateSuspect)
          (fun c => { c with paid := count c.paid, tailgateSuspect := count c.tailgateSuspect }))) ∧
    (g.emergency = false → ¬ granted → (g.state = .closed ∨ g.state = .outOfService ∨ g.state = .fault) →
      ends (recorded w .forced .forcedPassage) (fun c => { c with forced := count c.forced })) ∧
    (g.emergency = false → ¬ granted → (g.state = .opened ∨ g.state = .closing) →
      (g.queue ≠ [] → ends (recorded w .counterflow .counterflow) (fun c => { c with counterflow := count c.counterflow })) ∧
      (g.queue = [] → ends (recorded w .unpaid .unpaidPassage) (fun c => { c with unpaid := count c.unpaid })))

/-! ### The emergency line -/

/-- A change of the line's level starts or stops the settling timer; a line that has settled is taken: the change handed to every
gate, every engine and the Incident List, with its EMERGENCY record and its event. -/
def Obligations.EmergencyLineIsTaken : Prop :=
  ∀ (s : State) (low : Bool), s.powered = true →
    let e := s.emergency
    let handed (c : LineChange) (w : State) : State := { w with
      lanes := w.lanes.map (fun l => { l with
        gate := { l.gate with lineIn := l.gate.lineIn ++ [c] }
        engine := { l.engine with lineIn := l.engine.lineIn ++ [c] } })
      incidents := { w.incidents with lineIn := w.incidents.lineIn ++ [c] } }
    exec (.emrgnChange low) s = .next (
      if e.rawLow = low then s
      else { s with emergency := { e with rawLow := low, settling := if low = e.taken then none else some 50 } }) ∧
    (e.settling ≠ none → e.rawLow = true → e.taken = false →
      exec .emergencyAssertionTaken s = .next (
        ((handed .assertion { s with emergency := { e with
            settling := none, taken := true, assertedAt := if s.clock.valid then some s.clock.time else none } }).record
          none RecordFlags.clear .emergencyStart).raise .emergencyChange .part [1])) ∧
    (e.settling = none ∨ e.rawLow = false ∨ e.taken = true → exec .emergencyAssertionTaken s = .next s) ∧
    (e.settling ≠ none → e.rawLow = false → e.taken = true →
      exec .emergencyReleaseTaken s = .next (
        ((handed .release { s with emergency := { e with settling := none, taken := false, assertedAt := none } }).record
          none RecordFlags.clear (.emergencyEnd e.assertedAt)).raise .emergencyChange .part [0])) ∧
    (e.settling = none ∨ e.rawLow = true ∨ e.taken = false → exec .emergencyReleaseTaken s = .next s)

/-- Each receiver takes the oldest change handed to it: the gate holds open with its queue forfeited, or records its summary and
leaves; the engine abandons, or in WRITING sets its flag; the Incident List opens or ends the local incident, or owes it while the
time is invalid. A full list evicts its oldest ended entry, else its oldest, and the next number is one that no entry holds. An
abandoned transaction ends its READ and completes a resolution before it is refused, with a CARD record and a seen update when its
identity is verified and its claim released. Three of these clauses are the model's choice: that the search for the next number is made
at the opening (log 27), that an abandonment ends the READ at the port (log 21), and that a CONFLICT found at an abandonment raises no
clone alarm (log 22). -/
def Obligations.ReceiversTakeTheLine : Prop :=
  (∀ (s : State) (n : LaneId) (rest : List LineChange), s.powered = true →
    let l := s.lane n
    let g := l.gate
    let e := l.engine
    let list := s.incidents
    let without : State := { s with incidents := { list with lineIn := rest } }
    let localOpen := ∃ i ∈ list.entries, i.origin = .fromLine ∧ i.finish = none
    (g.lineIn = .assertion :: rest → exec (.gateTakesAssertion n) s = .next (
      (((((s.setLane n { l with gate := { g with lineIn := rest, emergency := true, openTimer := none } }).forfeit n
        .emergency).updGate n (fun g => { g with
          state := if g.state = .outOfService then .outOfService else if g.state = .fault then .fault else .heldOpen })).updCounters
        n (fun c => { c with emergencyEntry := 0, emergencyExit := 0 })).settleGate n))) ∧
    (g.lineIn = .release :: rest → exec (.gateTakesRelease n) s = .next (
      (((s.setLane n { l with gate := { g with lineIn := rest } }).record (some n) RecordFlags.clear
        (.emergencySummary l.counters.emergencyEntry l.counters.emergencyExit)).updGate n (fun g => { g with
          emergency := false
          state := if g.state = .heldOpen ∧ g.staffHold = false then .closing else g.state })).settleGate n)) ∧
    (e.lineIn = .assertion :: rest →
      let took : Engine := { e with lineIn := rest, lineTaken := true }
      (e.phase = .idle ∨ e.phase = .finishing →
        exec (.engineTakesAssertion n) s = .next (s.setLane n { l with engine := took })) ∧
      (e.phase = .writing →
        exec (.engineTakesAssertion n) s = .next (s.setLane n { l with engine := { took with emergency := true } })) ∧
      (e.phase = .admitting ∨ e.phase = .reading ∨ e.phase = .checking ∨ e.phase = .resolving →
        exec (.engineTakesAssertion n) s = .next
          ((s.setLane n { l with engine := { took with emergency := true } }).abandon n .emergency))) ∧
    (e.lineIn = .release :: rest → exec (.engineTakesRelease n) s = .next
      (s.setLane n { l with engine := { e with lineIn := rest, lineTaken := false } })) ∧
    (list.lineIn = .assertion :: rest →
      (s.clock.valid = false → exec .incidentTakesAssertion s = .next { without with
        emergency := { s.emergency with owed := true } }) ∧
      (s.clock.valid = true → localOpen → exec .incidentTakesAssertion s = .next without) ∧
      (s.clock.valid = true → ¬ localOpen → list.entries.length < 16 → ∃ next,
        exec .incidentTakesAssertion s = .next { s with incidents := ⟨list.entries ++
          [⟨list.next, (s.fare.active.map (·.station)).getD 0, s.clock.time, none, .waive, .fromLine⟩], next, rest⟩ })) ∧
    (list.lineIn = .release :: rest →
      (s.clock.valid = false → exec .incidentTakesRelease s = .next { without with
        emergency := { s.emergency with owed := false } }) ∧
      (s.clock.valid = true → exec .incidentTakesRelease s = .next { s with incidents := { list with
        lineIn := rest
        entries := list.entries.map (fun i =>
          if i.origin = .fromLine ∧ i.finish = none then { i with finish := some s.clock.time } else i) } }))) ∧
  (∀ (s : State) (rest : List LineChange), s.powered = true → s.incidents.lineIn = .assertion :: rest → s.clock.valid = true →
    let list := s.incidents
    let opened := Incident.mk list.next ((s.fare.active.map (·.station)).getD 0) s.clock.time none .waive .fromLine
    let after := if 65535 ≤ list.next then 1 else list.next + 1
    let made (room : List Incident) : Prop := ∃ next,
      exec .incidentTakesAssertion s = .next { s with incidents := ⟨room ++ [opened], next, rest⟩ } ∧
      ((∀ i ∈ room ++ [opened], i.number ≠ after) → next = after) ∧ (room.length ≤ 15 → ∀ i ∈ room ++ [opened], i.number ≠ next)
    (∀ i ∈ list.entries, ¬ (i.origin = .fromLine ∧ i.finish = none)) →
    (list.entries.length < 16 → made list.entries) ∧
    (∀ before old more, 16 ≤ list.entries.length → list.entries = before ++ old :: more → old.finish ≠ none →
      (∀ i ∈ before, i.finish = none) → made (before ++ more)) ∧
    (∀ old more, 16 ≤ list.entries.length → list.entries = old :: more → (∀ i ∈ list.entries, i.finish = none) → made more)) ∧
  (∀ (s : State) (n : LaneId) (r : RefusalCode) (side : Side), (s.lane n).engine.side = some side →
    let l := s.lane n
    let p := l.port side
    let claimed (w : State) : List Duty := if (w.claim n).isSome then [.releaseClaim] else []
    let duties (w : State) : List Duty :=
      (if (w.lane n).engine.verified = true then [.cardRecord, .seenUpdate] else []) ++ claimed w
    let outstanding := ∃ timer, p.exchange = some ⟨.read, timer⟩
    let ended : State := s.setLane n (l.setPort side { p with exchange := none })
    (l.engine.phase ≠ .resolving → outstanding → s.abandon n r = ended.refuse n r (duties s)) ∧
    (l.engine.phase ≠ .resolving → ¬ outstanding → s.abandon n r = s.refuse n r (duties s)) ∧
    (∀ id m i f em wt ex, l.engine.phase = .resolving → ¬ outstanding → l.engine.identity = some id → l.engine.image = some m →
      s.openSlot id = some i → s.slot i = .opened f em wt ex →
      let resolved (outcome : TearOutcome) (x : Option Landed) : State :=
        let a := s.closeSlot i outcome n
        let w := a.1.updEngine n (fun e => { e with related := a.2, landed := x })
        w.refuse n r (duties w)
      (cardCounter m = f.newCounter → m.take 56 = f.newImage.take 56 →
        s.abandon n r = resolved .landed (some ⟨f.direction, f.newCounter⟩)) ∧
      (cardCounter m = f.oldCounter → f.oldCounter ≠ f.newCounter → s.abandon n r = resolved .notLanded none) ∧
      (cardCounter m ≠ f.oldCounter → (cardCounter m ≠ f.newCounter ∨ m.take 56 ≠ f.newImage.take 56) →
        s.abandon n r = resolved .conflict none)) ∧
    (l.engine.phase = .resolving → ¬ outstanding → (∀ id, l.engine.identity = some id → s.openSlot id = none) →
      s.abandon n r = s.refuse n r (duties s)))

/-! ### Power -/

/-- POWER_ON starts the volatile state afresh with the line rate of the straps, keeps the nonvolatile state, and turns every RESERVED
slot into an OPEN one with its times pending, its identity's seen entry marked or made; the seen entries of other identities stay.
NVWP's level at power-on is an operand of the command, the model's choice: log 11. POWER_LOSS keeps the nonvolatile state and stops
the part, with what is volatile cleared in that step, the model's choice: log 31. -/
def Obligations.PowerKeepsTheNonvolatile : Prop :=
  ∀ (s : State) (slb1 slb0 nvwp : Bool),
    let kept (t : State) : Prop :=
      (∀ n, (t.lane n).config = (s.lane n).config) ∧ (∀ n, (t.lane n).inputs = (s.lane n).inputs) ∧
      t.hot.active = s.hot.active ∧ t.hot.locals = s.hot.locals ∧ t.fare.active = s.fare.active ∧
      (∀ table time, s.fare.pending = .waiting table time → t.fare.pending = .waiting table time) ∧
      t.incidents.entries = s.incidents.entries ∧ t.incidents.next = s.incidents.next ∧ t.keys = s.keys ∧
      t.journal.limit = s.journal.limit ∧ t.journal.thresholdA = s.journal.thresholdA ∧
      t.journal.thresholdB = s.journal.thresholdB ∧ t.window = s.window ∧ t.retention = s.retention ∧
      t.notices.levels = s.notices.levels ∧ t.emergency.rawLow = s.emergency.rawLow
    (∃ t, exec (.powerOn slb1 slb0 nvwp) s = .next t ∧ kept t ∧ t.powered = true ∧ t.nvwp = nvwp ∧
      t.link = ⟨match slb1, slb0 with
        | false, false => 115200
        | false, true => 230400
        | true, false => 460800
        | true, true => 921600, .hunt, 0, 0, [], [], none, none⟩ ∧
      t.proc = ⟨none, Vector.replicate 8 none, none, none, 0⟩ ∧ (∀ n, t.claim n = none) ∧
      t.hot.load = .idle ∧ t.hot.standby = (if s.hot.complete then s.hot.standby else ⟨none, []⟩) ∧ t.fare.retiring = none ∧
      t.clock.time = 0 ∧ t.clock.valid = false ∧ t.clock.hold = 0 ∧ t.notices.conditions = [] ∧ t.notices.pending = [] ∧
      t.emergency.taken = false ∧ t.emergency.assertedAt = none ∧ t.emergency.owed = false ∧
      t.emergency.settling = (if s.emergency.rawLow then some 50 else none) ∧
      (∀ n, (t.lane n).engine = Engine.reset ∧ (t.lane n).waiting = [] ∧ (t.lane n).resetting = none ∧
        (t.lane n).counters = Counters.zero ∧ (t.lane n).refusals = Vector.replicate 30 0 ∧
        (∀ side, ((t.lane n).port side).state = .polling ∧ ((t.lane n).port side).presence = .none ∧
          ((t.lane n).port side).exchange = some ⟨.poll, 250⟩) ∧
        (t.lane n).gate.state = .outOfService ∧ (t.lane n).gate.command = .closed ∧ (t.lane n).gate.queue = [] ∧
        (t.lane n).gate.place = false ∧ (t.lane n).gate.mode = (s.lane n).config.mode ∧
        (t.lane n).monitor.state = .clear) ∧
      (∀ i, t.slot i = match s.slot i with
        | .free => .free
        | .reserved f => .opened f false none none
        | .opened f em wt _ => .opened f em wt none) ∧
      t.seen.inbox = [] ∧ t.seen.sweepDue = false ∧
      ((∀ i f, s.slot i ≠ .reserved f) → t.seen.entries = s.seen.entries) ∧
      (s.seen.entries.length + 8 ≤ 8192 →
        (∀ e ∈ s.seen.entries, (∀ i f, s.slot i = .reserved f → f.identity ≠ e.identity) → e ∈ t.seen.entries) ∧
        (∀ i f, s.slot i = .reserved f → (∀ j g, s.slot j = .reserved g → g.identity = f.identity → j = i) →
          ((∀ e ∈ s.seen.entries, e.identity ≠ f.identity) →
            SeenEntry.mk f.identity f.oldCounter 0 f.lane f.direction .refused false (some i) ∈ t.seen.entries) ∧
          (∀ before e after, s.seen.entries = before ++ e :: after → (∀ x ∈ before, x.identity ≠ f.identity) →
            e.identity = f.identity → { e with tearPending := some i } ∈ t.seen.entries))) ∧
      t.journal = ({ s with clock := { s.clock with valid := false } }.record none RecordFlags.clear .timePowerOn).journal) ∧
    (∃ t, exec .powerLoss s = .next t ∧ kept t ∧ t.powered = false ∧ t.seen.entries = s.seen.entries ∧
      t.recovery = s.recovery ∧ t.journal = s.journal ∧ t.nvwp = s.nvwp)
end

