-- ==== Sys2Proof/Laws/Card.lean ====
section
/-! SUPPORT. What the Card Check Unit's permutation gives (R16): bytes are told apart by their number, and a record changed within one
block has another check value. -/

namespace Sys2Proof.Machine

/-! ### Bytes as a number -/

theorem ofBe_append_byte (bs : List Byte) (b : Byte) : ofBe (bs ++ [b]) = ofBe bs * 256 + b.toNat := by
  simp [ofBe, List.foldl_append]

/-- Lists of one length with one number are one list. -/
theorem ofBe_injective (as : List Byte) : ∀ bs : List Byte, as.length = bs.length → ofBe as = ofBe bs → as = bs := by
  induction as using List.reverseRecOn with
  | nil => intro bs hl _; exact (List.length_eq_zero_iff.1 hl.symm).symm
  | append_singleton as a ih =>
    intro bs hl he
    obtain rfl | ⟨cs, c, rfl⟩ := bs.eq_nil_or_concat'
    · simp at hl
    · simp only [ofBe_append_byte] at he
      have ha := a.isLt
      have hc := c.isLt
      have hac : a.toNat = c.toNat := by omega
      rw [ih cs (by simpa using hl) (by omega), BitVec.eq_of_toNat_eq hac]

theorem ofBe_lt (bs : List Byte) : ofBe bs < 256 ^ bs.length := by
  induction bs using List.reverseRecOn with
  | nil => simp [ofBe]
  | append_singleton bs b ih =>
    rw [ofBe_append_byte, List.length_append, List.length_singleton, pow_succ]
    have := b.isLt
    omega

/-- Two blocks of 8 bytes with one 64-bit value are one block. -/
theorem idOfBytes_injective {x y : List Byte} (hx : x.length = 8) (hy : y.length = 8) (h : idOfBytes x = idOfBytes y) : x = y := by
  have ax := ofBe_lt x
  have ay := ofBe_lt y
  rw [hx] at ax
  rw [hy] at ay
  have e := congrArg BitVec.toNat h
  simp only [idOfBytes, BitVec.toNat_ofNat] at e
  exact ofBe_injective x y (hx.trans hy.symm) (by omega)

/-! ### The chain and the check value (R16) -/

/-- Blocks before the nth give the value that the rest is chained from. -/
theorem chain_append (key : List Byte) (n : Nat) :
    ∀ (k : Nat) (a b : List Byte) (c : BitVec 64), a.length = 8 * k → chain key (k + n) (a ++ b) c = chain key n b (chain key k a c)
  | 0, a, b, c, h => by
    rw [List.length_eq_zero_iff.1 (by simpa using h : a.length = 0), Nat.zero_add]
    rfl
  | k + 1, a, b, c, h => by
    rw [Nat.succ_add]
    simp only [chain]
    rw [List.drop_append_of_le_length (by omega), List.take_append_of_le_length (by omega)]
    exact chain_append key n k (a.drop 8) b _ (by rw [List.length_drop]; omega)

/-- The same blocks take different values to different values. -/
theorem chain_injective (key : List Byte) : ∀ (n : Nat) (bs : List Byte), Function.Injective (chain key n bs)
  | 0, _ => fun _ _ h => h
  | n + 1, bs => fun _ _ h =>
    BitVec.xor_right_inj _ |>.1 ((Config.blockTransform key).injective (chain_injective key n (bs.drop 8) h))

/-- Records that differ within one block have different check values. -/
theorem checkValue_changed_block (key before x y after : List Byte) (k : Nat) (hk : k ≤ 6) (hb : before.length = 8 * k)
    (hx : x.length = 8) (hy : y.length = 8) (h : checkValue key (before ++ x ++ after) = checkValue key (before ++ y ++ after)) :
    x = y := by
  obtain ⟨n, hn⟩ := Nat.exists_eq_add_of_le hk
  have e := (Config.blockTransform (lastInverted key)).injective h
  rw [show 7 = k + (n + 1) by omega, List.append_assoc, List.append_assoc, chain_append _ _ _ _ _ _ hb,
    chain_append _ _ _ _ _ _ hb] at e
  simp only [chain] at e
  rw [List.drop_left' hx, List.drop_left' hy, List.take_left' hx, List.take_left' hy] at e
  exact idOfBytes_injective hx hy
    (BitVec.xor_left_inj _ |>.1 ((Config.blockTransform key).injective (chain_injective key n after e)))

end Sys2Proof.Machine
end

