-- ==== Sys2Proof/Laws/State.lean ====
section
/-! SUPPORT. What each named update of the state writes and leaves: one lemma for each field, true by rfl; and reading back a lane, a
claim or a slot that was set. -/

namespace Sys2Proof.Machine

variable (s : State)

@[simp] theorem setLane_pending (n : LaneId) (l : Lane) : (s.setLane n l).pending = s.pending := rfl
@[simp] theorem setLane_free (n : LaneId) (l : Lane) : (s.setLane n l).free = s.free := rfl
@[simp] theorem setLane_powered (n : LaneId) (l : Lane) : (s.setLane n l).powered = s.powered := rfl
@[simp] theorem setLane_nvwp (n : LaneId) (l : Lane) : (s.setLane n l).nvwp = s.nvwp := rfl
@[simp] theorem setLane_link (n : LaneId) (l : Lane) : (s.setLane n l).link = s.link := rfl
@[simp] theorem setLane_proc (n : LaneId) (l : Lane) : (s.setLane n l).proc = s.proc := rfl
@[simp] theorem setLane_lanes (n : LaneId) (l : Lane) : (s.setLane n l).lanes = s.lanes.set n.val l := rfl
@[simp] theorem setLane_claims (n : LaneId) (l : Lane) : (s.setLane n l).claims = s.claims := rfl
@[simp] theorem setLane_seen (n : LaneId) (l : Lane) : (s.setLane n l).seen = s.seen := rfl
@[simp] theorem setLane_hot (n : LaneId) (l : Lane) : (s.setLane n l).hot = s.hot := rfl
@[simp] theorem setLane_recovery (n : LaneId) (l : Lane) : (s.setLane n l).recovery = s.recovery := rfl
@[simp] theorem setLane_fare (n : LaneId) (l : Lane) : (s.setLane n l).fare = s.fare := rfl
@[simp] theorem setLane_incidents (n : LaneId) (l : Lane) : (s.setLane n l).incidents = s.incidents := rfl
@[simp] theorem setLane_keys (n : LaneId) (l : Lane) : (s.setLane n l).keys = s.keys := rfl
@[simp] theorem setLane_journal (n : LaneId) (l : Lane) : (s.setLane n l).journal = s.journal := rfl
@[simp] theorem setLane_window (n : LaneId) (l : Lane) : (s.setLane n l).window = s.window := rfl
@[simp] theorem setLane_retention (n : LaneId) (l : Lane) : (s.setLane n l).retention = s.retention := rfl
@[simp] theorem setLane_clock (n : LaneId) (l : Lane) : (s.setLane n l).clock = s.clock := rfl
@[simp] theorem setLane_notices (n : LaneId) (l : Lane) : (s.setLane n l).notices = s.notices := rfl
@[simp] theorem setLane_emergency (n : LaneId) (l : Lane) : (s.setLane n l).emergency = s.emergency := rfl

@[simp] theorem setClaim_pending (n : LaneId) (c : Option Identity) : (s.setClaim n c).pending = s.pending := rfl
@[simp] theorem setClaim_free (n : LaneId) (c : Option Identity) : (s.setClaim n c).free = s.free := rfl
@[simp] theorem setClaim_powered (n : LaneId) (c : Option Identity) : (s.setClaim n c).powered = s.powered := rfl
@[simp] theorem setClaim_nvwp (n : LaneId) (c : Option Identity) : (s.setClaim n c).nvwp = s.nvwp := rfl
@[simp] theorem setClaim_link (n : LaneId) (c : Option Identity) : (s.setClaim n c).link = s.link := rfl
@[simp] theorem setClaim_proc (n : LaneId) (c : Option Identity) : (s.setClaim n c).proc = s.proc := rfl
@[simp] theorem setClaim_lanes (n : LaneId) (c : Option Identity) : (s.setClaim n c).lanes = s.lanes := rfl
@[simp] theorem setClaim_claims (n : LaneId) (c : Option Identity) : (s.setClaim n c).claims = s.claims.set n.val c := rfl
@[simp] theorem setClaim_seen (n : LaneId) (c : Option Identity) : (s.setClaim n c).seen = s.seen := rfl
@[simp] theorem setClaim_hot (n : LaneId) (c : Option Identity) : (s.setClaim n c).hot = s.hot := rfl
@[simp] theorem setClaim_recovery (n : LaneId) (c : Option Identity) : (s.setClaim n c).recovery = s.recovery := rfl
@[simp] theorem setClaim_fare (n : LaneId) (c : Option Identity) : (s.setClaim n c).fare = s.fare := rfl
@[simp] theorem setClaim_incidents (n : LaneId) (c : Option Identity) : (s.setClaim n c).incidents = s.incidents := rfl
@[simp] theorem setClaim_keys (n : LaneId) (c : Option Identity) : (s.setClaim n c).keys = s.keys := rfl
@[simp] theorem setClaim_journal (n : LaneId) (c : Option Identity) : (s.setClaim n c).journal = s.journal := rfl
@[simp] theorem setClaim_window (n : LaneId) (c : Option Identity) : (s.setClaim n c).window = s.window := rfl
@[simp] theorem setClaim_retention (n : LaneId) (c : Option Identity) : (s.setClaim n c).retention = s.retention := rfl
@[simp] theorem setClaim_clock (n : LaneId) (c : Option Identity) : (s.setClaim n c).clock = s.clock := rfl
@[simp] theorem setClaim_notices (n : LaneId) (c : Option Identity) : (s.setClaim n c).notices = s.notices := rfl
@[simp] theorem setClaim_emergency (n : LaneId) (c : Option Identity) : (s.setClaim n c).emergency = s.emergency := rfl

@[simp] theorem setSlot_pending (i : SlotId) (x : Slot) : (s.setSlot i x).pending = s.pending := rfl
@[simp] theorem setSlot_free (i : SlotId) (x : Slot) : (s.setSlot i x).free = s.free := rfl
@[simp] theorem setSlot_powered (i : SlotId) (x : Slot) : (s.setSlot i x).powered = s.powered := rfl
@[simp] theorem setSlot_nvwp (i : SlotId) (x : Slot) : (s.setSlot i x).nvwp = s.nvwp := rfl
@[simp] theorem setSlot_link (i : SlotId) (x : Slot) : (s.setSlot i x).link = s.link := rfl
@[simp] theorem setSlot_proc (i : SlotId) (x : Slot) : (s.setSlot i x).proc = s.proc := rfl
@[simp] theorem setSlot_lanes (i : SlotId) (x : Slot) : (s.setSlot i x).lanes = s.lanes := rfl
@[simp] theorem setSlot_claims (i : SlotId) (x : Slot) : (s.setSlot i x).claims = s.claims := rfl
@[simp] theorem setSlot_seen (i : SlotId) (x : Slot) : (s.setSlot i x).seen = s.seen := rfl
@[simp] theorem setSlot_hot (i : SlotId) (x : Slot) : (s.setSlot i x).hot = s.hot := rfl
@[simp] theorem setSlot_recovery (i : SlotId) (x : Slot) : (s.setSlot i x).recovery = s.recovery.set i.val x := rfl
@[simp] theorem setSlot_fare (i : SlotId) (x : Slot) : (s.setSlot i x).fare = s.fare := rfl
@[simp] theorem setSlot_incidents (i : SlotId) (x : Slot) : (s.setSlot i x).incidents = s.incidents := rfl
@[simp] theorem setSlot_keys (i : SlotId) (x : Slot) : (s.setSlot i x).keys = s.keys := rfl
@[simp] theorem setSlot_journal (i : SlotId) (x : Slot) : (s.setSlot i x).journal = s.journal := rfl
@[simp] theorem setSlot_window (i : SlotId) (x : Slot) : (s.setSlot i x).window = s.window := rfl
@[simp] theorem setSlot_retention (i : SlotId) (x : Slot) : (s.setSlot i x).retention = s.retention := rfl
@[simp] theorem setSlot_clock (i : SlotId) (x : Slot) : (s.setSlot i x).clock = s.clock := rfl
@[simp] theorem setSlot_notices (i : SlotId) (x : Slot) : (s.setSlot i x).notices = s.notices := rfl
@[simp] theorem setSlot_emergency (i : SlotId) (x : Slot) : (s.setSlot i x).emergency = s.emergency := rfl

@[simp] theorem raise_pending (k : NoticeKind) (a : Target) (d : List Byte) : (s.raise k a d).pending = s.pending := rfl
@[simp] theorem raise_free (k : NoticeKind) (a : Target) (d : List Byte) : (s.raise k a d).free = s.free := rfl
@[simp] theorem raise_powered (k : NoticeKind) (a : Target) (d : List Byte) : (s.raise k a d).powered = s.powered := rfl
@[simp] theorem raise_nvwp (k : NoticeKind) (a : Target) (d : List Byte) : (s.raise k a d).nvwp = s.nvwp := rfl
@[simp] theorem raise_link (k : NoticeKind) (a : Target) (d : List Byte) : (s.raise k a d).link = s.link := rfl
@[simp] theorem raise_proc (k : NoticeKind) (a : Target) (d : List Byte) : (s.raise k a d).proc = s.proc := rfl
@[simp] theorem raise_lanes (k : NoticeKind) (a : Target) (d : List Byte) : (s.raise k a d).lanes = s.lanes := rfl
@[simp] theorem raise_claims (k : NoticeKind) (a : Target) (d : List Byte) : (s.raise k a d).claims = s.claims := rfl
@[simp] theorem raise_seen (k : NoticeKind) (a : Target) (d : List Byte) : (s.raise k a d).seen = s.seen := rfl
@[simp] theorem raise_hot (k : NoticeKind) (a : Target) (d : List Byte) : (s.raise k a d).hot = s.hot := rfl
@[simp] theorem raise_recovery (k : NoticeKind) (a : Target) (d : List Byte) : (s.raise k a d).recovery = s.recovery := rfl
@[simp] theorem raise_fare (k : NoticeKind) (a : Target) (d : List Byte) : (s.raise k a d).fare = s.fare := rfl
@[simp] theorem raise_incidents (k : NoticeKind) (a : Target) (d : List Byte) : (s.raise k a d).incidents = s.incidents := rfl
@[simp] theorem raise_keys (k : NoticeKind) (a : Target) (d : List Byte) : (s.raise k a d).keys = s.keys := rfl
@[simp] theorem raise_journal (k : NoticeKind) (a : Target) (d : List Byte) : (s.raise k a d).journal = s.journal := rfl
@[simp] theorem raise_window (k : NoticeKind) (a : Target) (d : List Byte) : (s.raise k a d).window = s.window := rfl
@[simp] theorem raise_retention (k : NoticeKind) (a : Target) (d : List Byte) : (s.raise k a d).retention = s.retention := rfl
@[simp] theorem raise_clock (k : NoticeKind) (a : Target) (d : List Byte) : (s.raise k a d).clock = s.clock := rfl
@[simp] theorem raise_notices (k : NoticeKind) (a : Target) (d : List Byte) : (s.raise k a d).notices = { s.notices with inbox := s.notices.inbox ++ [⟨k, a, d⟩] } := rfl
@[simp] theorem raise_emergency (k : NoticeKind) (a : Target) (d : List Byte) : (s.raise k a d).emergency = s.emergency := rfl

@[simp] theorem setEntries_pending (es : List SeenEntry) : (s.setEntries es).pending = s.pending := rfl
@[simp] theorem setEntries_free (es : List SeenEntry) : (s.setEntries es).free = s.free := rfl
@[simp] theorem setEntries_powered (es : List SeenEntry) : (s.setEntries es).powered = s.powered := rfl
@[simp] theorem setEntries_nvwp (es : List SeenEntry) : (s.setEntries es).nvwp = s.nvwp := rfl
@[simp] theorem setEntries_link (es : List SeenEntry) : (s.setEntries es).link = s.link := rfl
@[simp] theorem setEntries_proc (es : List SeenEntry) : (s.setEntries es).proc = s.proc := rfl
@[simp] theorem setEntries_lanes (es : List SeenEntry) : (s.setEntries es).lanes = s.lanes := rfl
@[simp] theorem setEntries_claims (es : List SeenEntry) : (s.setEntries es).claims = s.claims := rfl
@[simp] theorem setEntries_seen (es : List SeenEntry) : (s.setEntries es).seen = { s.seen with entries := es } := rfl
@[simp] theorem setEntries_hot (es : List SeenEntry) : (s.setEntries es).hot = s.hot := rfl
@[simp] theorem setEntries_recovery (es : List SeenEntry) : (s.setEntries es).recovery = s.recovery := rfl
@[simp] theorem setEntries_fare (es : List SeenEntry) : (s.setEntries es).fare = s.fare := rfl
@[simp] theorem setEntries_incidents (es : List SeenEntry) : (s.setEntries es).incidents = s.incidents := rfl
@[simp] theorem setEntries_keys (es : List SeenEntry) : (s.setEntries es).keys = s.keys := rfl
@[simp] theorem setEntries_journal (es : List SeenEntry) : (s.setEntries es).journal = s.journal := rfl
@[simp] theorem setEntries_window (es : List SeenEntry) : (s.setEntries es).window = s.window := rfl
@[simp] theorem setEntries_retention (es : List SeenEntry) : (s.setEntries es).retention = s.retention := rfl
@[simp] theorem setEntries_clock (es : List SeenEntry) : (s.setEntries es).clock = s.clock := rfl
@[simp] theorem setEntries_notices (es : List SeenEntry) : (s.setEntries es).notices = s.notices := rfl
@[simp] theorem setEntries_emergency (es : List SeenEntry) : (s.setEntries es).emergency = s.emergency := rfl

@[simp] theorem updLink_pending (f : Link → Link) : (s.updLink f).pending = s.pending := rfl
@[simp] theorem updLink_free (f : Link → Link) : (s.updLink f).free = s.free := rfl
@[simp] theorem updLink_powered (f : Link → Link) : (s.updLink f).powered = s.powered := rfl
@[simp] theorem updLink_nvwp (f : Link → Link) : (s.updLink f).nvwp = s.nvwp := rfl
@[simp] theorem updLink_link (f : Link → Link) : (s.updLink f).link = f s.link := rfl
@[simp] theorem updLink_proc (f : Link → Link) : (s.updLink f).proc = s.proc := rfl
@[simp] theorem updLink_lanes (f : Link → Link) : (s.updLink f).lanes = s.lanes := rfl
@[simp] theorem updLink_claims (f : Link → Link) : (s.updLink f).claims = s.claims := rfl
@[simp] theorem updLink_seen (f : Link → Link) : (s.updLink f).seen = s.seen := rfl
@[simp] theorem updLink_hot (f : Link → Link) : (s.updLink f).hot = s.hot := rfl
@[simp] theorem updLink_recovery (f : Link → Link) : (s.updLink f).recovery = s.recovery := rfl
@[simp] theorem updLink_fare (f : Link → Link) : (s.updLink f).fare = s.fare := rfl
@[simp] theorem updLink_incidents (f : Link → Link) : (s.updLink f).incidents = s.incidents := rfl
@[simp] theorem updLink_keys (f : Link → Link) : (s.updLink f).keys = s.keys := rfl
@[simp] theorem updLink_journal (f : Link → Link) : (s.updLink f).journal = s.journal := rfl
@[simp] theorem updLink_window (f : Link → Link) : (s.updLink f).window = s.window := rfl
@[simp] theorem updLink_retention (f : Link → Link) : (s.updLink f).retention = s.retention := rfl
@[simp] theorem updLink_clock (f : Link → Link) : (s.updLink f).clock = s.clock := rfl
@[simp] theorem updLink_notices (f : Link → Link) : (s.updLink f).notices = s.notices := rfl
@[simp] theorem updLink_emergency (f : Link → Link) : (s.updLink f).emergency = s.emergency := rfl

@[simp] theorem setHot_pending (h : HotStore) : (s.setHot h).pending = s.pending := rfl
@[simp] theorem setHot_free (h : HotStore) : (s.setHot h).free = s.free := rfl
@[simp] theorem setHot_powered (h : HotStore) : (s.setHot h).powered = s.powered := rfl
@[simp] theorem setHot_nvwp (h : HotStore) : (s.setHot h).nvwp = s.nvwp := rfl
@[simp] theorem setHot_link (h : HotStore) : (s.setHot h).link = s.link := rfl
@[simp] theorem setHot_proc (h : HotStore) : (s.setHot h).proc = s.proc := rfl
@[simp] theorem setHot_lanes (h : HotStore) : (s.setHot h).lanes = s.lanes := rfl
@[simp] theorem setHot_claims (h : HotStore) : (s.setHot h).claims = s.claims := rfl
@[simp] theorem setHot_seen (h : HotStore) : (s.setHot h).seen = s.seen := rfl
@[simp] theorem setHot_hot (h : HotStore) : (s.setHot h).hot = h := rfl
@[simp] theorem setHot_recovery (h : HotStore) : (s.setHot h).recovery = s.recovery := rfl
@[simp] theorem setHot_fare (h : HotStore) : (s.setHot h).fare = s.fare := rfl
@[simp] theorem setHot_incidents (h : HotStore) : (s.setHot h).incidents = s.incidents := rfl
@[simp] theorem setHot_keys (h : HotStore) : (s.setHot h).keys = s.keys := rfl
@[simp] theorem setHot_journal (h : HotStore) : (s.setHot h).journal = s.journal := rfl
@[simp] theorem setHot_window (h : HotStore) : (s.setHot h).window = s.window := rfl
@[simp] theorem setHot_retention (h : HotStore) : (s.setHot h).retention = s.retention := rfl
@[simp] theorem setHot_clock (h : HotStore) : (s.setHot h).clock = s.clock := rfl
@[simp] theorem setHot_notices (h : HotStore) : (s.setHot h).notices = s.notices := rfl
@[simp] theorem setHot_emergency (h : HotStore) : (s.setHot h).emergency = s.emergency := rfl

@[simp] theorem setPending_pending (p : PendingTable) : (s.setPending p).pending = s.pending := rfl
@[simp] theorem setPending_free (p : PendingTable) : (s.setPending p).free = s.free := rfl
@[simp] theorem setPending_powered (p : PendingTable) : (s.setPending p).powered = s.powered := rfl
@[simp] theorem setPending_nvwp (p : PendingTable) : (s.setPending p).nvwp = s.nvwp := rfl
@[simp] theorem setPending_link (p : PendingTable) : (s.setPending p).link = s.link := rfl
@[simp] theorem setPending_proc (p : PendingTable) : (s.setPending p).proc = s.proc := rfl
@[simp] theorem setPending_lanes (p : PendingTable) : (s.setPending p).lanes = s.lanes := rfl
@[simp] theorem setPending_claims (p : PendingTable) : (s.setPending p).claims = s.claims := rfl
@[simp] theorem setPending_seen (p : PendingTable) : (s.setPending p).seen = s.seen := rfl
@[simp] theorem setPending_hot (p : PendingTable) : (s.setPending p).hot = s.hot := rfl
@[simp] theorem setPending_recovery (p : PendingTable) : (s.setPending p).recovery = s.recovery := rfl
@[simp] theorem setPending_fare (p : PendingTable) : (s.setPending p).fare = { s.fare with pending := p } := rfl
@[simp] theorem setPending_incidents (p : PendingTable) : (s.setPending p).incidents = s.incidents := rfl
@[simp] theorem setPending_keys (p : PendingTable) : (s.setPending p).keys = s.keys := rfl
@[simp] theorem setPending_journal (p : PendingTable) : (s.setPending p).journal = s.journal := rfl
@[simp] theorem setPending_window (p : PendingTable) : (s.setPending p).window = s.window := rfl
@[simp] theorem setPending_retention (p : PendingTable) : (s.setPending p).retention = s.retention := rfl
@[simp] theorem setPending_clock (p : PendingTable) : (s.setPending p).clock = s.clock := rfl
@[simp] theorem setPending_notices (p : PendingTable) : (s.setPending p).notices = s.notices := rfl
@[simp] theorem setPending_emergency (p : PendingTable) : (s.setPending p).emergency = s.emergency := rfl

@[simp] theorem setIncidents_pending (l : List Incident) : (s.setIncidents l).pending = s.pending := rfl
@[simp] theorem setIncidents_free (l : List Incident) : (s.setIncidents l).free = s.free := rfl
@[simp] theorem setIncidents_powered (l : List Incident) : (s.setIncidents l).powered = s.powered := rfl
@[simp] theorem setIncidents_nvwp (l : List Incident) : (s.setIncidents l).nvwp = s.nvwp := rfl
@[simp] theorem setIncidents_link (l : List Incident) : (s.setIncidents l).link = s.link := rfl
@[simp] theorem setIncidents_proc (l : List Incident) : (s.setIncidents l).proc = s.proc := rfl
@[simp] theorem setIncidents_lanes (l : List Incident) : (s.setIncidents l).lanes = s.lanes := rfl
@[simp] theorem setIncidents_claims (l : List Incident) : (s.setIncidents l).claims = s.claims := rfl
@[simp] theorem setIncidents_seen (l : List Incident) : (s.setIncidents l).seen = s.seen := rfl
@[simp] theorem setIncidents_hot (l : List Incident) : (s.setIncidents l).hot = s.hot := rfl
@[simp] theorem setIncidents_recovery (l : List Incident) : (s.setIncidents l).recovery = s.recovery := rfl
@[simp] theorem setIncidents_fare (l : List Incident) : (s.setIncidents l).fare = s.fare := rfl
@[simp] theorem setIncidents_incidents (l : List Incident) : (s.setIncidents l).incidents = { s.incidents with entries := l } := rfl
@[simp] theorem setIncidents_keys (l : List Incident) : (s.setIncidents l).keys = s.keys := rfl
@[simp] theorem setIncidents_journal (l : List Incident) : (s.setIncidents l).journal = s.journal := rfl
@[simp] theorem setIncidents_window (l : List Incident) : (s.setIncidents l).window = s.window := rfl
@[simp] theorem setIncidents_retention (l : List Incident) : (s.setIncidents l).retention = s.retention := rfl
@[simp] theorem setIncidents_clock (l : List Incident) : (s.setIncidents l).clock = s.clock := rfl
@[simp] theorem setIncidents_notices (l : List Incident) : (s.setIncidents l).notices = s.notices := rfl
@[simp] theorem setIncidents_emergency (l : List Incident) : (s.setIncidents l).emergency = s.emergency := rfl

@[simp] theorem updEmergency_pending (f : EmergencyInput → EmergencyInput) : (s.updEmergency f).pending = s.pending := rfl
@[simp] theorem updEmergency_free (f : EmergencyInput → EmergencyInput) : (s.updEmergency f).free = s.free := rfl
@[simp] theorem updEmergency_powered (f : EmergencyInput → EmergencyInput) : (s.updEmergency f).powered = s.powered := rfl
@[simp] theorem updEmergency_nvwp (f : EmergencyInput → EmergencyInput) : (s.updEmergency f).nvwp = s.nvwp := rfl
@[simp] theorem updEmergency_link (f : EmergencyInput → EmergencyInput) : (s.updEmergency f).link = s.link := rfl
@[simp] theorem updEmergency_proc (f : EmergencyInput → EmergencyInput) : (s.updEmergency f).proc = s.proc := rfl
@[simp] theorem updEmergency_lanes (f : EmergencyInput → EmergencyInput) : (s.updEmergency f).lanes = s.lanes := rfl
@[simp] theorem updEmergency_claims (f : EmergencyInput → EmergencyInput) : (s.updEmergency f).claims = s.claims := rfl
@[simp] theorem updEmergency_seen (f : EmergencyInput → EmergencyInput) : (s.updEmergency f).seen = s.seen := rfl
@[simp] theorem updEmergency_hot (f : EmergencyInput → EmergencyInput) : (s.updEmergency f).hot = s.hot := rfl
@[simp] theorem updEmergency_recovery (f : EmergencyInput → EmergencyInput) : (s.updEmergency f).recovery = s.recovery := rfl
@[simp] theorem updEmergency_fare (f : EmergencyInput → EmergencyInput) : (s.updEmergency f).fare = s.fare := rfl
@[simp] theorem updEmergency_incidents (f : EmergencyInput → EmergencyInput) : (s.updEmergency f).incidents = s.incidents := rfl
@[simp] theorem updEmergency_keys (f : EmergencyInput → EmergencyInput) : (s.updEmergency f).keys = s.keys := rfl
@[simp] theorem updEmergency_journal (f : EmergencyInput → EmergencyInput) : (s.updEmergency f).journal = s.journal := rfl
@[simp] theorem updEmergency_window (f : EmergencyInput → EmergencyInput) : (s.updEmergency f).window = s.window := rfl
@[simp] theorem updEmergency_retention (f : EmergencyInput → EmergencyInput) : (s.updEmergency f).retention = s.retention := rfl
@[simp] theorem updEmergency_clock (f : EmergencyInput → EmergencyInput) : (s.updEmergency f).clock = s.clock := rfl
@[simp] theorem updEmergency_notices (f : EmergencyInput → EmergencyInput) : (s.updEmergency f).notices = s.notices := rfl
@[simp] theorem updEmergency_emergency (f : EmergencyInput → EmergencyInput) : (s.updEmergency f).emergency = f s.emergency := rfl

@[simp] theorem setStage_pending (k : Nat) : (s.setStage k).pending = s.pending := rfl
@[simp] theorem setStage_free (k : Nat) : (s.setStage k).free = s.free := rfl
@[simp] theorem setStage_powered (k : Nat) : (s.setStage k).powered = s.powered := rfl
@[simp] theorem setStage_nvwp (k : Nat) : (s.setStage k).nvwp = s.nvwp := rfl
@[simp] theorem setStage_link (k : Nat) : (s.setStage k).link = s.link := rfl
@[simp] theorem setStage_proc (k : Nat) : (s.setStage k).proc = { s.proc with initStage := k } := rfl
@[simp] theorem setStage_lanes (k : Nat) : (s.setStage k).lanes = s.lanes := rfl
@[simp] theorem setStage_claims (k : Nat) : (s.setStage k).claims = s.claims := rfl
@[simp] theorem setStage_seen (k : Nat) : (s.setStage k).seen = s.seen := rfl
@[simp] theorem setStage_hot (k : Nat) : (s.setStage k).hot = s.hot := rfl
@[simp] theorem setStage_recovery (k : Nat) : (s.setStage k).recovery = s.recovery := rfl
@[simp] theorem setStage_fare (k : Nat) : (s.setStage k).fare = s.fare := rfl
@[simp] theorem setStage_incidents (k : Nat) : (s.setStage k).incidents = s.incidents := rfl
@[simp] theorem setStage_keys (k : Nat) : (s.setStage k).keys = s.keys := rfl
@[simp] theorem setStage_journal (k : Nat) : (s.setStage k).journal = s.journal := rfl
@[simp] theorem setStage_window (k : Nat) : (s.setStage k).window = s.window := rfl
@[simp] theorem setStage_retention (k : Nat) : (s.setStage k).retention = s.retention := rfl
@[simp] theorem setStage_clock (k : Nat) : (s.setStage k).clock = s.clock := rfl
@[simp] theorem setStage_notices (k : Nat) : (s.setStage k).notices = s.notices := rfl
@[simp] theorem setStage_emergency (k : Nat) : (s.setStage k).emergency = s.emergency := rfl

@[simp] theorem startLong_pending (r : Request) : (s.startLong r).pending = s.pending := rfl
@[simp] theorem startLong_free (r : Request) : (s.startLong r).free = s.free := rfl
@[simp] theorem startLong_powered (r : Request) : (s.startLong r).powered = s.powered := rfl
@[simp] theorem startLong_nvwp (r : Request) : (s.startLong r).nvwp = s.nvwp := rfl
@[simp] theorem startLong_link (r : Request) : (s.startLong r).link = s.link := rfl
@[simp] theorem startLong_proc (r : Request) : (s.startLong r).proc = { s.proc with tracker := some ⟨r.tag, r.code, false⟩ } := rfl
@[simp] theorem startLong_lanes (r : Request) : (s.startLong r).lanes = s.lanes := rfl
@[simp] theorem startLong_claims (r : Request) : (s.startLong r).claims = s.claims := rfl
@[simp] theorem startLong_seen (r : Request) : (s.startLong r).seen = s.seen := rfl
@[simp] theorem startLong_hot (r : Request) : (s.startLong r).hot = s.hot := rfl
@[simp] theorem startLong_recovery (r : Request) : (s.startLong r).recovery = s.recovery := rfl
@[simp] theorem startLong_fare (r : Request) : (s.startLong r).fare = s.fare := rfl
@[simp] theorem startLong_incidents (r : Request) : (s.startLong r).incidents = s.incidents := rfl
@[simp] theorem startLong_keys (r : Request) : (s.startLong r).keys = s.keys := rfl
@[simp] theorem startLong_journal (r : Request) : (s.startLong r).journal = s.journal := rfl
@[simp] theorem startLong_window (r : Request) : (s.startLong r).window = s.window := rfl
@[simp] theorem startLong_retention (r : Request) : (s.startLong r).retention = s.retention := rfl
@[simp] theorem startLong_clock (r : Request) : (s.startLong r).clock = s.clock := rfl
@[simp] theorem startLong_notices (r : Request) : (s.startLong r).notices = s.notices := rfl
@[simp] theorem startLong_emergency (r : Request) : (s.startLong r).emergency = s.emergency := rfl

@[simp] theorem popped_pending (rest : List (List Byte)) : (s.popped rest).pending = s.pending := rfl
@[simp] theorem popped_free (rest : List (List Byte)) : (s.popped rest).free = s.free := rfl
@[simp] theorem popped_powered (rest : List (List Byte)) : (s.popped rest).powered = s.powered := rfl
@[simp] theorem popped_nvwp (rest : List (List Byte)) : (s.popped rest).nvwp = s.nvwp := rfl
@[simp] theorem popped_link (rest : List (List Byte)) : (s.popped rest).link = { s.link with requests := rest } := rfl
@[simp] theorem popped_proc (rest : List (List Byte)) : (s.popped rest).proc = s.proc := rfl
@[simp] theorem popped_lanes (rest : List (List Byte)) : (s.popped rest).lanes = s.lanes := rfl
@[simp] theorem popped_claims (rest : List (List Byte)) : (s.popped rest).claims = s.claims := rfl
@[simp] theorem popped_seen (rest : List (List Byte)) : (s.popped rest).seen = s.seen := rfl
@[simp] theorem popped_hot (rest : List (List Byte)) : (s.popped rest).hot = s.hot := rfl
@[simp] theorem popped_recovery (rest : List (List Byte)) : (s.popped rest).recovery = s.recovery := rfl
@[simp] theorem popped_fare (rest : List (List Byte)) : (s.popped rest).fare = s.fare := rfl
@[simp] theorem popped_incidents (rest : List (List Byte)) : (s.popped rest).incidents = s.incidents := rfl
@[simp] theorem popped_keys (rest : List (List Byte)) : (s.popped rest).keys = s.keys := rfl
@[simp] theorem popped_journal (rest : List (List Byte)) : (s.popped rest).journal = s.journal := rfl
@[simp] theorem popped_window (rest : List (List Byte)) : (s.popped rest).window = s.window := rfl
@[simp] theorem popped_retention (rest : List (List Byte)) : (s.popped rest).retention = s.retention := rfl
@[simp] theorem popped_clock (rest : List (List Byte)) : (s.popped rest).clock = s.clock := rfl
@[simp] theorem popped_notices (rest : List (List Byte)) : (s.popped rest).notices = s.notices := rfl
@[simp] theorem popped_emergency (rest : List (List Byte)) : (s.popped rest).emergency = s.emergency := rfl

/-! ### Reading back -/

@[simp] theorem lane_setLane_self (n : LaneId) (l : Lane) : (s.setLane n l).lane n = l := by simp [State.lane, State.setLane]

theorem lane_setLane_ne {m n : LaneId} (h : m ≠ n) (l : Lane) : (s.setLane n l).lane m = s.lane m := by
  have : n.val ≠ m.val := fun e => h (Fin.ext e.symm)
  simp [State.lane, State.setLane, this]

@[simp] theorem setLane_setLane (n : LaneId) (k l : Lane) : (s.setLane n k).setLane n l = s.setLane n l := by
  simp [State.setLane]

@[simp] theorem setLane_lane (n : LaneId) : s.setLane n (s.lane n) = s := by simp [State.setLane, State.lane]

@[simp] theorem claim_setClaim_self (n : LaneId) (c : Option Identity) : (s.setClaim n c).claim n = c := by
  simp [State.claim, State.setClaim]

theorem claim_setClaim_ne {m n : LaneId} (h : m ≠ n) (c : Option Identity) : (s.setClaim n c).claim m = s.claim m := by
  have : n.val ≠ m.val := fun e => h (Fin.ext e.symm)
  simp [State.claim, State.setClaim, this]

@[simp] theorem slot_setSlot_self (i : SlotId) (x : Slot) : (s.setSlot i x).slot i = x := by simp [State.slot, State.setSlot]

theorem slot_setSlot_ne {i j : SlotId} (h : j ≠ i) (x : Slot) : (s.setSlot i x).slot j = s.slot j := by
  have : i.val ≠ j.val := fun e => h (Fin.ext e.symm)
  simp [State.slot, State.setSlot, this]

@[simp] theorem setSlot_setSlot (i : SlotId) (x y : Slot) : (s.setSlot i x).setSlot i y = s.setSlot i y := by simp [State.setSlot]

@[simp] theorem setSlot_slot (i : SlotId) : s.setSlot i (s.slot i) = s := by simp [State.setSlot, State.slot]

/-! ### Every lane update is a setLane -/

theorem updLane_eq (n : LaneId) (f : Lane → Lane) : s.updLane n f = s.setLane n (f (s.lane n)) := rfl

theorem updEngine_eq (n : LaneId) (f : Engine → Engine) :
    s.updEngine n f = s.setLane n { s.lane n with engine := f (s.lane n).engine } := rfl

theorem updGate_eq (n : LaneId) (f : Gate → Gate) : s.updGate n f = s.setLane n { s.lane n with gate := f (s.lane n).gate } := rfl

theorem updCounters_eq (n : LaneId) (f : Counters → Counters) :
    s.updCounters n f = s.setLane n { s.lane n with counters := f (s.lane n).counters } := rfl

theorem updPort_eq (n : LaneId) (side : Side) (f : Port → Port) :
    s.updPort n side f = s.setLane n ((s.lane n).setPort side (f ((s.lane n).port side))) := rfl

/-! ### Offers that wait (R5, R6) -/

@[simp] theorem withdraw_engine (l : Lane) (side : Side) : (l.withdraw side).engine = l.engine := rfl
@[simp] theorem withdraw_gate (l : Lane) (side : Side) : (l.withdraw side).gate = l.gate := rfl
@[simp] theorem withdraw_port (l : Lane) (side x : Side) : (l.withdraw side).port x = l.port x := by cases x <;> rfl
@[simp] theorem withdraw_resetting (l : Lane) (side : Side) : (l.withdraw side).resetting = l.resetting := rfl
@[simp] theorem withdraw_waiting (l : Lane) (side : Side) :
    (l.withdraw side).waiting = l.waiting.filter (fun o => o.side != side) := rfl

@[simp] theorem showAt_engine (l : Lane) (side : Side) (p : Presence) : (l.showAt side p).engine = l.engine := rfl
@[simp] theorem showAt_gate (l : Lane) (side : Side) (p : Presence) : (l.showAt side p).gate = l.gate := rfl
@[simp] theorem showAt_port (l : Lane) (side x : Side) (p : Presence) : (l.showAt side p).port x = l.port x := by cases x <;> rfl
@[simp] theorem showAt_resetting (l : Lane) (side : Side) (p : Presence) : (l.showAt side p).resetting = l.resetting := rfl

/-- Offering writes the list of offers alone. -/
theorem offer_eq (l : Lane) (side : Side) (p : Presence) : l.offer side p = { l with waiting := (l.offer side p).waiting } := by
  simp only [Lane.offer]
  split <;> rfl

@[simp] theorem offer_engine (l : Lane) (side : Side) (p : Presence) : (l.offer side p).engine = l.engine := by rw [offer_eq]
@[simp] theorem offer_gate (l : Lane) (side : Side) (p : Presence) : (l.offer side p).gate = l.gate := by rw [offer_eq]
@[simp] theorem offer_port (l : Lane) (side x : Side) (p : Presence) : (l.offer side p).port x = l.port x := by
  rw [offer_eq]; cases x <;> rfl
@[simp] theorem offer_resetting (l : Lane) (side : Side) (p : Presence) : (l.offer side p).resetting = l.resetting := by rw [offer_eq]

/-- A port that has an offer waiting keeps its one place; another's offer goes to the end (R6). -/
theorem offer_sides (l : Lane) (side : Side) (p : Presence) :
    (l.offer side p).waiting.map (·.side) =
      if side ∈ l.waiting.map (·.side) then l.waiting.map (·.side) else l.waiting.map (·.side) ++ [side] := by
  have h : (l.offerAt side).isSome = true ↔ side ∈ l.waiting.map (·.side) := by
    simp [Lane.offerAt, List.find?_isSome]
  simp only [Lane.offer]
  split
  · rw [if_pos (h.1 ‹_›)]
    simp only [List.map_map]
    refine List.map_congr_left (fun o _ => ?_)
    simp only [Function.comp]
    split
    · exact Eq.symm ‹_›
    · rfl
  · rw [if_neg (fun m => ‹¬ _› (h.2 m))]
    simp

/-- Each port has at most one waiting offer (R6), and offering keeps it so. -/
theorem offer_keeps_one (l : Lane) (side : Side) (p : Presence) (h : (l.waiting.map (·.side)).Nodup) :
    ((l.offer side p).waiting.map (·.side)).Nodup := by
  rw [offer_sides]
  split
  · exact h
  · exact List.nodup_append.2 ⟨h, by simp, by simp_all⟩

/-- A re-poll leaves nothing waiting where no offer was made during the reset (R13). -/
theorem newOffers_of_old (l : Lane) (h : ∀ o ∈ l.waiting, o.inReset = false) : l.newOffers = [] := by
  simp only [Lane.newOffers, List.map_eq_nil_iff, List.filter_eq_nil_iff]
  intro o ho
  simp [h o ho]

/-- With no offer waiting there is none to take. -/
theorem chosen_of_none (l : Lane) (h : l.waiting = []) : l.chosen = none := by
  simp only [Lane.chosen, Lane.offerAt, h]
  split <;> rfl

theorem takeOffers_of_none (n : LaneId) (h : (s.lane n).waiting = []) : s.takeOffers n = s := by
  simp [State.takeOffers, State.takeOffer, chosen_of_none _ h]

/-- Offers wait while a transaction runs (R6). -/
theorem takeOffers_of_running (n : LaneId) (h : (s.lane n).engine.phase ≠ .idle) : s.takeOffers n = s := by
  simp [State.takeOffers, State.takeOffer, h]

/-- Offers wait while the lane is being reset (R43, R137). -/
theorem takeOffers_of_resetting (n : LaneId) (k : ResetKind) (h : (s.lane n).resetting = some k) : s.takeOffers n = s := by
  simp [State.takeOffers, State.takeOffer, h]

/-- An IDLE engine of a READY part takes the chosen offer, and the other goes on waiting (R6). -/
theorem takeOffers_of_ready (n : LaneId) (o : Offer) (hp : (s.lane n).engine.phase = .idle) (hr : (s.lane n).resetting = none)
    (hs : s.ready = true) (hc : (s.lane n).chosen = some o) : s.takeOffers n = s.setLane n ((s.lane n).begin_ o) := by
  simp [State.takeOffers, State.takeOffer, hp, hr, hc, hs, Lane.begin_]

/-! ### Reads that another field's update leaves -/

@[simp] theorem setLane_claim (n : LaneId) (l : Lane) (m : LaneId) : (s.setLane n l).claim m = s.claim m := rfl
@[simp] theorem setLane_slot (n : LaneId) (l : Lane) (j : SlotId) : (s.setLane n l).slot j = s.slot j := rfl
@[simp] theorem setClaim_lane (n : LaneId) (c : Option Identity) (m : LaneId) : (s.setClaim n c).lane m = s.lane m := rfl
@[simp] theorem setClaim_slot (n : LaneId) (c : Option Identity) (j : SlotId) : (s.setClaim n c).slot j = s.slot j := rfl
@[simp] theorem setSlot_lane (i : SlotId) (x : Slot) (m : LaneId) : (s.setSlot i x).lane m = s.lane m := rfl
@[simp] theorem setSlot_claim (i : SlotId) (x : Slot) (m : LaneId) : (s.setSlot i x).claim m = s.claim m := rfl
@[simp] theorem raise_lane (k : NoticeKind) (a : Target) (d : List Byte) (m : LaneId) : (s.raise k a d).lane m = s.lane m := rfl
@[simp] theorem raise_claim (k : NoticeKind) (a : Target) (d : List Byte) (m : LaneId) : (s.raise k a d).claim m = s.claim m := rfl
@[simp] theorem raise_slot (k : NoticeKind) (a : Target) (d : List Byte) (j : SlotId) : (s.raise k a d).slot j = s.slot j := rfl
@[simp] theorem setEntries_lane (es : List SeenEntry) (m : LaneId) : (s.setEntries es).lane m = s.lane m := rfl
@[simp] theorem setEntries_claim (es : List SeenEntry) (m : LaneId) : (s.setEntries es).claim m = s.claim m := rfl
@[simp] theorem setEntries_slot (es : List SeenEntry) (j : SlotId) : (s.setEntries es).slot j = s.slot j := rfl
@[simp] theorem updLink_lane (f : Link → Link) (m : LaneId) : (s.updLink f).lane m = s.lane m := rfl
@[simp] theorem updLink_claim (f : Link → Link) (m : LaneId) : (s.updLink f).claim m = s.claim m := rfl
@[simp] theorem updLink_slot (f : Link → Link) (j : SlotId) : (s.updLink f).slot j = s.slot j := rfl
@[simp] theorem setHot_lane (h : HotStore) (m : LaneId) : (s.setHot h).lane m = s.lane m := rfl
@[simp] theorem setHot_claim (h : HotStore) (m : LaneId) : (s.setHot h).claim m = s.claim m := rfl
@[simp] theorem setHot_slot (h : HotStore) (j : SlotId) : (s.setHot h).slot j = s.slot j := rfl
@[simp] theorem setPending_lane (p : PendingTable) (m : LaneId) : (s.setPending p).lane m = s.lane m := rfl
@[simp] theorem setPending_claim (p : PendingTable) (m : LaneId) : (s.setPending p).claim m = s.claim m := rfl
@[simp] theorem setPending_slot (p : PendingTable) (j : SlotId) : (s.setPending p).slot j = s.slot j := rfl
@[simp] theorem setIncidents_lane (l : List Incident) (m : LaneId) : (s.setIncidents l).lane m = s.lane m := rfl
@[simp] theorem setIncidents_claim (l : List Incident) (m : LaneId) : (s.setIncidents l).claim m = s.claim m := rfl
@[simp] theorem setIncidents_slot (l : List Incident) (j : SlotId) : (s.setIncidents l).slot j = s.slot j := rfl
@[simp] theorem updEmergency_lane (f : EmergencyInput → EmergencyInput) (m : LaneId) : (s.updEmergency f).lane m = s.lane m := rfl
@[simp] theorem updEmergency_claim (f : EmergencyInput → EmergencyInput) (m : LaneId) : (s.updEmergency f).claim m = s.claim m := rfl
@[simp] theorem updEmergency_slot (f : EmergencyInput → EmergencyInput) (j : SlotId) : (s.updEmergency f).slot j = s.slot j := rfl
@[simp] theorem setStage_lane (k : Nat) (m : LaneId) : (s.setStage k).lane m = s.lane m := rfl
@[simp] theorem setStage_claim (k : Nat) (m : LaneId) : (s.setStage k).claim m = s.claim m := rfl
@[simp] theorem setStage_slot (k : Nat) (j : SlotId) : (s.setStage k).slot j = s.slot j := rfl
@[simp] theorem startLong_lane (r : Request) (m : LaneId) : (s.startLong r).lane m = s.lane m := rfl
@[simp] theorem startLong_claim (r : Request) (m : LaneId) : (s.startLong r).claim m = s.claim m := rfl
@[simp] theorem startLong_slot (r : Request) (j : SlotId) : (s.startLong r).slot j = s.slot j := rfl
@[simp] theorem popped_lane (rest : List (List Byte)) (m : LaneId) : (s.popped rest).lane m = s.lane m := rfl
@[simp] theorem popped_claim (rest : List (List Byte)) (m : LaneId) : (s.popped rest).claim m = s.claim m := rfl
@[simp] theorem popped_slot (rest : List (List Byte)) (j : SlotId) : (s.popped rest).slot j = s.slot j := rfl

end Sys2Proof.Machine
end

