-- ==== Sys2Proof/Laws/Frames.lean ====
section
/-! SUPPORT. What each shared operation leaves unchanged: one theorem for an operation, which simp and rewriting take apart. A field of
State that a theorem does not name may be written by its operation. -/

namespace Sys2Proof.Machine

set_option linter.all false
set_option maxHeartbeats 2000000

theorem foldl_keeps {α β : Type} (π : State → α) (f : State → β → State) (h : ∀ t b, π (f t b) = π t) :
    ∀ (bs : List β) (s : State), π (bs.foldl f s) = π s
  | [], _ => rfl
  | b :: bs, s => (foldl_keeps π f h bs (f s b)).trans (h s b)

theorem eachLane_keeps {α : Type} (π : State → α) (f : LaneId → State → State) (h : ∀ n t, π (f n t) = π t) (s : State) :
    π (s.eachLane f) = π s := foldl_keeps π (fun t n => f n t) (fun t n => h n t) laneIds s

@[simp] theorem updLane_frame (s : State) (n : LaneId) (f : Lane → Lane) :
    (s.updLane n f).pending = s.pending ∧ (s.updLane n f).free = s.free ∧ (s.updLane n f).powered = s.powered ∧ (s.updLane n
    f).nvwp = s.nvwp ∧ (s.updLane n f).link = s.link ∧ (s.updLane n f).proc = s.proc ∧ (s.updLane n f).claims = s.claims ∧
    (s.updLane n f).seen = s.seen ∧ (s.updLane n f).hot = s.hot ∧ (s.updLane n f).recovery = s.recovery ∧ (s.updLane n f).fare =
    s.fare ∧ (s.updLane n f).incidents = s.incidents ∧ (s.updLane n f).keys = s.keys ∧ (s.updLane n f).journal = s.journal ∧
    (s.updLane n f).window = s.window ∧ (s.updLane n f).retention = s.retention ∧ (s.updLane n f).clock = s.clock ∧ (s.updLane n
    f).notices = s.notices ∧ (s.updLane n f).emergency = s.emergency := by
  refine ⟨?_, ?_, ?_, ?_, ?_, ?_, ?_, ?_, ?_, ?_, ?_, ?_, ?_, ?_, ?_, ?_, ?_, ?_, ?_⟩
  all_goals
    first
      | with_reducible rfl
      | (unfold State.updLane
         (try dsimp only)
         repeat'
           first
             | with_reducible rfl
             | (simp only [setLane_pending, setLane_free, setLane_powered, setLane_nvwp, setLane_link,
                              setLane_proc, setLane_claims, setLane_seen, setLane_hot,
                              setLane_recovery, setLane_fare, setLane_incidents, setLane_keys,
                              setLane_journal, setLane_window, setLane_retention, setLane_clock,
                              setLane_notices, setLane_emergency]; done)
             | (simp only [setLane_pending, setLane_free, setLane_powered, setLane_nvwp, setLane_link,
                              setLane_proc, setLane_claims, setLane_seen, setLane_hot,
                              setLane_recovery, setLane_fare, setLane_incidents, setLane_keys,
                              setLane_journal, setLane_window, setLane_retention, setLane_clock,
                              setLane_notices, setLane_emergency]; split)
             | split)

@[simp] theorem updEngine_frame (s : State) (n : LaneId) (f : Engine → Engine) :
    (s.updEngine n f).pending = s.pending ∧ (s.updEngine n f).free = s.free ∧ (s.updEngine n f).powered = s.powered ∧
    (s.updEngine n f).nvwp = s.nvwp ∧ (s.updEngine n f).link = s.link ∧ (s.updEngine n f).proc = s.proc ∧ (s.updEngine n
    f).claims = s.claims ∧ (s.updEngine n f).seen = s.seen ∧ (s.updEngine n f).hot = s.hot ∧ (s.updEngine n f).recovery =
    s.recovery ∧ (s.updEngine n f).fare = s.fare ∧ (s.updEngine n f).incidents = s.incidents ∧ (s.updEngine n f).keys = s.keys ∧
    (s.updEngine n f).journal = s.journal ∧ (s.updEngine n f).window = s.window ∧ (s.updEngine n f).retention = s.retention ∧
    (s.updEngine n f).clock = s.clock ∧ (s.updEngine n f).notices = s.notices ∧ (s.updEngine n f).emergency = s.emergency := by
  refine ⟨?_, ?_, ?_, ?_, ?_, ?_, ?_, ?_, ?_, ?_, ?_, ?_, ?_, ?_, ?_, ?_, ?_, ?_, ?_⟩
  all_goals
    first
      | with_reducible rfl
      | (unfold State.updEngine
         (try dsimp only)
         repeat'
           first
             | with_reducible rfl
             | (simp only [updLane_frame]; done)
             | (simp only [updLane_frame]; split)
             | split)

@[simp] theorem updGate_frame (s : State) (n : LaneId) (f : Gate → Gate) :
    (s.updGate n f).pending = s.pending ∧ (s.updGate n f).free = s.free ∧ (s.updGate n f).powered = s.powered ∧ (s.updGate n
    f).nvwp = s.nvwp ∧ (s.updGate n f).link = s.link ∧ (s.updGate n f).proc = s.proc ∧ (s.updGate n f).claims = s.claims ∧
    (s.updGate n f).seen = s.seen ∧ (s.updGate n f).hot = s.hot ∧ (s.updGate n f).recovery = s.recovery ∧ (s.updGate n f).fare =
    s.fare ∧ (s.updGate n f).incidents = s.incidents ∧ (s.updGate n f).keys = s.keys ∧ (s.updGate n f).journal = s.journal ∧
    (s.updGate n f).window = s.window ∧ (s.updGate n f).retention = s.retention ∧ (s.updGate n f).clock = s.clock ∧ (s.updGate n
    f).notices = s.notices ∧ (s.updGate n f).emergency = s.emergency := by
  refine ⟨?_, ?_, ?_, ?_, ?_, ?_, ?_, ?_, ?_, ?_, ?_, ?_, ?_, ?_, ?_, ?_, ?_, ?_, ?_⟩
  all_goals
    first
      | with_reducible rfl
      | (unfold State.updGate
         (try dsimp only)
         repeat'
           first
             | with_reducible rfl
             | (simp only [updLane_frame]; done)
             | (simp only [updLane_frame]; split)
             | split)

@[simp] theorem updCounters_frame (s : State) (n : LaneId) (f : Counters → Counters) :
    (s.updCounters n f).pending = s.pending ∧ (s.updCounters n f).free = s.free ∧ (s.updCounters n f).powered = s.powered ∧
    (s.updCounters n f).nvwp = s.nvwp ∧ (s.updCounters n f).link = s.link ∧ (s.updCounters n f).proc = s.proc ∧ (s.updCounters n
    f).claims = s.claims ∧ (s.updCounters n f).seen = s.seen ∧ (s.updCounters n f).hot = s.hot ∧ (s.updCounters n f).recovery =
    s.recovery ∧ (s.updCounters n f).fare = s.fare ∧ (s.updCounters n f).incidents = s.incidents ∧ (s.updCounters n f).keys =
    s.keys ∧ (s.updCounters n f).journal = s.journal ∧ (s.updCounters n f).window = s.window ∧ (s.updCounters n f).retention =
    s.retention ∧ (s.updCounters n f).clock = s.clock ∧ (s.updCounters n f).notices = s.notices ∧ (s.updCounters n f).emergency
    = s.emergency := by
  refine ⟨?_, ?_, ?_, ?_, ?_, ?_, ?_, ?_, ?_, ?_, ?_, ?_, ?_, ?_, ?_, ?_, ?_, ?_, ?_⟩
  all_goals
    first
      | with_reducible rfl
      | (unfold State.updCounters
         (try dsimp only)
         repeat'
           first
             | with_reducible rfl
             | (simp only [updLane_frame]; done)
             | (simp only [updLane_frame]; split)
             | split)

@[simp] theorem updPort_frame (s : State) (n : LaneId) (side : Side) (f : Port → Port) :
    (s.updPort n side f).pending = s.pending ∧ (s.updPort n side f).free = s.free ∧ (s.updPort n side f).powered = s.powered ∧
    (s.updPort n side f).nvwp = s.nvwp ∧ (s.updPort n side f).link = s.link ∧ (s.updPort n side f).proc = s.proc ∧ (s.updPort n
    side f).claims = s.claims ∧ (s.updPort n side f).seen = s.seen ∧ (s.updPort n side f).hot = s.hot ∧ (s.updPort n side
    f).recovery = s.recovery ∧ (s.updPort n side f).fare = s.fare ∧ (s.updPort n side f).incidents = s.incidents ∧ (s.updPort n
    side f).keys = s.keys ∧ (s.updPort n side f).journal = s.journal ∧ (s.updPort n side f).window = s.window ∧ (s.updPort n
    side f).retention = s.retention ∧ (s.updPort n side f).clock = s.clock ∧ (s.updPort n side f).notices = s.notices ∧
    (s.updPort n side f).emergency = s.emergency := by
  refine ⟨?_, ?_, ?_, ?_, ?_, ?_, ?_, ?_, ?_, ?_, ?_, ?_, ?_, ?_, ?_, ?_, ?_, ?_, ?_⟩
  all_goals
    first
      | with_reducible rfl
      | (unfold State.updPort
         (try dsimp only)
         repeat'
           first
             | with_reducible rfl
             | (simp only [updLane_frame]; done)
             | (simp only [updLane_frame]; split)
             | split)

@[simp] theorem countRefusal_frame (s : State) (n : LaneId) (r : RefusalCode) :
    (s.countRefusal n r).pending = s.pending ∧ (s.countRefusal n r).free = s.free ∧ (s.countRefusal n r).powered = s.powered ∧
    (s.countRefusal n r).nvwp = s.nvwp ∧ (s.countRefusal n r).link = s.link ∧ (s.countRefusal n r).proc = s.proc ∧
    (s.countRefusal n r).claims = s.claims ∧ (s.countRefusal n r).seen = s.seen ∧ (s.countRefusal n r).hot = s.hot ∧
    (s.countRefusal n r).recovery = s.recovery ∧ (s.countRefusal n r).fare = s.fare ∧ (s.countRefusal n r).incidents =
    s.incidents ∧ (s.countRefusal n r).keys = s.keys ∧ (s.countRefusal n r).journal = s.journal ∧ (s.countRefusal n r).window =
    s.window ∧ (s.countRefusal n r).retention = s.retention ∧ (s.countRefusal n r).clock = s.clock ∧ (s.countRefusal n
    r).notices = s.notices ∧ (s.countRefusal n r).emergency = s.emergency := by
  refine ⟨?_, ?_, ?_, ?_, ?_, ?_, ?_, ?_, ?_, ?_, ?_, ?_, ?_, ?_, ?_, ?_, ?_, ?_, ?_⟩
  all_goals
    first
      | with_reducible rfl
      | (unfold State.countRefusal
         (try dsimp only)
         repeat'
           first
             | with_reducible rfl
             | (simp only [updLane_frame]; done)
             | (simp only [updLane_frame]; split)
             | split)

@[simp] theorem fresh_frame (s : State) :
    (s.fresh.2).pending = s.pending ∧ (s.fresh.2).powered = s.powered ∧ (s.fresh.2).nvwp = s.nvwp ∧ (s.fresh.2).link = s.link ∧
    (s.fresh.2).proc = s.proc ∧ (s.fresh.2).lanes = s.lanes ∧ (s.fresh.2).claims = s.claims ∧ (s.fresh.2).seen = s.seen ∧
    (s.fresh.2).hot = s.hot ∧ (s.fresh.2).recovery = s.recovery ∧ (s.fresh.2).fare = s.fare ∧ (s.fresh.2).incidents =
    s.incidents ∧ (s.fresh.2).keys = s.keys ∧ (s.fresh.2).journal = s.journal ∧ (s.fresh.2).window = s.window ∧
    (s.fresh.2).retention = s.retention ∧ (s.fresh.2).clock = s.clock ∧ (s.fresh.2).notices = s.notices ∧ (s.fresh.2).emergency
    = s.emergency := by
  refine ⟨?_, ?_, ?_, ?_, ?_, ?_, ?_, ?_, ?_, ?_, ?_, ?_, ?_, ?_, ?_, ?_, ?_, ?_, ?_⟩
  all_goals
    first
      | with_reducible rfl
      | (unfold State.fresh
         repeat'
           first
             | with_reducible rfl
             | split)
      | (simp [State.fresh]; done)

@[simp] theorem storeRecord_frame (s : State) (l : Option LaneId) (fl : RecordFlags) (b : RecordBody) :
    (s.storeRecord l fl b).pending = s.pending ∧ (s.storeRecord l fl b).free = s.free ∧ (s.storeRecord l fl b).powered =
    s.powered ∧ (s.storeRecord l fl b).nvwp = s.nvwp ∧ (s.storeRecord l fl b).link = s.link ∧ (s.storeRecord l fl b).proc =
    s.proc ∧ (s.storeRecord l fl b).lanes = s.lanes ∧ (s.storeRecord l fl b).claims = s.claims ∧ (s.storeRecord l fl b).seen =
    s.seen ∧ (s.storeRecord l fl b).hot = s.hot ∧ (s.storeRecord l fl b).recovery = s.recovery ∧ (s.storeRecord l fl b).fare =
    s.fare ∧ (s.storeRecord l fl b).incidents = s.incidents ∧ (s.storeRecord l fl b).keys = s.keys ∧ (s.storeRecord l fl
    b).window = s.window ∧ (s.storeRecord l fl b).retention = s.retention ∧ (s.storeRecord l fl b).clock = s.clock ∧
    (s.storeRecord l fl b).emergency = s.emergency ∧ (s.storeRecord l fl b).notices.conditions = s.notices.conditions ∧
    (s.storeRecord l fl b).notices.pending = s.notices.pending ∧ (s.storeRecord l fl b).notices.levels = s.notices.levels := by
  refine ⟨?_, ?_, ?_, ?_, ?_, ?_, ?_, ?_, ?_, ?_, ?_, ?_, ?_, ?_, ?_, ?_, ?_, ?_, ?_, ?_, ?_⟩
  · unfold State.storeRecord
    exact foldl_keeps (fun t : State => t.pending) (fun t (e : NoticeKind × Nat) => t.raise e.1 .part _) (fun _ _ => rfl) _ _
  · unfold State.storeRecord
    exact foldl_keeps (fun t : State => t.free) (fun t (e : NoticeKind × Nat) => t.raise e.1 .part _) (fun _ _ => rfl) _ _
  · unfold State.storeRecord
    exact foldl_keeps (fun t : State => t.powered) (fun t (e : NoticeKind × Nat) => t.raise e.1 .part _) (fun _ _ => rfl) _ _
  · unfold State.storeRecord
    exact foldl_keeps (fun t : State => t.nvwp) (fun t (e : NoticeKind × Nat) => t.raise e.1 .part _) (fun _ _ => rfl) _ _
  · unfold State.storeRecord
    exact foldl_keeps (fun t : State => t.link) (fun t (e : NoticeKind × Nat) => t.raise e.1 .part _) (fun _ _ => rfl) _ _
  · unfold State.storeRecord
    exact foldl_keeps (fun t : State => t.proc) (fun t (e : NoticeKind × Nat) => t.raise e.1 .part _) (fun _ _ => rfl) _ _
  · unfold State.storeRecord
    exact foldl_keeps (fun t : State => t.lanes) (fun t (e : NoticeKind × Nat) => t.raise e.1 .part _) (fun _ _ => rfl) _ _
  · unfold State.storeRecord
    exact foldl_keeps (fun t : State => t.claims) (fun t (e : NoticeKind × Nat) => t.raise e.1 .part _) (fun _ _ => rfl) _ _
  · unfold State.storeRecord
    exact foldl_keeps (fun t : State => t.seen) (fun t (e : NoticeKind × Nat) => t.raise e.1 .part _) (fun _ _ => rfl) _ _
  · unfold State.storeRecord
    exact foldl_keeps (fun t : State => t.hot) (fun t (e : NoticeKind × Nat) => t.raise e.1 .part _) (fun _ _ => rfl) _ _
  · unfold State.storeRecord
    exact foldl_keeps (fun t : State => t.recovery) (fun t (e : NoticeKind × Nat) => t.raise e.1 .part _) (fun _ _ => rfl) _ _
  · unfold State.storeRecord
    exact foldl_keeps (fun t : State => t.fare) (fun t (e : NoticeKind × Nat) => t.raise e.1 .part _) (fun _ _ => rfl) _ _
  · unfold State.storeRecord
    exact foldl_keeps (fun t : State => t.incidents) (fun t (e : NoticeKind × Nat) => t.raise e.1 .part _) (fun _ _ => rfl) _ _
  · unfold State.storeRecord
    exact foldl_keeps (fun t : State => t.keys) (fun t (e : NoticeKind × Nat) => t.raise e.1 .part _) (fun _ _ => rfl) _ _
  · unfold State.storeRecord
    exact foldl_keeps (fun t : State => t.window) (fun t (e : NoticeKind × Nat) => t.raise e.1 .part _) (fun _ _ => rfl) _ _
  · unfold State.storeRecord
    exact foldl_keeps (fun t : State => t.retention) (fun t (e : NoticeKind × Nat) => t.raise e.1 .part _) (fun _ _ => rfl) _ _
  · unfold State.storeRecord
    exact foldl_keeps (fun t : State => t.clock) (fun t (e : NoticeKind × Nat) => t.raise e.1 .part _) (fun _ _ => rfl) _ _
  · unfold State.storeRecord
    exact foldl_keeps (fun t : State => t.emergency) (fun t (e : NoticeKind × Nat) => t.raise e.1 .part _) (fun _ _ => rfl) _ _
  · unfold State.storeRecord
    exact foldl_keeps (fun t : State => t.notices.conditions) (fun t (e : NoticeKind × Nat) => t.raise e.1 .part _) (fun _ _ => rfl) _ _
  · unfold State.storeRecord
    exact foldl_keeps (fun t : State => t.notices.pending) (fun t (e : NoticeKind × Nat) => t.raise e.1 .part _) (fun _ _ => rfl) _ _
  · unfold State.storeRecord
    exact foldl_keeps (fun t : State => t.notices.levels) (fun t (e : NoticeKind × Nat) => t.raise e.1 .part _) (fun _ _ => rfl) _ _

@[simp] theorem storeGap_frame (s : State) :
    (s.storeGap).pending = s.pending ∧ (s.storeGap).free = s.free ∧ (s.storeGap).powered = s.powered ∧ (s.storeGap).nvwp =
    s.nvwp ∧ (s.storeGap).link = s.link ∧ (s.storeGap).proc = s.proc ∧ (s.storeGap).lanes = s.lanes ∧ (s.storeGap).claims =
    s.claims ∧ (s.storeGap).seen = s.seen ∧ (s.storeGap).hot = s.hot ∧ (s.storeGap).recovery = s.recovery ∧ (s.storeGap).fare =
    s.fare ∧ (s.storeGap).incidents = s.incidents ∧ (s.storeGap).keys = s.keys ∧ (s.storeGap).window = s.window ∧
    (s.storeGap).retention = s.retention ∧ (s.storeGap).clock = s.clock ∧ (s.storeGap).emergency = s.emergency ∧
    (s.storeGap).notices.conditions = s.notices.conditions ∧ (s.storeGap).notices.pending = s.notices.pending ∧
    (s.storeGap).notices.levels = s.notices.levels := by
  refine ⟨?_, ?_, ?_, ?_, ?_, ?_, ?_, ?_, ?_, ?_, ?_, ?_, ?_, ?_, ?_, ?_, ?_, ?_, ?_, ?_, ?_⟩
  all_goals
    first
      | with_reducible rfl
      | (unfold State.storeGap
         (try dsimp only)
         repeat'
           first
             | with_reducible rfl
             | (simp only [storeRecord_frame]; done)
             | (simp only [storeRecord_frame]; split)
             | split)

@[simp] theorem append_frame (s : State) (l : Option LaneId) (fl : RecordFlags) (b : RecordBody) :
    ((s.append l fl b).1).pending = s.pending ∧ ((s.append l fl b).1).free = s.free ∧ ((s.append l fl b).1).powered = s.powered
    ∧ ((s.append l fl b).1).nvwp = s.nvwp ∧ ((s.append l fl b).1).link = s.link ∧ ((s.append l fl b).1).proc = s.proc ∧
    ((s.append l fl b).1).lanes = s.lanes ∧ ((s.append l fl b).1).claims = s.claims ∧ ((s.append l fl b).1).seen = s.seen ∧
    ((s.append l fl b).1).hot = s.hot ∧ ((s.append l fl b).1).recovery = s.recovery ∧ ((s.append l fl b).1).fare = s.fare ∧
    ((s.append l fl b).1).incidents = s.incidents ∧ ((s.append l fl b).1).keys = s.keys ∧ ((s.append l fl b).1).window =
    s.window ∧ ((s.append l fl b).1).retention = s.retention ∧ ((s.append l fl b).1).clock = s.clock ∧ ((s.append l fl
    b).1).emergency = s.emergency ∧ ((s.append l fl b).1).notices.conditions = s.notices.conditions ∧ ((s.append l fl
    b).1).notices.pending = s.notices.pending ∧ ((s.append l fl b).1).notices.levels = s.notices.levels := by
  refine ⟨?_, ?_, ?_, ?_, ?_, ?_, ?_, ?_, ?_, ?_, ?_, ?_, ?_, ?_, ?_, ?_, ?_, ?_, ?_, ?_, ?_⟩
  all_goals
    first
      | with_reducible rfl
      | (unfold State.append
         (try dsimp only)
         repeat'
           first
             | with_reducible rfl
             | (simp only [storeRecord_frame, storeGap_frame]; done)
             | (simp only [storeRecord_frame, storeGap_frame]; split)
             | split)

@[simp] theorem record_frame (s : State) (l : Option LaneId) (fl : RecordFlags) (b : RecordBody) :
    (s.record l fl b).pending = s.pending ∧ (s.record l fl b).free = s.free ∧ (s.record l fl b).powered = s.powered ∧ (s.record
    l fl b).nvwp = s.nvwp ∧ (s.record l fl b).link = s.link ∧ (s.record l fl b).proc = s.proc ∧ (s.record l fl b).lanes =
    s.lanes ∧ (s.record l fl b).claims = s.claims ∧ (s.record l fl b).seen = s.seen ∧ (s.record l fl b).hot = s.hot ∧ (s.record
    l fl b).recovery = s.recovery ∧ (s.record l fl b).fare = s.fare ∧ (s.record l fl b).incidents = s.incidents ∧ (s.record l fl
    b).keys = s.keys ∧ (s.record l fl b).window = s.window ∧ (s.record l fl b).retention = s.retention ∧ (s.record l fl b).clock
    = s.clock ∧ (s.record l fl b).emergency = s.emergency ∧ (s.record l fl b).notices.conditions = s.notices.conditions ∧
    (s.record l fl b).notices.pending = s.notices.pending ∧ (s.record l fl b).notices.levels = s.notices.levels := by
  refine ⟨?_, ?_, ?_, ?_, ?_, ?_, ?_, ?_, ?_, ?_, ?_, ?_, ?_, ?_, ?_, ?_, ?_, ?_, ?_, ?_, ?_⟩
  all_goals
    first
      | with_reducible rfl
      | (unfold State.record
         (try dsimp only)
         repeat'
           first
             | with_reducible rfl
             | (simp only [append_frame]; done)
             | (simp only [append_frame]; split)
             | split)

@[simp] theorem newEntry_frame (s : State) (e : SeenEntry) :
    (s.newEntry e).pending = s.pending ∧ (s.newEntry e).free = s.free ∧ (s.newEntry e).powered = s.powered ∧ (s.newEntry e).nvwp
    = s.nvwp ∧ (s.newEntry e).link = s.link ∧ (s.newEntry e).proc = s.proc ∧ (s.newEntry e).lanes = s.lanes ∧ (s.newEntry
    e).claims = s.claims ∧ (s.newEntry e).hot = s.hot ∧ (s.newEntry e).recovery = s.recovery ∧ (s.newEntry e).fare = s.fare ∧
    (s.newEntry e).incidents = s.incidents ∧ (s.newEntry e).keys = s.keys ∧ (s.newEntry e).journal = s.journal ∧ (s.newEntry
    e).window = s.window ∧ (s.newEntry e).retention = s.retention ∧ (s.newEntry e).clock = s.clock ∧ (s.newEntry e).notices =
    s.notices ∧ (s.newEntry e).emergency = s.emergency ∧ (s.newEntry e).seen.inbox = s.seen.inbox := by
  refine ⟨?_, ?_, ?_, ?_, ?_, ?_, ?_, ?_, ?_, ?_, ?_, ?_, ?_, ?_, ?_, ?_, ?_, ?_, ?_, ?_⟩
  all_goals
    first
      | with_reducible rfl
      | (unfold State.newEntry
         (try dsimp only)
         repeat'
           first
             | with_reducible rfl
             | (simp only [setEntries_pending, setEntries_free, setEntries_powered, setEntries_nvwp,
                              setEntries_link, setEntries_proc, setEntries_lanes, setEntries_claims,
                              setEntries_hot, setEntries_recovery, setEntries_fare,
                              setEntries_incidents, setEntries_keys, setEntries_journal,
                              setEntries_window, setEntries_retention, setEntries_clock,
                              setEntries_notices, setEntries_emergency, setEntries_seen]; done)
             | (simp only [setEntries_pending, setEntries_free, setEntries_powered, setEntries_nvwp,
                              setEntries_link, setEntries_proc, setEntries_lanes, setEntries_claims,
                              setEntries_hot, setEntries_recovery, setEntries_fare,
                              setEntries_incidents, setEntries_keys, setEntries_journal,
                              setEntries_window, setEntries_retention, setEntries_clock,
                              setEntries_notices, setEntries_emergency, setEntries_seen]; split)
             | split)

@[simp] theorem touchEntry_frame (s : State) (e : SeenEntry) :
    (s.touchEntry e).pending = s.pending ∧ (s.touchEntry e).free = s.free ∧ (s.touchEntry e).powered = s.powered ∧ (s.touchEntry
    e).nvwp = s.nvwp ∧ (s.touchEntry e).link = s.link ∧ (s.touchEntry e).proc = s.proc ∧ (s.touchEntry e).lanes = s.lanes ∧
    (s.touchEntry e).claims = s.claims ∧ (s.touchEntry e).hot = s.hot ∧ (s.touchEntry e).recovery = s.recovery ∧ (s.touchEntry
    e).fare = s.fare ∧ (s.touchEntry e).incidents = s.incidents ∧ (s.touchEntry e).keys = s.keys ∧ (s.touchEntry e).journal =
    s.journal ∧ (s.touchEntry e).window = s.window ∧ (s.touchEntry e).retention = s.retention ∧ (s.touchEntry e).clock = s.clock
    ∧ (s.touchEntry e).notices = s.notices ∧ (s.touchEntry e).emergency = s.emergency ∧ (s.touchEntry e).seen.inbox =
    s.seen.inbox := by
  refine ⟨?_, ?_, ?_, ?_, ?_, ?_, ?_, ?_, ?_, ?_, ?_, ?_, ?_, ?_, ?_, ?_, ?_, ?_, ?_, ?_⟩
  all_goals
    first
      | with_reducible rfl
      | (unfold State.touchEntry
         (try dsimp only)
         repeat'
           first
             | with_reducible rfl
             | (simp only [setEntries_pending, setEntries_free, setEntries_powered, setEntries_nvwp,
                              setEntries_link, setEntries_proc, setEntries_lanes, setEntries_claims,
                              setEntries_hot, setEntries_recovery, setEntries_fare,
                              setEntries_incidents, setEntries_keys, setEntries_journal,
                              setEntries_window, setEntries_retention, setEntries_clock,
                              setEntries_notices, setEntries_emergency, setEntries_seen]; done)
             | (simp only [setEntries_pending, setEntries_free, setEntries_powered, setEntries_nvwp,
                              setEntries_link, setEntries_proc, setEntries_lanes, setEntries_claims,
                              setEntries_hot, setEntries_recovery, setEntries_fare,
                              setEntries_incidents, setEntries_keys, setEntries_journal,
                              setEntries_window, setEntries_retention, setEntries_clock,
                              setEntries_notices, setEntries_emergency, setEntries_seen]; split)
             | split)

@[simp] theorem entryFrom_frame (s : State) (u : SeenChange) :
    (s.entryFrom u).pending = s.pending ∧ (s.entryFrom u).powered = s.powered ∧ (s.entryFrom u).nvwp = s.nvwp ∧ (s.entryFrom
    u).link = s.link ∧ (s.entryFrom u).proc = s.proc ∧ (s.entryFrom u).lanes = s.lanes ∧ (s.entryFrom u).claims = s.claims ∧
    (s.entryFrom u).hot = s.hot ∧ (s.entryFrom u).recovery = s.recovery ∧ (s.entryFrom u).fare = s.fare ∧ (s.entryFrom
    u).incidents = s.incidents ∧ (s.entryFrom u).keys = s.keys ∧ (s.entryFrom u).journal = s.journal ∧ (s.entryFrom u).window =
    s.window ∧ (s.entryFrom u).retention = s.retention ∧ (s.entryFrom u).clock = s.clock ∧ (s.entryFrom u).notices = s.notices ∧
    (s.entryFrom u).emergency = s.emergency ∧ (s.entryFrom u).seen.inbox = s.seen.inbox := by
  refine ⟨?_, ?_, ?_, ?_, ?_, ?_, ?_, ?_, ?_, ?_, ?_, ?_, ?_, ?_, ?_, ?_, ?_, ?_, ?_⟩
  all_goals
    first
      | with_reducible rfl
      | (unfold State.entryFrom
         (try dsimp only)
         repeat'
           first
             | with_reducible rfl
             | (simp only [fresh_frame, newEntry_frame]; done)
             | (simp only [fresh_frame, newEntry_frame]; split)
             | split)

@[simp] theorem takeSeenChange_frame (s : State) (u : SeenChange) :
    (s.takeSeenChange u).pending = s.pending ∧ (s.takeSeenChange u).powered = s.powered ∧ (s.takeSeenChange u).nvwp = s.nvwp ∧
    (s.takeSeenChange u).link = s.link ∧ (s.takeSeenChange u).proc = s.proc ∧ (s.takeSeenChange u).lanes = s.lanes ∧
    (s.takeSeenChange u).claims = s.claims ∧ (s.takeSeenChange u).hot = s.hot ∧ (s.takeSeenChange u).recovery = s.recovery ∧
    (s.takeSeenChange u).fare = s.fare ∧ (s.takeSeenChange u).incidents = s.incidents ∧ (s.takeSeenChange u).keys = s.keys ∧
    (s.takeSeenChange u).journal = s.journal ∧ (s.takeSeenChange u).window = s.window ∧ (s.takeSeenChange u).retention =
    s.retention ∧ (s.takeSeenChange u).clock = s.clock ∧ (s.takeSeenChange u).notices = s.notices ∧ (s.takeSeenChange
    u).emergency = s.emergency ∧ (s.takeSeenChange u).seen.inbox = s.seen.inbox := by
  refine ⟨?_, ?_, ?_, ?_, ?_, ?_, ?_, ?_, ?_, ?_, ?_, ?_, ?_, ?_, ?_, ?_, ?_, ?_, ?_⟩
  all_goals
    first
      | with_reducible rfl
      | (unfold State.takeSeenChange
         (try dsimp only)
         repeat'
           first
             | with_reducible rfl
             | (simp only [touchEntry_frame, entryFrom_frame]; done)
             | (simp only [touchEntry_frame, entryFrom_frame]; split)
             | split)

@[simp] theorem takeGrantUpdate_frame (s : State) (u : GrantUpdate) :
    (s.takeGrantUpdate u).pending = s.pending ∧ (s.takeGrantUpdate u).free = s.free ∧ (s.takeGrantUpdate u).powered = s.powered
    ∧ (s.takeGrantUpdate u).nvwp = s.nvwp ∧ (s.takeGrantUpdate u).link = s.link ∧ (s.takeGrantUpdate u).proc = s.proc ∧
    (s.takeGrantUpdate u).lanes = s.lanes ∧ (s.takeGrantUpdate u).claims = s.claims ∧ (s.takeGrantUpdate u).hot = s.hot ∧
    (s.takeGrantUpdate u).recovery = s.recovery ∧ (s.takeGrantUpdate u).fare = s.fare ∧ (s.takeGrantUpdate u).incidents =
    s.incidents ∧ (s.takeGrantUpdate u).keys = s.keys ∧ (s.takeGrantUpdate u).journal = s.journal ∧ (s.takeGrantUpdate u).window
    = s.window ∧ (s.takeGrantUpdate u).retention = s.retention ∧ (s.takeGrantUpdate u).clock = s.clock ∧ (s.takeGrantUpdate
    u).notices = s.notices ∧ (s.takeGrantUpdate u).emergency = s.emergency ∧ (s.takeGrantUpdate u).seen.inbox = s.seen.inbox :=
    by
  refine ⟨?_, ?_, ?_, ?_, ?_, ?_, ?_, ?_, ?_, ?_, ?_, ?_, ?_, ?_, ?_, ?_, ?_, ?_, ?_, ?_⟩
  all_goals
    first
      | with_reducible rfl
      | (unfold State.takeGrantUpdate
         (try dsimp only)
         repeat'
           first
             | with_reducible rfl
             | (simp only [touchEntry_frame]; done)
             | (simp only [touchEntry_frame]; split)
             | split)

/-- What is sent: nothing for a grant with no identity, else one update with the station time of the step (R77, R79). -/
theorem sendGrantUpdate_inbox (s : State) (n : LaneId) (p : Bool) (g : Grant) :
    (s.sendGrantUpdate n p g).seen.inbox =
      s.seen.inbox ++ (g.identity.map (fun id => ⟨p, id, n, g.direction, s.clock.time⟩)).toList := by
  unfold State.sendGrantUpdate
  split <;> simp [*]

/-- All that a taken update does: nothing, or one entry of its lane and direction moved to the end with the update's outcome and time
(R79). -/
theorem takeGrantUpdate_cases (s : State) (u : GrantUpdate) :
    s.takeGrantUpdate u = s ∨ ∃ e, s.seenLookup u.identity = some e ∧ e.lane = u.lane ∧ e.direction = u.direction ∧
      s.takeGrantUpdate u = s.touchEntry { e with outcome := if u.passed then .passed else .unused, time := u.time } := by
  unfold State.takeGrantUpdate
  split
  · rename_i e h
    split
    · rename_i c
      exact Or.inr ⟨e, h, c.1, c.2, rfl⟩
    · exact Or.inl rfl
  · exact Or.inl rfl

@[simp] theorem sendGrantUpdate_frame (s : State) (n : LaneId) (p : Bool) (g : Grant) :
    (s.sendGrantUpdate n p g).pending = s.pending ∧ (s.sendGrantUpdate n p g).free = s.free ∧ (s.sendGrantUpdate n p g).powered
    = s.powered ∧ (s.sendGrantUpdate n p g).nvwp = s.nvwp ∧ (s.sendGrantUpdate n p g).link = s.link ∧ (s.sendGrantUpdate n p
    g).proc = s.proc ∧ (s.sendGrantUpdate n p g).lanes = s.lanes ∧ (s.sendGrantUpdate n p g).claims = s.claims ∧
    (s.sendGrantUpdate n p g).hot = s.hot ∧ (s.sendGrantUpdate n p g).recovery = s.recovery ∧ (s.sendGrantUpdate n p g).fare =
    s.fare ∧ (s.sendGrantUpdate n p g).incidents = s.incidents ∧ (s.sendGrantUpdate n p g).keys = s.keys ∧ (s.sendGrantUpdate n
    p g).journal = s.journal ∧ (s.sendGrantUpdate n p g).window = s.window ∧ (s.sendGrantUpdate n p g).retention = s.retention ∧
    (s.sendGrantUpdate n p g).clock = s.clock ∧ (s.sendGrantUpdate n p g).notices = s.notices ∧ (s.sendGrantUpdate n p
    g).emergency = s.emergency ∧ (s.sendGrantUpdate n p g).seen.entries = s.seen.entries := by
  refine ⟨?_, ?_, ?_, ?_, ?_, ?_, ?_, ?_, ?_, ?_, ?_, ?_, ?_, ?_, ?_, ?_, ?_, ?_, ?_, ?_⟩
  all_goals
    first
      | with_reducible rfl
      | (unfold State.sendGrantUpdate
         repeat'
           first
             | with_reducible rfl
             | split)
      | (simp [State.sendGrantUpdate]; done)

@[simp] theorem markTear_frame (s : State) (i : SlotId) (f : SlotFields) :
    (s.markTear i f).pending = s.pending ∧ (s.markTear i f).free = s.free ∧ (s.markTear i f).powered = s.powered ∧ (s.markTear i
    f).nvwp = s.nvwp ∧ (s.markTear i f).link = s.link ∧ (s.markTear i f).proc = s.proc ∧ (s.markTear i f).lanes = s.lanes ∧
    (s.markTear i f).claims = s.claims ∧ (s.markTear i f).hot = s.hot ∧ (s.markTear i f).recovery = s.recovery ∧ (s.markTear i
    f).fare = s.fare ∧ (s.markTear i f).incidents = s.incidents ∧ (s.markTear i f).keys = s.keys ∧ (s.markTear i f).journal =
    s.journal ∧ (s.markTear i f).window = s.window ∧ (s.markTear i f).retention = s.retention ∧ (s.markTear i f).clock = s.clock
    ∧ (s.markTear i f).notices = s.notices ∧ (s.markTear i f).emergency = s.emergency ∧ (s.markTear i f).seen.inbox =
    s.seen.inbox := by
  refine ⟨?_, ?_, ?_, ?_, ?_, ?_, ?_, ?_, ?_, ?_, ?_, ?_, ?_, ?_, ?_, ?_, ?_, ?_, ?_, ?_⟩
  all_goals
    first
      | with_reducible rfl
      | (unfold State.markTear
         (try dsimp only)
         repeat'
           first
             | with_reducible rfl
             | (simp only [newEntry_frame, touchEntry_frame]; done)
             | (simp only [newEntry_frame, touchEntry_frame]; split)
             | split)

@[simp] theorem unmarkTear_frame (s : State) (id : Identity) :
    (s.unmarkTear id).pending = s.pending ∧ (s.unmarkTear id).free = s.free ∧ (s.unmarkTear id).powered = s.powered ∧
    (s.unmarkTear id).nvwp = s.nvwp ∧ (s.unmarkTear id).link = s.link ∧ (s.unmarkTear id).proc = s.proc ∧ (s.unmarkTear
    id).lanes = s.lanes ∧ (s.unmarkTear id).claims = s.claims ∧ (s.unmarkTear id).hot = s.hot ∧ (s.unmarkTear id).recovery =
    s.recovery ∧ (s.unmarkTear id).fare = s.fare ∧ (s.unmarkTear id).incidents = s.incidents ∧ (s.unmarkTear id).keys = s.keys ∧
    (s.unmarkTear id).journal = s.journal ∧ (s.unmarkTear id).window = s.window ∧ (s.unmarkTear id).retention = s.retention ∧
    (s.unmarkTear id).clock = s.clock ∧ (s.unmarkTear id).notices = s.notices ∧ (s.unmarkTear id).emergency = s.emergency ∧
    (s.unmarkTear id).seen.inbox = s.seen.inbox := by
  refine ⟨?_, ?_, ?_, ?_, ?_, ?_, ?_, ?_, ?_, ?_, ?_, ?_, ?_, ?_, ?_, ?_, ?_, ?_, ?_, ?_⟩
  all_goals
    first
      | with_reducible rfl
      | (unfold State.unmarkTear
         (try dsimp only)
         repeat'
           first
             | with_reducible rfl
             | (simp only [setEntries_pending, setEntries_free, setEntries_powered, setEntries_nvwp,
                              setEntries_link, setEntries_proc, setEntries_lanes, setEntries_claims,
                              setEntries_hot, setEntries_recovery, setEntries_fare,
                              setEntries_incidents, setEntries_keys, setEntries_journal,
                              setEntries_window, setEntries_retention, setEntries_clock,
                              setEntries_notices, setEntries_emergency, setEntries_seen]; done)
             | (simp only [setEntries_pending, setEntries_free, setEntries_powered, setEntries_nvwp,
                              setEntries_link, setEntries_proc, setEntries_lanes, setEntries_claims,
                              setEntries_hot, setEntries_recovery, setEntries_fare,
                              setEntries_incidents, setEntries_keys, setEntries_journal,
                              setEntries_window, setEntries_retention, setEntries_clock,
                              setEntries_notices, setEntries_emergency, setEntries_seen]; split)
             | split)

@[simp] theorem raiseSeenCounter_frame (s : State) (id : Identity) (c : Nat) :
    (s.raiseSeenCounter id c).pending = s.pending ∧ (s.raiseSeenCounter id c).free = s.free ∧ (s.raiseSeenCounter id c).powered
    = s.powered ∧ (s.raiseSeenCounter id c).nvwp = s.nvwp ∧ (s.raiseSeenCounter id c).link = s.link ∧ (s.raiseSeenCounter id
    c).proc = s.proc ∧ (s.raiseSeenCounter id c).lanes = s.lanes ∧ (s.raiseSeenCounter id c).claims = s.claims ∧
    (s.raiseSeenCounter id c).hot = s.hot ∧ (s.raiseSeenCounter id c).recovery = s.recovery ∧ (s.raiseSeenCounter id c).fare =
    s.fare ∧ (s.raiseSeenCounter id c).incidents = s.incidents ∧ (s.raiseSeenCounter id c).keys = s.keys ∧ (s.raiseSeenCounter
    id c).journal = s.journal ∧ (s.raiseSeenCounter id c).window = s.window ∧ (s.raiseSeenCounter id c).retention = s.retention
    ∧ (s.raiseSeenCounter id c).clock = s.clock ∧ (s.raiseSeenCounter id c).notices = s.notices ∧ (s.raiseSeenCounter id
    c).emergency = s.emergency ∧ (s.raiseSeenCounter id c).seen.inbox = s.seen.inbox := by
  refine ⟨?_, ?_, ?_, ?_, ?_, ?_, ?_, ?_, ?_, ?_, ?_, ?_, ?_, ?_, ?_, ?_, ?_, ?_, ?_, ?_⟩
  all_goals
    first
      | with_reducible rfl
      | (unfold State.raiseSeenCounter
         (try dsimp only)
         repeat'
           first
             | with_reducible rfl
             | (simp only [setEntries_pending, setEntries_free, setEntries_powered, setEntries_nvwp,
                              setEntries_link, setEntries_proc, setEntries_lanes, setEntries_claims,
                              setEntries_hot, setEntries_recovery, setEntries_fare,
                              setEntries_incidents, setEntries_keys, setEntries_journal,
                              setEntries_window, setEntries_retention, setEntries_clock,
                              setEntries_notices, setEntries_emergency, setEntries_seen]; done)
             | (simp only [setEntries_pending, setEntries_free, setEntries_powered, setEntries_nvwp,
                              setEntries_link, setEntries_proc, setEntries_lanes, setEntries_claims,
                              setEntries_hot, setEntries_recovery, setEntries_fare,
                              setEntries_incidents, setEntries_keys, setEntries_journal,
                              setEntries_window, setEntries_retention, setEntries_clock,
                              setEntries_notices, setEntries_emergency, setEntries_seen]; split)
             | split)

@[simp] theorem sweep_frame (s : State) :
    (s.sweep).pending = s.pending ∧ (s.sweep).free = s.free ∧ (s.sweep).powered = s.powered ∧ (s.sweep).nvwp = s.nvwp ∧
    (s.sweep).link = s.link ∧ (s.sweep).proc = s.proc ∧ (s.sweep).lanes = s.lanes ∧ (s.sweep).claims = s.claims ∧ (s.sweep).hot
    = s.hot ∧ (s.sweep).recovery = s.recovery ∧ (s.sweep).fare = s.fare ∧ (s.sweep).incidents = s.incidents ∧ (s.sweep).keys =
    s.keys ∧ (s.sweep).journal = s.journal ∧ (s.sweep).window = s.window ∧ (s.sweep).retention = s.retention ∧ (s.sweep).clock =
    s.clock ∧ (s.sweep).notices = s.notices ∧ (s.sweep).emergency = s.emergency ∧ (s.sweep).seen.inbox = s.seen.inbox := by
  refine ⟨?_, ?_, ?_, ?_, ?_, ?_, ?_, ?_, ?_, ?_, ?_, ?_, ?_, ?_, ?_, ?_, ?_, ?_, ?_, ?_⟩
  all_goals
    first
      | with_reducible rfl
      | (unfold State.sweep
         repeat'
           first
             | with_reducible rfl
             | split)
      | (simp [State.sweep]; done)

@[simp] theorem addLocal_frame (s : State) (n : LaneId) (id : Identity) :
    (s.addLocal n id).pending = s.pending ∧ (s.addLocal n id).free = s.free ∧ (s.addLocal n id).powered = s.powered ∧
    (s.addLocal n id).nvwp = s.nvwp ∧ (s.addLocal n id).link = s.link ∧ (s.addLocal n id).proc = s.proc ∧ (s.addLocal n
    id).lanes = s.lanes ∧ (s.addLocal n id).claims = s.claims ∧ (s.addLocal n id).seen = s.seen ∧ (s.addLocal n id).recovery =
    s.recovery ∧ (s.addLocal n id).fare = s.fare ∧ (s.addLocal n id).incidents = s.incidents ∧ (s.addLocal n id).keys = s.keys ∧
    (s.addLocal n id).window = s.window ∧ (s.addLocal n id).retention = s.retention ∧ (s.addLocal n id).clock = s.clock ∧
    (s.addLocal n id).emergency = s.emergency ∧ (s.addLocal n id).hot.active = s.hot.active ∧ (s.addLocal n
    id).notices.conditions = s.notices.conditions ∧ (s.addLocal n id).notices.pending = s.notices.pending ∧ (s.addLocal n
    id).notices.levels = s.notices.levels := by
  refine ⟨?_, ?_, ?_, ?_, ?_, ?_, ?_, ?_, ?_, ?_, ?_, ?_, ?_, ?_, ?_, ?_, ?_, ?_, ?_, ?_, ?_⟩
  all_goals
    first
      | with_reducible rfl
      | (unfold State.addLocal
         (try dsimp only)
         repeat'
           first
             | with_reducible rfl
             | (simp only [record_frame, raise_pending, raise_free, raise_powered, raise_nvwp, raise_link,
                              raise_proc, raise_lanes, raise_claims, raise_seen, raise_recovery,
                              raise_fare, raise_incidents, raise_keys, raise_window,
                              raise_retention, raise_clock, raise_emergency, raise_hot,
                              raise_notices]; done)
             | (simp only [record_frame, raise_pending, raise_free, raise_powered, raise_nvwp, raise_link,
                              raise_proc, raise_lanes, raise_claims, raise_seen, raise_recovery,
                              raise_fare, raise_incidents, raise_keys, raise_window,
                              raise_retention, raise_clock, raise_emergency, raise_hot,
                              raise_notices]; split)
             | split)

@[simp] theorem expiryFrom_frame (s : State) (t : Nat) :
    ((s.expiryFrom t).2).pending = s.pending ∧ ((s.expiryFrom t).2).powered = s.powered ∧ ((s.expiryFrom t).2).nvwp = s.nvwp ∧
    ((s.expiryFrom t).2).link = s.link ∧ ((s.expiryFrom t).2).proc = s.proc ∧ ((s.expiryFrom t).2).lanes = s.lanes ∧
    ((s.expiryFrom t).2).claims = s.claims ∧ ((s.expiryFrom t).2).seen = s.seen ∧ ((s.expiryFrom t).2).hot = s.hot ∧
    ((s.expiryFrom t).2).recovery = s.recovery ∧ ((s.expiryFrom t).2).fare = s.fare ∧ ((s.expiryFrom t).2).incidents =
    s.incidents ∧ ((s.expiryFrom t).2).keys = s.keys ∧ ((s.expiryFrom t).2).journal = s.journal ∧ ((s.expiryFrom t).2).window =
    s.window ∧ ((s.expiryFrom t).2).retention = s.retention ∧ ((s.expiryFrom t).2).clock = s.clock ∧ ((s.expiryFrom
    t).2).notices = s.notices ∧ ((s.expiryFrom t).2).emergency = s.emergency := by
  refine ⟨?_, ?_, ?_, ?_, ?_, ?_, ?_, ?_, ?_, ?_, ?_, ?_, ?_, ?_, ?_, ?_, ?_, ?_, ?_⟩
  all_goals
    first
      | with_reducible rfl
      | (unfold State.expiryFrom
         (try dsimp only)
         repeat'
           first
             | with_reducible rfl
             | (simp only [fresh_frame]; done)
             | (simp only [fresh_frame]; split)
             | split)

@[simp] theorem openReserved_frame (s : State) (i : SlotId) (em : Bool) :
    (s.openReserved i em).pending = s.pending ∧ (s.openReserved i em).powered = s.powered ∧ (s.openReserved i em).nvwp = s.nvwp
    ∧ (s.openReserved i em).link = s.link ∧ (s.openReserved i em).proc = s.proc ∧ (s.openReserved i em).lanes = s.lanes ∧
    (s.openReserved i em).claims = s.claims ∧ (s.openReserved i em).hot = s.hot ∧ (s.openReserved i em).fare = s.fare ∧
    (s.openReserved i em).incidents = s.incidents ∧ (s.openReserved i em).keys = s.keys ∧ (s.openReserved i em).journal =
    s.journal ∧ (s.openReserved i em).window = s.window ∧ (s.openReserved i em).retention = s.retention ∧ (s.openReserved i
    em).clock = s.clock ∧ (s.openReserved i em).notices = s.notices ∧ (s.openReserved i em).emergency = s.emergency ∧
    (s.openReserved i em).seen.inbox = s.seen.inbox := by
  refine ⟨?_, ?_, ?_, ?_, ?_, ?_, ?_, ?_, ?_, ?_, ?_, ?_, ?_, ?_, ?_, ?_, ?_, ?_⟩
  all_goals
    first
      | with_reducible rfl
      | (unfold State.openReserved
         (try dsimp only)
         repeat'
           first
             | with_reducible rfl
             | (simp only [markTear_frame, expiryFrom_frame, setSlot_pending, setSlot_powered, setSlot_nvwp,
                              setSlot_link, setSlot_proc, setSlot_lanes, setSlot_claims,
                              setSlot_hot, setSlot_fare, setSlot_incidents, setSlot_keys,
                              setSlot_journal, setSlot_window, setSlot_retention, setSlot_clock,
                              setSlot_notices, setSlot_emergency, setSlot_seen]; done)
             | (simp only [markTear_frame, expiryFrom_frame, setSlot_pending, setSlot_powered, setSlot_nvwp,
                              setSlot_link, setSlot_proc, setSlot_lanes, setSlot_claims,
                              setSlot_hot, setSlot_fare, setSlot_incidents, setSlot_keys,
                              setSlot_journal, setSlot_window, setSlot_retention, setSlot_clock,
                              setSlot_notices, setSlot_emergency, setSlot_seen]; split)
             | split)

@[simp] theorem freeReserved_frame (s : State) (i : SlotId) :
    (s.freeReserved i).pending = s.pending ∧ (s.freeReserved i).free = s.free ∧ (s.freeReserved i).powered = s.powered ∧
    (s.freeReserved i).nvwp = s.nvwp ∧ (s.freeReserved i).link = s.link ∧ (s.freeReserved i).proc = s.proc ∧ (s.freeReserved
    i).lanes = s.lanes ∧ (s.freeReserved i).claims = s.claims ∧ (s.freeReserved i).seen = s.seen ∧ (s.freeReserved i).hot =
    s.hot ∧ (s.freeReserved i).fare = s.fare ∧ (s.freeReserved i).incidents = s.incidents ∧ (s.freeReserved i).keys = s.keys ∧
    (s.freeReserved i).journal = s.journal ∧ (s.freeReserved i).window = s.window ∧ (s.freeReserved i).retention = s.retention ∧
    (s.freeReserved i).clock = s.clock ∧ (s.freeReserved i).notices = s.notices ∧ (s.freeReserved i).emergency = s.emergency :=
    by
  refine ⟨?_, ?_, ?_, ?_, ?_, ?_, ?_, ?_, ?_, ?_, ?_, ?_, ?_, ?_, ?_, ?_, ?_, ?_, ?_⟩
  all_goals
    first
      | with_reducible rfl
      | (unfold State.freeReserved
         (try dsimp only)
         repeat'
           first
             | with_reducible rfl
             | (simp only [setSlot_pending, setSlot_free, setSlot_powered, setSlot_nvwp, setSlot_link,
                              setSlot_proc, setSlot_lanes, setSlot_claims, setSlot_seen,
                              setSlot_hot, setSlot_fare, setSlot_incidents, setSlot_keys,
                              setSlot_journal, setSlot_window, setSlot_retention, setSlot_clock,
                              setSlot_notices, setSlot_emergency]; done)
             | (simp only [setSlot_pending, setSlot_free, setSlot_powered, setSlot_nvwp, setSlot_link,
                              setSlot_proc, setSlot_lanes, setSlot_claims, setSlot_seen,
                              setSlot_hot, setSlot_fare, setSlot_incidents, setSlot_keys,
                              setSlot_journal, setSlot_window, setSlot_retention, setSlot_clock,
                              setSlot_notices, setSlot_emergency]; split)
             | split)

@[simp] theorem closeSlot_frame (s : State) (i : SlotId) (o : TearOutcome) (n : LaneId) :
    ((s.closeSlot i o n).1).pending = s.pending ∧ ((s.closeSlot i o n).1).free = s.free ∧ ((s.closeSlot i o n).1).powered =
    s.powered ∧ ((s.closeSlot i o n).1).nvwp = s.nvwp ∧ ((s.closeSlot i o n).1).link = s.link ∧ ((s.closeSlot i o n).1).proc =
    s.proc ∧ ((s.closeSlot i o n).1).lanes = s.lanes ∧ ((s.closeSlot i o n).1).claims = s.claims ∧ ((s.closeSlot i o n).1).hot =
    s.hot ∧ ((s.closeSlot i o n).1).fare = s.fare ∧ ((s.closeSlot i o n).1).incidents = s.incidents ∧ ((s.closeSlot i o
    n).1).keys = s.keys ∧ ((s.closeSlot i o n).1).window = s.window ∧ ((s.closeSlot i o n).1).retention = s.retention ∧
    ((s.closeSlot i o n).1).clock = s.clock ∧ ((s.closeSlot i o n).1).emergency = s.emergency ∧ ((s.closeSlot i o
    n).1).seen.inbox = s.seen.inbox ∧ ((s.closeSlot i o n).1).notices.conditions = s.notices.conditions ∧ ((s.closeSlot i o
    n).1).notices.pending = s.notices.pending ∧ ((s.closeSlot i o n).1).notices.levels = s.notices.levels := by
  refine ⟨?_, ?_, ?_, ?_, ?_, ?_, ?_, ?_, ?_, ?_, ?_, ?_, ?_, ?_, ?_, ?_, ?_, ?_, ?_, ?_⟩
  all_goals
    first
      | with_reducible rfl
      | (unfold State.closeSlot
         (try dsimp only)
         repeat'
           first
             | with_reducible rfl
             | (simp only [append_frame, unmarkTear_frame, raiseSeenCounter_frame, setSlot_pending, setSlot_free,
                              setSlot_powered, setSlot_nvwp, setSlot_link, setSlot_proc,
                              setSlot_lanes, setSlot_claims, setSlot_hot, setSlot_fare,
                              setSlot_incidents, setSlot_keys, setSlot_window, setSlot_retention,
                              setSlot_clock, setSlot_emergency, setSlot_seen, setSlot_notices]; done)
             | (simp only [append_frame, unmarkTear_frame, raiseSeenCounter_frame, setSlot_pending, setSlot_free,
                              setSlot_powered, setSlot_nvwp, setSlot_link, setSlot_proc,
                              setSlot_lanes, setSlot_claims, setSlot_hot, setSlot_fare,
                              setSlot_incidents, setSlot_keys, setSlot_window, setSlot_retention,
                              setSlot_clock, setSlot_emergency, setSlot_seen, setSlot_notices]; split)
             | split)

@[simp] theorem setSense_frame (s : State) (t : Target) (x : Option Sense) :
    (s.setSense t x).pending = s.pending ∧ (s.setSense t x).free = s.free ∧ (s.setSense t x).powered = s.powered ∧ (s.setSense t
    x).nvwp = s.nvwp ∧ (s.setSense t x).link = s.link ∧ (s.setSense t x).lanes = s.lanes ∧ (s.setSense t x).claims = s.claims ∧
    (s.setSense t x).seen = s.seen ∧ (s.setSense t x).hot = s.hot ∧ (s.setSense t x).recovery = s.recovery ∧ (s.setSense t
    x).fare = s.fare ∧ (s.setSense t x).incidents = s.incidents ∧ (s.setSense t x).keys = s.keys ∧ (s.setSense t x).journal =
    s.journal ∧ (s.setSense t x).window = s.window ∧ (s.setSense t x).retention = s.retention ∧ (s.setSense t x).clock = s.clock
    ∧ (s.setSense t x).notices = s.notices ∧ (s.setSense t x).emergency = s.emergency := by
  refine ⟨?_, ?_, ?_, ?_, ?_, ?_, ?_, ?_, ?_, ?_, ?_, ?_, ?_, ?_, ?_, ?_, ?_, ?_, ?_⟩
  all_goals
    first
      | with_reducible rfl
      | (unfold State.setSense
         repeat'
           first
             | with_reducible rfl
             | split)
      | (simp [State.setSense]; done)

@[simp] theorem answer_frame (s : State) (tag : Byte) (t : Target) (a : Answer) :
    (s.answer tag t a).pending = s.pending ∧ (s.answer tag t a).free = s.free ∧ (s.answer tag t a).powered = s.powered ∧
    (s.answer tag t a).nvwp = s.nvwp ∧ (s.answer tag t a).lanes = s.lanes ∧ (s.answer tag t a).claims = s.claims ∧ (s.answer tag
    t a).seen = s.seen ∧ (s.answer tag t a).hot = s.hot ∧ (s.answer tag t a).recovery = s.recovery ∧ (s.answer tag t a).fare =
    s.fare ∧ (s.answer tag t a).incidents = s.incidents ∧ (s.answer tag t a).keys = s.keys ∧ (s.answer tag t a).journal =
    s.journal ∧ (s.answer tag t a).window = s.window ∧ (s.answer tag t a).retention = s.retention ∧ (s.answer tag t a).clock =
    s.clock ∧ (s.answer tag t a).notices = s.notices ∧ (s.answer tag t a).emergency = s.emergency ∧ (s.answer tag t
    a).link.requests = s.link.requests ∧ (s.answer tag t a).link.framer = s.link.framer := by
  refine ⟨?_, ?_, ?_, ?_, ?_, ?_, ?_, ?_, ?_, ?_, ?_, ?_, ?_, ?_, ?_, ?_, ?_, ?_, ?_, ?_⟩
  all_goals
    first
      | with_reducible rfl
      | (unfold State.answer
         (try dsimp only)
         repeat'
           first
             | with_reducible rfl
             | (simp only [setSense_frame]; done)
             | (simp only [setSense_frame]; split)
             | split)

@[simp] theorem takeRequest_frame (s : State) (r : Request) (rest : List (List Byte)) :
    (s.takeRequest r rest).pending = s.pending ∧ (s.takeRequest r rest).free = s.free ∧ (s.takeRequest r rest).powered =
    s.powered ∧ (s.takeRequest r rest).nvwp = s.nvwp ∧ (s.takeRequest r rest).lanes = s.lanes ∧ (s.takeRequest r rest).claims =
    s.claims ∧ (s.takeRequest r rest).seen = s.seen ∧ (s.takeRequest r rest).hot = s.hot ∧ (s.takeRequest r rest).recovery =
    s.recovery ∧ (s.takeRequest r rest).fare = s.fare ∧ (s.takeRequest r rest).incidents = s.incidents ∧ (s.takeRequest r
    rest).keys = s.keys ∧ (s.takeRequest r rest).journal = s.journal ∧ (s.takeRequest r rest).window = s.window ∧ (s.takeRequest
    r rest).retention = s.retention ∧ (s.takeRequest r rest).clock = s.clock ∧ (s.takeRequest r rest).notices = s.notices ∧
    (s.takeRequest r rest).emergency = s.emergency ∧ (s.takeRequest r rest).link.replies = s.link.replies ∧ (s.takeRequest r
    rest).link.framer = s.link.framer := by
  refine ⟨?_, ?_, ?_, ?_, ?_, ?_, ?_, ?_, ?_, ?_, ?_, ?_, ?_, ?_, ?_, ?_, ?_, ?_, ?_, ?_⟩
  all_goals
    first
      | with_reducible rfl
      | (unfold State.takeRequest
         (try dsimp only)
         repeat'
           first
             | with_reducible rfl
             | (simp only [setSense_frame]; done)
             | (simp only [setSense_frame]; split)
             | split)

@[simp] theorem endLong_frame (s : State) (x : Option Sense) :
    (s.endLong x).pending = s.pending ∧ (s.endLong x).free = s.free ∧ (s.endLong x).powered = s.powered ∧ (s.endLong x).nvwp =
    s.nvwp ∧ (s.endLong x).lanes = s.lanes ∧ (s.endLong x).claims = s.claims ∧ (s.endLong x).seen = s.seen ∧ (s.endLong x).hot =
    s.hot ∧ (s.endLong x).recovery = s.recovery ∧ (s.endLong x).fare = s.fare ∧ (s.endLong x).incidents = s.incidents ∧
    (s.endLong x).keys = s.keys ∧ (s.endLong x).journal = s.journal ∧ (s.endLong x).window = s.window ∧ (s.endLong x).retention
    = s.retention ∧ (s.endLong x).clock = s.clock ∧ (s.endLong x).notices = s.notices ∧ (s.endLong x).emergency = s.emergency ∧
    (s.endLong x).link.requests = s.link.requests ∧ (s.endLong x).link.replies = s.link.replies ∧ (s.endLong x).link.framer =
    s.link.framer := by
  refine ⟨?_, ?_, ?_, ?_, ?_, ?_, ?_, ?_, ?_, ?_, ?_, ?_, ?_, ?_, ?_, ?_, ?_, ?_, ?_, ?_, ?_⟩
  all_goals
    first
      | with_reducible rfl
      | (unfold State.endLong
         (try dsimp only)
         repeat'
           first
             | with_reducible rfl
             | (simp only [setSense_frame]; done)
             | (simp only [setSense_frame]; split)
             | split)

@[simp] theorem settleGate_frame (s : State) (n : LaneId) :
    (s.settleGate n).pending = s.pending ∧ (s.settleGate n).free = s.free ∧ (s.settleGate n).powered = s.powered ∧ (s.settleGate
    n).nvwp = s.nvwp ∧ (s.settleGate n).link = s.link ∧ (s.settleGate n).proc = s.proc ∧ (s.settleGate n).claims = s.claims ∧
    (s.settleGate n).seen = s.seen ∧ (s.settleGate n).hot = s.hot ∧ (s.settleGate n).recovery = s.recovery ∧ (s.settleGate
    n).fare = s.fare ∧ (s.settleGate n).incidents = s.incidents ∧ (s.settleGate n).keys = s.keys ∧ (s.settleGate n).journal =
    s.journal ∧ (s.settleGate n).window = s.window ∧ (s.settleGate n).retention = s.retention ∧ (s.settleGate n).clock = s.clock
    ∧ (s.settleGate n).notices = s.notices ∧ (s.settleGate n).emergency = s.emergency := by
  refine ⟨?_, ?_, ?_, ?_, ?_, ?_, ?_, ?_, ?_, ?_, ?_, ?_, ?_, ?_, ?_, ?_, ?_, ?_, ?_⟩
  all_goals
    first
      | with_reducible rfl
      | (unfold State.settleGate
         (try dsimp only)
         repeat'
           first
             | with_reducible rfl
             | (simp only [updLane_frame]; done)
             | (simp only [updLane_frame]; split)
             | split)

@[simp] theorem forfeitGrant_frame (s : State) (n : LaneId) (c : ForfeitCause) (g : Grant) :
    (s.forfeitGrant n c g).pending = s.pending ∧ (s.forfeitGrant n c g).free = s.free ∧ (s.forfeitGrant n c g).powered =
    s.powered ∧ (s.forfeitGrant n c g).nvwp = s.nvwp ∧ (s.forfeitGrant n c g).link = s.link ∧ (s.forfeitGrant n c g).proc =
    s.proc ∧ (s.forfeitGrant n c g).claims = s.claims ∧ (s.forfeitGrant n c g).hot = s.hot ∧ (s.forfeitGrant n c g).recovery =
    s.recovery ∧ (s.forfeitGrant n c g).fare = s.fare ∧ (s.forfeitGrant n c g).incidents = s.incidents ∧ (s.forfeitGrant n c
    g).keys = s.keys ∧ (s.forfeitGrant n c g).window = s.window ∧ (s.forfeitGrant n c g).retention = s.retention ∧
    (s.forfeitGrant n c g).clock = s.clock ∧ (s.forfeitGrant n c g).emergency = s.emergency ∧ (s.forfeitGrant n c
    g).seen.entries = s.seen.entries ∧ (s.forfeitGrant n c g).notices.conditions = s.notices.conditions ∧ (s.forfeitGrant n c
    g).notices.pending = s.notices.pending ∧ (s.forfeitGrant n c g).notices.levels = s.notices.levels := by
  refine ⟨?_, ?_, ?_, ?_, ?_, ?_, ?_, ?_, ?_, ?_, ?_, ?_, ?_, ?_, ?_, ?_, ?_, ?_, ?_, ?_⟩
  all_goals
    first
      | with_reducible rfl
      | (unfold State.forfeitGrant
         (try dsimp only)
         repeat'
           first
             | with_reducible rfl
             | (simp only [updCounters_frame, record_frame, sendGrantUpdate_frame]; done)
             | (simp only [updCounters_frame, record_frame, sendGrantUpdate_frame]; split)
             | split)

@[simp] theorem forfeit_frame (s : State) (n : LaneId) (c : ForfeitCause) :
    (s.forfeit n c).pending = s.pending ∧ (s.forfeit n c).free = s.free ∧ (s.forfeit n c).powered = s.powered ∧ (s.forfeit n
    c).nvwp = s.nvwp ∧ (s.forfeit n c).link = s.link ∧ (s.forfeit n c).proc = s.proc ∧ (s.forfeit n c).claims = s.claims ∧
    (s.forfeit n c).hot = s.hot ∧ (s.forfeit n c).recovery = s.recovery ∧ (s.forfeit n c).fare = s.fare ∧ (s.forfeit n
    c).incidents = s.incidents ∧ (s.forfeit n c).keys = s.keys ∧ (s.forfeit n c).window = s.window ∧ (s.forfeit n c).retention =
    s.retention ∧ (s.forfeit n c).clock = s.clock ∧ (s.forfeit n c).emergency = s.emergency ∧ (s.forfeit n c).seen.entries =
    s.seen.entries ∧ (s.forfeit n c).notices.conditions = s.notices.conditions ∧ (s.forfeit n c).notices.pending =
    s.notices.pending ∧ (s.forfeit n c).notices.levels = s.notices.levels := by
  refine ⟨?_, ?_, ?_, ?_, ?_, ?_, ?_, ?_, ?_, ?_, ?_, ?_, ?_, ?_, ?_, ?_, ?_, ?_, ?_, ?_⟩
  · unfold State.forfeit; simp only [updGate_frame]
    exact foldl_keeps (fun t : State => t.pending) _ (by intros; simp only [forfeitGrant_frame]) _ _
  · unfold State.forfeit; simp only [updGate_frame]
    exact foldl_keeps (fun t : State => t.free) _ (by intros; simp only [forfeitGrant_frame]) _ _
  · unfold State.forfeit; simp only [updGate_frame]
    exact foldl_keeps (fun t : State => t.powered) _ (by intros; simp only [forfeitGrant_frame]) _ _
  · unfold State.forfeit; simp only [updGate_frame]
    exact foldl_keeps (fun t : State => t.nvwp) _ (by intros; simp only [forfeitGrant_frame]) _ _
  · unfold State.forfeit; simp only [updGate_frame]
    exact foldl_keeps (fun t : State => t.link) _ (by intros; simp only [forfeitGrant_frame]) _ _
  · unfold State.forfeit; simp only [updGate_frame]
    exact foldl_keeps (fun t : State => t.proc) _ (by intros; simp only [forfeitGrant_frame]) _ _
  · unfold State.forfeit; simp only [updGate_frame]
    exact foldl_keeps (fun t : State => t.claims) _ (by intros; simp only [forfeitGrant_frame]) _ _
  · unfold State.forfeit; simp only [updGate_frame]
    exact foldl_keeps (fun t : State => t.hot) _ (by intros; simp only [forfeitGrant_frame]) _ _
  · unfold State.forfeit; simp only [updGate_frame]
    exact foldl_keeps (fun t : State => t.recovery) _ (by intros; simp only [forfeitGrant_frame]) _ _
  · unfold State.forfeit; simp only [updGate_frame]
    exact foldl_keeps (fun t : State => t.fare) _ (by intros; simp only [forfeitGrant_frame]) _ _
  · unfold State.forfeit; simp only [updGate_frame]
    exact foldl_keeps (fun t : State => t.incidents) _ (by intros; simp only [forfeitGrant_frame]) _ _
  · unfold State.forfeit; simp only [updGate_frame]
    exact foldl_keeps (fun t : State => t.keys) _ (by intros; simp only [forfeitGrant_frame]) _ _
  · unfold State.forfeit; simp only [updGate_frame]
    exact foldl_keeps (fun t : State => t.window) _ (by intros; simp only [forfeitGrant_frame]) _ _
  · unfold State.forfeit; simp only [updGate_frame]
    exact foldl_keeps (fun t : State => t.retention) _ (by intros; simp only [forfeitGrant_frame]) _ _
  · unfold State.forfeit; simp only [updGate_frame]
    exact foldl_keeps (fun t : State => t.clock) _ (by intros; simp only [forfeitGrant_frame]) _ _
  · unfold State.forfeit; simp only [updGate_frame]
    exact foldl_keeps (fun t : State => t.emergency) _ (by intros; simp only [forfeitGrant_frame]) _ _
  · unfold State.forfeit; simp only [updGate_frame]
    exact foldl_keeps (fun t : State => t.seen.entries) _ (by intros; simp only [forfeitGrant_frame]) _ _
  · unfold State.forfeit; simp only [updGate_frame]
    exact foldl_keeps (fun t : State => t.notices.conditions) _ (by intros; simp only [forfeitGrant_frame]) _ _
  · unfold State.forfeit; simp only [updGate_frame]
    exact foldl_keeps (fun t : State => t.notices.pending) _ (by intros; simp only [forfeitGrant_frame]) _ _
  · unfold State.forfeit; simp only [updGate_frame]
    exact foldl_keeps (fun t : State => t.notices.levels) _ (by intros; simp only [forfeitGrant_frame]) _ _

@[simp] theorem enterOutOfService_frame (s : State) (n : LaneId) :
    (s.enterOutOfService n).pending = s.pending ∧ (s.enterOutOfService n).free = s.free ∧ (s.enterOutOfService n).powered =
    s.powered ∧ (s.enterOutOfService n).nvwp = s.nvwp ∧ (s.enterOutOfService n).link = s.link ∧ (s.enterOutOfService n).proc =
    s.proc ∧ (s.enterOutOfService n).claims = s.claims ∧ (s.enterOutOfService n).hot = s.hot ∧ (s.enterOutOfService n).recovery
    = s.recovery ∧ (s.enterOutOfService n).fare = s.fare ∧ (s.enterOutOfService n).incidents = s.incidents ∧
    (s.enterOutOfService n).keys = s.keys ∧ (s.enterOutOfService n).window = s.window ∧ (s.enterOutOfService n).retention =
    s.retention ∧ (s.enterOutOfService n).clock = s.clock ∧ (s.enterOutOfService n).emergency = s.emergency ∧
    (s.enterOutOfService n).seen.entries = s.seen.entries ∧ (s.enterOutOfService n).notices.conditions = s.notices.conditions ∧
    (s.enterOutOfService n).notices.pending = s.notices.pending ∧ (s.enterOutOfService n).notices.levels = s.notices.levels :=
    by
  refine ⟨?_, ?_, ?_, ?_, ?_, ?_, ?_, ?_, ?_, ?_, ?_, ?_, ?_, ?_, ?_, ?_, ?_, ?_, ?_, ?_⟩
  all_goals
    first
      | with_reducible rfl
      | (unfold State.enterOutOfService
         (try dsimp only)
         repeat'
           first
             | with_reducible rfl
             | (simp only [updGate_frame, settleGate_frame, forfeit_frame]; done)
             | (simp only [updGate_frame, settleGate_frame, forfeit_frame]; split)
             | split)

@[simp] theorem leaveOutOfService_frame (s : State) (n : LaneId) :
    (s.leaveOutOfService n).pending = s.pending ∧ (s.leaveOutOfService n).free = s.free ∧ (s.leaveOutOfService n).powered =
    s.powered ∧ (s.leaveOutOfService n).nvwp = s.nvwp ∧ (s.leaveOutOfService n).link = s.link ∧ (s.leaveOutOfService n).proc =
    s.proc ∧ (s.leaveOutOfService n).claims = s.claims ∧ (s.leaveOutOfService n).seen = s.seen ∧ (s.leaveOutOfService n).hot =
    s.hot ∧ (s.leaveOutOfService n).recovery = s.recovery ∧ (s.leaveOutOfService n).fare = s.fare ∧ (s.leaveOutOfService
    n).incidents = s.incidents ∧ (s.leaveOutOfService n).keys = s.keys ∧ (s.leaveOutOfService n).journal = s.journal ∧
    (s.leaveOutOfService n).window = s.window ∧ (s.leaveOutOfService n).retention = s.retention ∧ (s.leaveOutOfService n).clock
    = s.clock ∧ (s.leaveOutOfService n).notices = s.notices ∧ (s.leaveOutOfService n).emergency = s.emergency := by
  refine ⟨?_, ?_, ?_, ?_, ?_, ?_, ?_, ?_, ?_, ?_, ?_, ?_, ?_, ?_, ?_, ?_, ?_, ?_, ?_⟩
  all_goals
    first
      | with_reducible rfl
      | (unfold State.leaveOutOfService
         (try dsimp only)
         repeat'
           first
             | with_reducible rfl
             | (simp only [updGate_frame, settleGate_frame]; done)
             | (simp only [updGate_frame, settleGate_frame]; split)
             | split)

@[simp] theorem settleService_frame (s : State) (n : LaneId) :
    (s.settleService n).pending = s.pending ∧ (s.settleService n).free = s.free ∧ (s.settleService n).powered = s.powered ∧
    (s.settleService n).nvwp = s.nvwp ∧ (s.settleService n).link = s.link ∧ (s.settleService n).proc = s.proc ∧ (s.settleService
    n).claims = s.claims ∧ (s.settleService n).hot = s.hot ∧ (s.settleService n).recovery = s.recovery ∧ (s.settleService
    n).fare = s.fare ∧ (s.settleService n).incidents = s.incidents ∧ (s.settleService n).keys = s.keys ∧ (s.settleService
    n).window = s.window ∧ (s.settleService n).retention = s.retention ∧ (s.settleService n).clock = s.clock ∧ (s.settleService
    n).emergency = s.emergency ∧ (s.settleService n).seen.entries = s.seen.entries ∧ (s.settleService n).notices.conditions =
    s.notices.conditions ∧ (s.settleService n).notices.pending = s.notices.pending ∧ (s.settleService n).notices.levels =
    s.notices.levels := by
  refine ⟨?_, ?_, ?_, ?_, ?_, ?_, ?_, ?_, ?_, ?_, ?_, ?_, ?_, ?_, ?_, ?_, ?_, ?_, ?_, ?_⟩
  all_goals
    first
      | with_reducible rfl
      | (unfold State.settleService
         (try dsimp only)
         repeat'
           first
             | with_reducible rfl
             | (simp only [enterOutOfService_frame, leaveOutOfService_frame]; done)
             | (simp only [enterOutOfService_frame, leaveOutOfService_frame]; split)
             | split)

@[simp] theorem settleReadiness_frame (s : State) (b : Bool) :
    (s.settleReadiness b).pending = s.pending ∧ (s.settleReadiness b).free = s.free ∧ (s.settleReadiness b).powered = s.powered
    ∧ (s.settleReadiness b).nvwp = s.nvwp ∧ (s.settleReadiness b).link = s.link ∧ (s.settleReadiness b).proc = s.proc ∧
    (s.settleReadiness b).claims = s.claims ∧ (s.settleReadiness b).hot = s.hot ∧ (s.settleReadiness b).recovery = s.recovery ∧
    (s.settleReadiness b).fare = s.fare ∧ (s.settleReadiness b).incidents = s.incidents ∧ (s.settleReadiness b).keys = s.keys ∧
    (s.settleReadiness b).window = s.window ∧ (s.settleReadiness b).retention = s.retention ∧ (s.settleReadiness b).clock =
    s.clock ∧ (s.settleReadiness b).emergency = s.emergency ∧ (s.settleReadiness b).seen.entries = s.seen.entries ∧
    (s.settleReadiness b).notices.conditions = s.notices.conditions ∧ (s.settleReadiness b).notices.pending = s.notices.pending
    ∧ (s.settleReadiness b).notices.levels = s.notices.levels := by
  refine ⟨?_, ?_, ?_, ?_, ?_, ?_, ?_, ?_, ?_, ?_, ?_, ?_, ?_, ?_, ?_, ?_, ?_, ?_, ?_, ?_⟩
  · unfold State.settleReadiness; split
    · rfl
    · exact eachLane_keeps (fun t : State => t.pending) _ (by intros; simp only [settleService_frame]) _
  · unfold State.settleReadiness; split
    · rfl
    · exact eachLane_keeps (fun t : State => t.free) _ (by intros; simp only [settleService_frame]) _
  · unfold State.settleReadiness; split
    · rfl
    · exact eachLane_keeps (fun t : State => t.powered) _ (by intros; simp only [settleService_frame]) _
  · unfold State.settleReadiness; split
    · rfl
    · exact eachLane_keeps (fun t : State => t.nvwp) _ (by intros; simp only [settleService_frame]) _
  · unfold State.settleReadiness; split
    · rfl
    · exact eachLane_keeps (fun t : State => t.link) _ (by intros; simp only [settleService_frame]) _
  · unfold State.settleReadiness; split
    · rfl
    · exact eachLane_keeps (fun t : State => t.proc) _ (by intros; simp only [settleService_frame]) _
  · unfold State.settleReadiness; split
    · rfl
    · exact eachLane_keeps (fun t : State => t.claims) _ (by intros; simp only [settleService_frame]) _
  · unfold State.settleReadiness; split
    · rfl
    · exact eachLane_keeps (fun t : State => t.hot) _ (by intros; simp only [settleService_frame]) _
  · unfold State.settleReadiness; split
    · rfl
    · exact eachLane_keeps (fun t : State => t.recovery) _ (by intros; simp only [settleService_frame]) _
  · unfold State.settleReadiness; split
    · rfl
    · exact eachLane_keeps (fun t : State => t.fare) _ (by intros; simp only [settleService_frame]) _
  · unfold State.settleReadiness; split
    · rfl
    · exact eachLane_keeps (fun t : State => t.incidents) _ (by intros; simp only [settleService_frame]) _
  · unfold State.settleReadiness; split
    · rfl
    · exact eachLane_keeps (fun t : State => t.keys) _ (by intros; simp only [settleService_frame]) _
  · unfold State.settleReadiness; split
    · rfl
    · exact eachLane_keeps (fun t : State => t.window) _ (by intros; simp only [settleService_frame]) _
  · unfold State.settleReadiness; split
    · rfl
    · exact eachLane_keeps (fun t : State => t.retention) _ (by intros; simp only [settleService_frame]) _
  · unfold State.settleReadiness; split
    · rfl
    · exact eachLane_keeps (fun t : State => t.clock) _ (by intros; simp only [settleService_frame]) _
  · unfold State.settleReadiness; split
    · rfl
    · exact eachLane_keeps (fun t : State => t.emergency) _ (by intros; simp only [settleService_frame]) _
  · unfold State.settleReadiness; split
    · rfl
    · exact eachLane_keeps (fun t : State => t.seen.entries) _ (by intros; simp only [settleService_frame]) _
  · unfold State.settleReadiness; split
    · rfl
    · exact eachLane_keeps (fun t : State => t.notices.conditions) _ (by intros; simp only [settleService_frame]) _
  · unfold State.settleReadiness; split
    · rfl
    · exact eachLane_keeps (fun t : State => t.notices.pending) _ (by intros; simp only [settleService_frame]) _
  · unfold State.settleReadiness; split
    · rfl
    · exact eachLane_keeps (fun t : State => t.notices.levels) _ (by intros; simp only [settleService_frame]) _

@[simp] theorem enqueue_frame (s : State) (n : LaneId) (g : Grant) :
    (s.enqueue n g).pending = s.pending ∧ (s.enqueue n g).free = s.free ∧ (s.enqueue n g).powered = s.powered ∧ (s.enqueue n
    g).nvwp = s.nvwp ∧ (s.enqueue n g).link = s.link ∧ (s.enqueue n g).proc = s.proc ∧ (s.enqueue n g).claims = s.claims ∧
    (s.enqueue n g).seen = s.seen ∧ (s.enqueue n g).hot = s.hot ∧ (s.enqueue n g).recovery = s.recovery ∧ (s.enqueue n g).fare =
    s.fare ∧ (s.enqueue n g).incidents = s.incidents ∧ (s.enqueue n g).keys = s.keys ∧ (s.enqueue n g).journal = s.journal ∧
    (s.enqueue n g).window = s.window ∧ (s.enqueue n g).retention = s.retention ∧ (s.enqueue n g).clock = s.clock ∧ (s.enqueue n
    g).notices = s.notices ∧ (s.enqueue n g).emergency = s.emergency := by
  refine ⟨?_, ?_, ?_, ?_, ?_, ?_, ?_, ?_, ?_, ?_, ?_, ?_, ?_, ?_, ?_, ?_, ?_, ?_, ?_⟩
  all_goals
    first
      | with_reducible rfl
      | (unfold State.enqueue
         (try dsimp only)
         repeat'
           first
             | with_reducible rfl
             | (simp only [updLane_frame, updGate_frame, settleGate_frame]; done)
             | (simp only [updLane_frame, updGate_frame, settleGate_frame]; split)
             | split)

@[simp] theorem gateFault_frame (s : State) (n : LaneId) :
    (s.gateFault n).pending = s.pending ∧ (s.gateFault n).free = s.free ∧ (s.gateFault n).powered = s.powered ∧ (s.gateFault
    n).nvwp = s.nvwp ∧ (s.gateFault n).link = s.link ∧ (s.gateFault n).proc = s.proc ∧ (s.gateFault n).claims = s.claims ∧
    (s.gateFault n).hot = s.hot ∧ (s.gateFault n).recovery = s.recovery ∧ (s.gateFault n).fare = s.fare ∧ (s.gateFault
    n).incidents = s.incidents ∧ (s.gateFault n).keys = s.keys ∧ (s.gateFault n).window = s.window ∧ (s.gateFault n).retention =
    s.retention ∧ (s.gateFault n).clock = s.clock ∧ (s.gateFault n).emergency = s.emergency ∧ (s.gateFault n).seen.entries =
    s.seen.entries ∧ (s.gateFault n).notices.conditions = s.notices.conditions ∧ (s.gateFault n).notices.pending =
    s.notices.pending ∧ (s.gateFault n).notices.levels = s.notices.levels := by
  refine ⟨?_, ?_, ?_, ?_, ?_, ?_, ?_, ?_, ?_, ?_, ?_, ?_, ?_, ?_, ?_, ?_, ?_, ?_, ?_, ?_⟩
  all_goals
    first
      | with_reducible rfl
      | (unfold State.gateFault
         (try dsimp only)
         repeat'
           first
             | with_reducible rfl
             | (simp only [updGate_frame, record_frame, settleGate_frame, forfeit_frame, raise_pending, raise_free,
                              raise_powered, raise_nvwp, raise_link, raise_proc, raise_claims,
                              raise_hot, raise_recovery, raise_fare, raise_incidents, raise_keys,
                              raise_window, raise_retention, raise_clock, raise_emergency,
                              raise_seen, raise_notices]; done)
             | (simp only [updGate_frame, record_frame, settleGate_frame, forfeit_frame, raise_pending, raise_free,
                              raise_powered, raise_nvwp, raise_link, raise_proc, raise_claims,
                              raise_hot, raise_recovery, raise_fare, raise_incidents, raise_keys,
                              raise_window, raise_retention, raise_clock, raise_emergency,
                              raise_seen, raise_notices]; split)
             | split)

@[simp] theorem resetGate_frame (s : State) (n : LaneId) :
    (s.resetGate n).pending = s.pending ∧ (s.resetGate n).free = s.free ∧ (s.resetGate n).powered = s.powered ∧ (s.resetGate
    n).nvwp = s.nvwp ∧ (s.resetGate n).link = s.link ∧ (s.resetGate n).proc = s.proc ∧ (s.resetGate n).claims = s.claims ∧
    (s.resetGate n).hot = s.hot ∧ (s.resetGate n).recovery = s.recovery ∧ (s.resetGate n).fare = s.fare ∧ (s.resetGate
    n).incidents = s.incidents ∧ (s.resetGate n).keys = s.keys ∧ (s.resetGate n).window = s.window ∧ (s.resetGate n).retention =
    s.retention ∧ (s.resetGate n).clock = s.clock ∧ (s.resetGate n).emergency = s.emergency ∧ (s.resetGate n).seen.entries =
    s.seen.entries ∧ (s.resetGate n).notices.conditions = s.notices.conditions ∧ (s.resetGate n).notices.pending =
    s.notices.pending ∧ (s.resetGate n).notices.levels = s.notices.levels := by
  refine ⟨?_, ?_, ?_, ?_, ?_, ?_, ?_, ?_, ?_, ?_, ?_, ?_, ?_, ?_, ?_, ?_, ?_, ?_, ?_, ?_⟩
  all_goals
    first
      | with_reducible rfl
      | (unfold State.resetGate
         (try dsimp only)
         repeat'
           first
             | with_reducible rfl
             | (simp only [updLane_frame, updGate_frame, forfeit_frame]; done)
             | (simp only [updLane_frame, updGate_frame, forfeit_frame]; split)
             | split)

@[simp] theorem considerActivation_frame (s : State) :
    (s.considerActivation).pending = s.pending ∧ (s.considerActivation).free = s.free ∧ (s.considerActivation).powered =
    s.powered ∧ (s.considerActivation).nvwp = s.nvwp ∧ (s.considerActivation).link = s.link ∧ (s.considerActivation).proc =
    s.proc ∧ (s.considerActivation).claims = s.claims ∧ (s.considerActivation).hot = s.hot ∧ (s.considerActivation).recovery =
    s.recovery ∧ (s.considerActivation).incidents = s.incidents ∧ (s.considerActivation).keys = s.keys ∧
    (s.considerActivation).window = s.window ∧ (s.considerActivation).retention = s.retention ∧ (s.considerActivation).clock =
    s.clock ∧ (s.considerActivation).emergency = s.emergency ∧ (s.considerActivation).seen.entries = s.seen.entries ∧
    (s.considerActivation).notices.conditions = s.notices.conditions ∧ (s.considerActivation).notices.pending =
    s.notices.pending ∧ (s.considerActivation).notices.levels = s.notices.levels := by
  refine ⟨?_, ?_, ?_, ?_, ?_, ?_, ?_, ?_, ?_, ?_, ?_, ?_, ?_, ?_, ?_, ?_, ?_, ?_, ?_⟩
  all_goals
    first
      | with_reducible rfl
      | (unfold State.considerActivation
         (try dsimp only)
         repeat'
           first
             | with_reducible rfl
             | (simp only [record_frame, settleReadiness_frame, raise_pending, raise_free, raise_powered,
                              raise_nvwp, raise_link, raise_proc, raise_claims, raise_hot,
                              raise_recovery, raise_incidents, raise_keys, raise_window,
                              raise_retention, raise_clock, raise_emergency, raise_seen,
                              raise_notices]; done)
             | (simp only [record_frame, settleReadiness_frame, raise_pending, raise_free, raise_powered,
                              raise_nvwp, raise_link, raise_proc, raise_claims, raise_hot,
                              raise_recovery, raise_incidents, raise_keys, raise_window,
                              raise_retention, raise_clock, raise_emergency, raise_seen,
                              raise_notices]; split)
             | split)

@[simp] theorem clearFare_frame (s : State) :
    (s.clearFare).pending = s.pending ∧ (s.clearFare).free = s.free ∧ (s.clearFare).powered = s.powered ∧ (s.clearFare).nvwp =
    s.nvwp ∧ (s.clearFare).link = s.link ∧ (s.clearFare).claims = s.claims ∧ (s.clearFare).hot = s.hot ∧ (s.clearFare).recovery
    = s.recovery ∧ (s.clearFare).incidents = s.incidents ∧ (s.clearFare).keys = s.keys ∧ (s.clearFare).window = s.window ∧
    (s.clearFare).retention = s.retention ∧ (s.clearFare).clock = s.clock ∧ (s.clearFare).emergency = s.emergency ∧
    (s.clearFare).seen.entries = s.seen.entries ∧ (s.clearFare).notices.conditions = s.notices.conditions ∧
    (s.clearFare).notices.pending = s.notices.pending ∧ (s.clearFare).notices.levels = s.notices.levels := by
  refine ⟨?_, ?_, ?_, ?_, ?_, ?_, ?_, ?_, ?_, ?_, ?_, ?_, ?_, ?_, ?_, ?_, ?_, ?_⟩
  all_goals
    first
      | with_reducible rfl
      | (unfold State.clearFare
         (try dsimp only)
         repeat'
           first
             | with_reducible rfl
             | (simp only [settleReadiness_frame]; done)
             | (simp only [settleReadiness_frame]; split)
             | split)

@[simp] theorem releaseBinding_frame (s : State) :
    (s.releaseBinding).pending = s.pending ∧ (s.releaseBinding).free = s.free ∧ (s.releaseBinding).powered = s.powered ∧
    (s.releaseBinding).nvwp = s.nvwp ∧ (s.releaseBinding).link = s.link ∧ (s.releaseBinding).claims = s.claims ∧
    (s.releaseBinding).hot = s.hot ∧ (s.releaseBinding).recovery = s.recovery ∧ (s.releaseBinding).incidents = s.incidents ∧
    (s.releaseBinding).keys = s.keys ∧ (s.releaseBinding).window = s.window ∧ (s.releaseBinding).retention = s.retention ∧
    (s.releaseBinding).clock = s.clock ∧ (s.releaseBinding).emergency = s.emergency ∧ (s.releaseBinding).seen.entries =
    s.seen.entries ∧ (s.releaseBinding).notices.conditions = s.notices.conditions ∧ (s.releaseBinding).notices.pending =
    s.notices.pending ∧ (s.releaseBinding).notices.levels = s.notices.levels := by
  refine ⟨?_, ?_, ?_, ?_, ?_, ?_, ?_, ?_, ?_, ?_, ?_, ?_, ?_, ?_, ?_, ?_, ?_, ?_⟩
  all_goals
    first
      | with_reducible rfl
      | (unfold State.releaseBinding
         (try dsimp only)
         repeat'
           first
             | with_reducible rfl
             | (simp only [considerActivation_frame, clearFare_frame]; done)
             | (simp only [considerActivation_frame, clearFare_frame]; split)
             | split)

@[simp] theorem takeOffer_frame (s : State) (n : LaneId) :
    (s.takeOffer n).pending = s.pending ∧ (s.takeOffer n).free = s.free ∧ (s.takeOffer n).powered = s.powered ∧ (s.takeOffer
    n).nvwp = s.nvwp ∧ (s.takeOffer n).link = s.link ∧ (s.takeOffer n).proc = s.proc ∧ (s.takeOffer n).claims = s.claims ∧
    (s.takeOffer n).seen = s.seen ∧ (s.takeOffer n).hot = s.hot ∧ (s.takeOffer n).recovery = s.recovery ∧ (s.takeOffer n).fare =
    s.fare ∧ (s.takeOffer n).incidents = s.incidents ∧ (s.takeOffer n).keys = s.keys ∧ (s.takeOffer n).journal = s.journal ∧
    (s.takeOffer n).window = s.window ∧ (s.takeOffer n).retention = s.retention ∧ (s.takeOffer n).clock = s.clock ∧ (s.takeOffer
    n).notices = s.notices ∧ (s.takeOffer n).emergency = s.emergency := by
  refine ⟨?_, ?_, ?_, ?_, ?_, ?_, ?_, ?_, ?_, ?_, ?_, ?_, ?_, ?_, ?_, ?_, ?_, ?_, ?_⟩
  all_goals
    first
      | with_reducible rfl
      | (unfold State.takeOffer
         (try dsimp only)
         repeat'
           first
             | with_reducible rfl
             | (simp only [updPort_frame, countRefusal_frame, setLane_pending, setLane_free, setLane_powered,
                              setLane_nvwp, setLane_link, setLane_proc, setLane_claims,
                              setLane_seen, setLane_hot, setLane_recovery, setLane_fare,
                              setLane_incidents, setLane_keys, setLane_journal, setLane_window,
                              setLane_retention, setLane_clock, setLane_notices, setLane_emergency]; done)
             | (simp only [updPort_frame, countRefusal_frame, setLane_pending, setLane_free, setLane_powered,
                              setLane_nvwp, setLane_link, setLane_proc, setLane_claims,
                              setLane_seen, setLane_hot, setLane_recovery, setLane_fare,
                              setLane_incidents, setLane_keys, setLane_journal, setLane_window,
                              setLane_retention, setLane_clock, setLane_notices, setLane_emergency]; split)
             | split)

@[simp] theorem takeOffers_frame (s : State) (n : LaneId) :
    (s.takeOffers n).pending = s.pending ∧ (s.takeOffers n).free = s.free ∧ (s.takeOffers n).powered = s.powered ∧ (s.takeOffers
    n).nvwp = s.nvwp ∧ (s.takeOffers n).link = s.link ∧ (s.takeOffers n).proc = s.proc ∧ (s.takeOffers n).claims = s.claims ∧
    (s.takeOffers n).seen = s.seen ∧ (s.takeOffers n).hot = s.hot ∧ (s.takeOffers n).recovery = s.recovery ∧ (s.takeOffers
    n).fare = s.fare ∧ (s.takeOffers n).incidents = s.incidents ∧ (s.takeOffers n).keys = s.keys ∧ (s.takeOffers n).journal =
    s.journal ∧ (s.takeOffers n).window = s.window ∧ (s.takeOffers n).retention = s.retention ∧ (s.takeOffers n).clock = s.clock
    ∧ (s.takeOffers n).notices = s.notices ∧ (s.takeOffers n).emergency = s.emergency := by
  refine ⟨?_, ?_, ?_, ?_, ?_, ?_, ?_, ?_, ?_, ?_, ?_, ?_, ?_, ?_, ?_, ?_, ?_, ?_, ?_⟩
  all_goals
    first
      | with_reducible rfl
      | (unfold State.takeOffers
         (try dsimp only)
         repeat'
           first
             | with_reducible rfl
             | (simp only [takeOffer_frame]; done)
             | (simp only [takeOffer_frame]; split)
             | split)

@[simp] theorem finishReset_frame (s : State) (n : LaneId) :
    (s.finishReset n).pending = s.pending ∧ (s.finishReset n).free = s.free ∧ (s.finishReset n).powered = s.powered ∧
    (s.finishReset n).nvwp = s.nvwp ∧ (s.finishReset n).link = s.link ∧ (s.finishReset n).proc = s.proc ∧ (s.finishReset
    n).claims = s.claims ∧ (s.finishReset n).hot = s.hot ∧ (s.finishReset n).recovery = s.recovery ∧ (s.finishReset n).fare =
    s.fare ∧ (s.finishReset n).incidents = s.incidents ∧ (s.finishReset n).keys = s.keys ∧ (s.finishReset n).window = s.window ∧
    (s.finishReset n).retention = s.retention ∧ (s.finishReset n).clock = s.clock ∧ (s.finishReset n).emergency = s.emergency ∧
    (s.finishReset n).seen.entries = s.seen.entries ∧ (s.finishReset n).notices.conditions = s.notices.conditions ∧
    (s.finishReset n).notices.pending = s.notices.pending ∧ (s.finishReset n).notices.levels = s.notices.levels := by
  refine ⟨?_, ?_, ?_, ?_, ?_, ?_, ?_, ?_, ?_, ?_, ?_, ?_, ?_, ?_, ?_, ?_, ?_, ?_, ?_, ?_⟩
  all_goals
    first
      | with_reducible rfl
      | (unfold State.finishReset
         (try dsimp only)
         repeat'
           first
             | with_reducible rfl
             | (simp only [updLane_frame, record_frame, resetGate_frame]; done)
             | (simp only [updLane_frame, record_frame, resetGate_frame]; split)
             | split)

@[simp] theorem endTransaction_frame (s : State) (n : LaneId) :
    (s.endTransaction n).pending = s.pending ∧ (s.endTransaction n).free = s.free ∧ (s.endTransaction n).powered = s.powered ∧
    (s.endTransaction n).nvwp = s.nvwp ∧ (s.endTransaction n).link = s.link ∧ (s.endTransaction n).claims = s.claims ∧
    (s.endTransaction n).hot = s.hot ∧ (s.endTransaction n).recovery = s.recovery ∧ (s.endTransaction n).incidents = s.incidents
    ∧ (s.endTransaction n).keys = s.keys ∧ (s.endTransaction n).window = s.window ∧ (s.endTransaction n).retention = s.retention
    ∧ (s.endTransaction n).clock = s.clock ∧ (s.endTransaction n).emergency = s.emergency ∧ (s.endTransaction n).seen.entries =
    s.seen.entries ∧ (s.endTransaction n).notices.conditions = s.notices.conditions ∧ (s.endTransaction n).notices.pending =
    s.notices.pending ∧ (s.endTransaction n).notices.levels = s.notices.levels := by
  refine ⟨?_, ?_, ?_, ?_, ?_, ?_, ?_, ?_, ?_, ?_, ?_, ?_, ?_, ?_, ?_, ?_, ?_, ?_⟩
  all_goals
    first
      | with_reducible rfl
      | (unfold State.endTransaction
         (try dsimp only)
         repeat'
           first
             | with_reducible rfl
             | (simp only [updLane_frame, updPort_frame, settleGate_frame, releaseBinding_frame, takeOffers_frame,
                              finishReset_frame]; done)
             | (simp only [updLane_frame, updPort_frame, settleGate_frame, releaseBinding_frame, takeOffers_frame,
                              finishReset_frame]; split)
             | split)

@[simp] theorem finishing_frame (s : State) (n : LaneId) (ds : List Duty) :
    (s.finishing n ds).pending = s.pending ∧ (s.finishing n ds).free = s.free ∧ (s.finishing n ds).powered = s.powered ∧
    (s.finishing n ds).nvwp = s.nvwp ∧ (s.finishing n ds).link = s.link ∧ (s.finishing n ds).claims = s.claims ∧ (s.finishing n
    ds).hot = s.hot ∧ (s.finishing n ds).recovery = s.recovery ∧ (s.finishing n ds).incidents = s.incidents ∧ (s.finishing n
    ds).keys = s.keys ∧ (s.finishing n ds).window = s.window ∧ (s.finishing n ds).retention = s.retention ∧ (s.finishing n
    ds).clock = s.clock ∧ (s.finishing n ds).emergency = s.emergency ∧ (s.finishing n ds).seen.entries = s.seen.entries ∧
    (s.finishing n ds).notices.conditions = s.notices.conditions ∧ (s.finishing n ds).notices.pending = s.notices.pending ∧
    (s.finishing n ds).notices.levels = s.notices.levels := by
  refine ⟨?_, ?_, ?_, ?_, ?_, ?_, ?_, ?_, ?_, ?_, ?_, ?_, ?_, ?_, ?_, ?_, ?_, ?_⟩
  all_goals
    first
      | with_reducible rfl
      | (unfold State.finishing
         (try dsimp only)
         repeat'
           first
             | with_reducible rfl
             | (simp only [updEngine_frame, endTransaction_frame]; done)
             | (simp only [updEngine_frame, endTransaction_frame]; split)
             | split)

@[simp] theorem dutyDone_frame (s : State) (n : LaneId) :
    (s.dutyDone n).pending = s.pending ∧ (s.dutyDone n).free = s.free ∧ (s.dutyDone n).powered = s.powered ∧ (s.dutyDone n).nvwp
    = s.nvwp ∧ (s.dutyDone n).link = s.link ∧ (s.dutyDone n).claims = s.claims ∧ (s.dutyDone n).hot = s.hot ∧ (s.dutyDone
    n).recovery = s.recovery ∧ (s.dutyDone n).incidents = s.incidents ∧ (s.dutyDone n).keys = s.keys ∧ (s.dutyDone n).window =
    s.window ∧ (s.dutyDone n).retention = s.retention ∧ (s.dutyDone n).clock = s.clock ∧ (s.dutyDone n).emergency = s.emergency
    ∧ (s.dutyDone n).seen.entries = s.seen.entries ∧ (s.dutyDone n).notices.conditions = s.notices.conditions ∧ (s.dutyDone
    n).notices.pending = s.notices.pending ∧ (s.dutyDone n).notices.levels = s.notices.levels := by
  refine ⟨?_, ?_, ?_, ?_, ?_, ?_, ?_, ?_, ?_, ?_, ?_, ?_, ?_, ?_, ?_, ?_, ?_, ?_⟩
  all_goals
    first
      | with_reducible rfl
      | (unfold State.dutyDone
         (try dsimp only)
         repeat'
           first
             | with_reducible rfl
             | (simp only [updEngine_frame, endTransaction_frame]; done)
             | (simp only [updEngine_frame, endTransaction_frame]; split)
             | split)

@[simp] theorem markRefused_frame (s : State) (n : LaneId) (r : RefusalCode) :
    (s.markRefused n r).pending = s.pending ∧ (s.markRefused n r).free = s.free ∧ (s.markRefused n r).powered = s.powered ∧
    (s.markRefused n r).nvwp = s.nvwp ∧ (s.markRefused n r).link = s.link ∧ (s.markRefused n r).proc = s.proc ∧
    (s.markRefused n r).claims = s.claims ∧ (s.markRefused n r).seen = s.seen ∧ (s.markRefused n r).hot = s.hot ∧
    (s.markRefused n r).recovery = s.recovery ∧ (s.markRefused n r).fare = s.fare ∧ (s.markRefused n r).incidents =
    s.incidents ∧ (s.markRefused n r).keys = s.keys ∧ (s.markRefused n r).journal = s.journal ∧ (s.markRefused n r).window =
    s.window ∧ (s.markRefused n r).retention = s.retention ∧ (s.markRefused n r).clock = s.clock ∧ (s.markRefused n
    r).notices = s.notices ∧ (s.markRefused n r).emergency = s.emergency := by
  refine ⟨?_, ?_, ?_, ?_, ?_, ?_, ?_, ?_, ?_, ?_, ?_, ?_, ?_, ?_, ?_, ?_, ?_, ?_, ?_⟩
  all_goals
    first
      | with_reducible rfl
      | (unfold State.markRefused
         (try dsimp only)
         repeat'
           first
             | with_reducible rfl
             | (simp only [updEngine_frame, countRefusal_frame]; done)
             | (simp only [updEngine_frame, countRefusal_frame]; split)
             | split)

@[simp] theorem refuse_frame (s : State) (n : LaneId) (r : RefusalCode) (ds : List Duty) :
    (s.refuse n r ds).pending = s.pending ∧ (s.refuse n r ds).free = s.free ∧ (s.refuse n r ds).powered = s.powered ∧ (s.refuse
    n r ds).nvwp = s.nvwp ∧ (s.refuse n r ds).link = s.link ∧ (s.refuse n r ds).claims = s.claims ∧ (s.refuse n r ds).hot =
    s.hot ∧ (s.refuse n r ds).recovery = s.recovery ∧ (s.refuse n r ds).incidents = s.incidents ∧ (s.refuse n r ds).keys =
    s.keys ∧ (s.refuse n r ds).window = s.window ∧ (s.refuse n r ds).retention = s.retention ∧ (s.refuse n r ds).clock = s.clock
    ∧ (s.refuse n r ds).emergency = s.emergency ∧ (s.refuse n r ds).seen.entries = s.seen.entries ∧ (s.refuse n r
    ds).notices.conditions = s.notices.conditions ∧ (s.refuse n r ds).notices.pending = s.notices.pending ∧ (s.refuse n r
    ds).notices.levels = s.notices.levels := by
  refine ⟨?_, ?_, ?_, ?_, ?_, ?_, ?_, ?_, ?_, ?_, ?_, ?_, ?_, ?_, ?_, ?_, ?_, ?_⟩
  all_goals
    first
      | with_reducible rfl
      | (unfold State.refuse
         (try dsimp only)
         repeat'
           first
             | with_reducible rfl
             | (simp only [markRefused_frame, finishing_frame]; done)
             | (simp only [markRefused_frame, finishing_frame]; split)
             | split)

@[simp] theorem refuseCard_frame (s : State) (n : LaneId) (r : RefusalCode) :
    (s.refuseCard n r).pending = s.pending ∧ (s.refuseCard n r).free = s.free ∧ (s.refuseCard n r).powered = s.powered ∧
    (s.refuseCard n r).nvwp = s.nvwp ∧ (s.refuseCard n r).link = s.link ∧ (s.refuseCard n r).claims = s.claims ∧ (s.refuseCard n
    r).hot = s.hot ∧ (s.refuseCard n r).recovery = s.recovery ∧ (s.refuseCard n r).incidents = s.incidents ∧ (s.refuseCard n
    r).keys = s.keys ∧ (s.refuseCard n r).window = s.window ∧ (s.refuseCard n r).retention = s.retention ∧ (s.refuseCard n
    r).clock = s.clock ∧ (s.refuseCard n r).emergency = s.emergency ∧ (s.refuseCard n r).seen.entries = s.seen.entries ∧
    (s.refuseCard n r).notices.conditions = s.notices.conditions ∧ (s.refuseCard n r).notices.pending = s.notices.pending ∧
    (s.refuseCard n r).notices.levels = s.notices.levels := by
  refine ⟨?_, ?_, ?_, ?_, ?_, ?_, ?_, ?_, ?_, ?_, ?_, ?_, ?_, ?_, ?_, ?_, ?_, ?_⟩
  all_goals
    first
      | with_reducible rfl
      | (unfold State.refuseCard
         (try dsimp only)
         repeat'
           first
             | with_reducible rfl
             | (simp only [refuse_frame]; done)
             | (simp only [refuse_frame]; split)
             | split)

@[simp] theorem refuseClone_frame (s : State) (n : LaneId) (r : RefusalCode) :
    (s.refuseClone n r).pending = s.pending ∧ (s.refuseClone n r).free = s.free ∧ (s.refuseClone n r).powered = s.powered ∧
    (s.refuseClone n r).nvwp = s.nvwp ∧ (s.refuseClone n r).link = s.link ∧ (s.refuseClone n r).claims = s.claims ∧
    (s.refuseClone n r).hot = s.hot ∧ (s.refuseClone n r).recovery = s.recovery ∧ (s.refuseClone n r).incidents = s.incidents ∧
    (s.refuseClone n r).keys = s.keys ∧ (s.refuseClone n r).window = s.window ∧ (s.refuseClone n r).retention = s.retention ∧
    (s.refuseClone n r).clock = s.clock ∧ (s.refuseClone n r).emergency = s.emergency ∧ (s.refuseClone n r).seen.entries =
    s.seen.entries ∧ (s.refuseClone n r).notices.conditions = s.notices.conditions ∧ (s.refuseClone n r).notices.pending =
    s.notices.pending ∧ (s.refuseClone n r).notices.levels = s.notices.levels := by
  refine ⟨?_, ?_, ?_, ?_, ?_, ?_, ?_, ?_, ?_, ?_, ?_, ?_, ?_, ?_, ?_, ?_, ?_, ?_⟩
  all_goals
    first
      | with_reducible rfl
      | (unfold State.refuseClone
         (try dsimp only)
         repeat'
           first
             | with_reducible rfl
             | (simp only [updEngine_frame, refuse_frame]; done)
             | (simp only [updEngine_frame, refuse_frame]; split)
             | split)

@[simp] theorem boundVersionOr_frame (s : State) (e : Engine) :
    ((s.boundVersionOr e).2).pending = s.pending ∧ ((s.boundVersionOr e).2).powered = s.powered ∧ ((s.boundVersionOr e).2).nvwp
    = s.nvwp ∧ ((s.boundVersionOr e).2).link = s.link ∧ ((s.boundVersionOr e).2).proc = s.proc ∧ ((s.boundVersionOr e).2).lanes
    = s.lanes ∧ ((s.boundVersionOr e).2).claims = s.claims ∧ ((s.boundVersionOr e).2).seen = s.seen ∧ ((s.boundVersionOr
    e).2).hot = s.hot ∧ ((s.boundVersionOr e).2).recovery = s.recovery ∧ ((s.boundVersionOr e).2).fare = s.fare ∧
    ((s.boundVersionOr e).2).incidents = s.incidents ∧ ((s.boundVersionOr e).2).keys = s.keys ∧ ((s.boundVersionOr e).2).journal
    = s.journal ∧ ((s.boundVersionOr e).2).window = s.window ∧ ((s.boundVersionOr e).2).retention = s.retention ∧
    ((s.boundVersionOr e).2).clock = s.clock ∧ ((s.boundVersionOr e).2).notices = s.notices ∧ ((s.boundVersionOr e).2).emergency
    = s.emergency := by
  refine ⟨?_, ?_, ?_, ?_, ?_, ?_, ?_, ?_, ?_, ?_, ?_, ?_, ?_, ?_, ?_, ?_, ?_, ?_, ?_⟩
  all_goals
    first
      | with_reducible rfl
      | (unfold State.boundVersionOr
         (try dsimp only)
         repeat'
           first
             | with_reducible rfl
             | (simp only [fresh_frame]; done)
             | (simp only [fresh_frame]; split)
             | split)

@[simp] theorem appendCard_frame (s : State) (n : LaneId) :
    (s.appendCard n).pending = s.pending ∧ (s.appendCard n).powered = s.powered ∧ (s.appendCard n).nvwp = s.nvwp ∧ (s.appendCard
    n).link = s.link ∧ (s.appendCard n).proc = s.proc ∧ (s.appendCard n).claims = s.claims ∧ (s.appendCard n).seen = s.seen ∧
    (s.appendCard n).hot = s.hot ∧ (s.appendCard n).recovery = s.recovery ∧ (s.appendCard n).fare = s.fare ∧ (s.appendCard
    n).incidents = s.incidents ∧ (s.appendCard n).keys = s.keys ∧ (s.appendCard n).window = s.window ∧ (s.appendCard
    n).retention = s.retention ∧ (s.appendCard n).clock = s.clock ∧ (s.appendCard n).emergency = s.emergency ∧ (s.appendCard
    n).notices.conditions = s.notices.conditions ∧ (s.appendCard n).notices.pending = s.notices.pending ∧ (s.appendCard
    n).notices.levels = s.notices.levels := by
  refine ⟨?_, ?_, ?_, ?_, ?_, ?_, ?_, ?_, ?_, ?_, ?_, ?_, ?_, ?_, ?_, ?_, ?_, ?_, ?_⟩
  all_goals
    first
      | with_reducible rfl
      | (unfold State.appendCard
         (try dsimp only)
         repeat'
           first
             | with_reducible rfl
             | (simp only [updEngine_frame, append_frame, boundVersionOr_frame]; done)
             | (simp only [updEngine_frame, append_frame, boundVersionOr_frame]; split)
             | split)

@[simp] theorem recordFreeing_frame (s : State) (n : LaneId) :
    (s.recordFreeing n).pending = s.pending ∧ (s.recordFreeing n).powered = s.powered ∧ (s.recordFreeing n).nvwp = s.nvwp ∧
    (s.recordFreeing n).link = s.link ∧ (s.recordFreeing n).proc = s.proc ∧ (s.recordFreeing n).claims = s.claims ∧
    (s.recordFreeing n).seen = s.seen ∧ (s.recordFreeing n).hot = s.hot ∧ (s.recordFreeing n).fare = s.fare ∧
    (s.recordFreeing n).incidents = s.incidents ∧ (s.recordFreeing n).keys = s.keys ∧ (s.recordFreeing n).window = s.window
    ∧ (s.recordFreeing n).retention = s.retention ∧ (s.recordFreeing n).clock = s.clock ∧ (s.recordFreeing n).emergency =
    s.emergency ∧ (s.recordFreeing n).notices.conditions = s.notices.conditions ∧ (s.recordFreeing n).notices.pending =
    s.notices.pending ∧ (s.recordFreeing n).notices.levels = s.notices.levels := by
  refine ⟨?_, ?_, ?_, ?_, ?_, ?_, ?_, ?_, ?_, ?_, ?_, ?_, ?_, ?_, ?_, ?_, ?_, ?_⟩
  all_goals
    first
      | with_reducible rfl
      | (unfold State.recordFreeing
         (try dsimp only)
         repeat'
           first
             | with_reducible rfl
             | (simp only [updEngine_frame, freeReserved_frame, appendCard_frame]; done)
             | (simp only [updEngine_frame, freeReserved_frame, appendCard_frame]; split)
             | split)

@[simp] theorem refuseFreeing_frame (s : State) (n : LaneId) (r : RefusalCode) :
    (s.refuseFreeing n r).pending = s.pending ∧ (s.refuseFreeing n r).powered = s.powered ∧ (s.refuseFreeing n r).nvwp =
    s.nvwp ∧ (s.refuseFreeing n r).link = s.link ∧ (s.refuseFreeing n r).claims = s.claims ∧ (s.refuseFreeing n r).hot =
    s.hot ∧ (s.refuseFreeing n r).incidents = s.incidents ∧ (s.refuseFreeing n r).keys = s.keys ∧ (s.refuseFreeing n
    r).window = s.window ∧ (s.refuseFreeing n r).retention = s.retention ∧ (s.refuseFreeing n r).clock = s.clock ∧
    (s.refuseFreeing n r).emergency = s.emergency ∧ (s.refuseFreeing n r).seen.entries = s.seen.entries ∧ (s.refuseFreeing n
    r).notices.conditions = s.notices.conditions ∧ (s.refuseFreeing n r).notices.pending = s.notices.pending ∧
    (s.refuseFreeing n r).notices.levels = s.notices.levels := by
  refine ⟨?_, ?_, ?_, ?_, ?_, ?_, ?_, ?_, ?_, ?_, ?_, ?_, ?_, ?_, ?_, ?_⟩
  all_goals
    first
      | with_reducible rfl
      | (unfold State.refuseFreeing
         (try dsimp only)
         repeat'
           first
             | with_reducible rfl
             | (simp only [markRefused_frame, recordFreeing_frame, finishing_frame]; done)
             | (simp only [markRefused_frame, recordFreeing_frame, finishing_frame]; split)
             | split)

@[simp] theorem endExchange_frame (s : State) (n : LaneId) (side : Side) :
    (s.endExchange n side).pending = s.pending ∧ (s.endExchange n side).free = s.free ∧ (s.endExchange n side).powered =
    s.powered ∧ (s.endExchange n side).nvwp = s.nvwp ∧ (s.endExchange n side).link = s.link ∧ (s.endExchange n side).proc =
    s.proc ∧ (s.endExchange n side).claims = s.claims ∧ (s.endExchange n side).seen = s.seen ∧ (s.endExchange n side).hot =
    s.hot ∧ (s.endExchange n side).recovery = s.recovery ∧ (s.endExchange n side).fare = s.fare ∧ (s.endExchange n
    side).incidents = s.incidents ∧ (s.endExchange n side).keys = s.keys ∧ (s.endExchange n side).journal = s.journal ∧
    (s.endExchange n side).window = s.window ∧ (s.endExchange n side).retention = s.retention ∧ (s.endExchange n side).clock =
    s.clock ∧ (s.endExchange n side).notices = s.notices ∧ (s.endExchange n side).emergency = s.emergency := by
  refine ⟨?_, ?_, ?_, ?_, ?_, ?_, ?_, ?_, ?_, ?_, ?_, ?_, ?_, ?_, ?_, ?_, ?_, ?_, ?_⟩
  all_goals
    first
      | with_reducible rfl
      | (unfold State.endExchange
         (try dsimp only)
         repeat'
           first
             | with_reducible rfl
             | (simp only [updPort_frame]; done)
             | (simp only [updPort_frame]; split)
             | split)

@[simp] theorem readFails_frame (s : State) (n : LaneId) (r : RefusalCode) :
    (s.readFails n r).pending = s.pending ∧ (s.readFails n r).free = s.free ∧ (s.readFails n r).powered = s.powered ∧
    (s.readFails n r).nvwp = s.nvwp ∧ (s.readFails n r).link = s.link ∧ (s.readFails n r).claims = s.claims ∧ (s.readFails n
    r).hot = s.hot ∧ (s.readFails n r).recovery = s.recovery ∧ (s.readFails n r).incidents = s.incidents ∧ (s.readFails n
    r).keys = s.keys ∧ (s.readFails n r).window = s.window ∧ (s.readFails n r).retention = s.retention ∧ (s.readFails n r).clock
    = s.clock ∧ (s.readFails n r).emergency = s.emergency ∧ (s.readFails n r).seen.entries = s.seen.entries ∧ (s.readFails n
    r).notices.conditions = s.notices.conditions ∧ (s.readFails n r).notices.pending = s.notices.pending ∧ (s.readFails n
    r).notices.levels = s.notices.levels := by
  refine ⟨?_, ?_, ?_, ?_, ?_, ?_, ?_, ?_, ?_, ?_, ?_, ?_, ?_, ?_, ?_, ?_, ?_, ?_⟩
  all_goals
    first
      | with_reducible rfl
      | (unfold State.readFails
         (try dsimp only)
         repeat'
           first
             | with_reducible rfl
             | (simp only [refuse_frame]; done)
             | (simp only [refuse_frame]; split)
             | split)

@[simp] theorem lostBefore_frame (s : State) (n : LaneId) :
    (s.lostBefore n).pending = s.pending ∧ (s.lostBefore n).powered = s.powered ∧ (s.lostBefore n).nvwp = s.nvwp ∧
    (s.lostBefore n).link = s.link ∧ (s.lostBefore n).claims = s.claims ∧ (s.lostBefore n).hot = s.hot ∧ (s.lostBefore
    n).incidents = s.incidents ∧ (s.lostBefore n).keys = s.keys ∧ (s.lostBefore n).window = s.window ∧ (s.lostBefore
    n).retention = s.retention ∧ (s.lostBefore n).clock = s.clock ∧ (s.lostBefore n).emergency = s.emergency ∧ (s.lostBefore
    n).seen.entries = s.seen.entries ∧ (s.lostBefore n).notices.conditions = s.notices.conditions ∧ (s.lostBefore
    n).notices.pending = s.notices.pending ∧ (s.lostBefore n).notices.levels = s.notices.levels := by
  refine ⟨?_, ?_, ?_, ?_, ?_, ?_, ?_, ?_, ?_, ?_, ?_, ?_, ?_, ?_, ?_, ?_⟩
  all_goals
    first
      | with_reducible rfl
      | (unfold State.lostBefore
         (try dsimp only)
         repeat'
           first
             | with_reducible rfl
             | (simp only [refuseFreeing_frame]; done)
             | (simp only [refuseFreeing_frame]; split)
             | split)

@[simp] theorem tear_frame (s : State) (n : LaneId) :
    (s.tear n).pending = s.pending ∧ (s.tear n).powered = s.powered ∧ (s.tear n).nvwp = s.nvwp ∧ (s.tear n).link = s.link ∧
    (s.tear n).proc = s.proc ∧ (s.tear n).claims = s.claims ∧ (s.tear n).hot = s.hot ∧ (s.tear n).fare = s.fare ∧ (s.tear
    n).incidents = s.incidents ∧ (s.tear n).keys = s.keys ∧ (s.tear n).journal = s.journal ∧ (s.tear n).window = s.window ∧
    (s.tear n).retention = s.retention ∧ (s.tear n).clock = s.clock ∧ (s.tear n).notices = s.notices ∧ (s.tear n).emergency =
    s.emergency ∧ (s.tear n).seen.inbox = s.seen.inbox := by
  refine ⟨?_, ?_, ?_, ?_, ?_, ?_, ?_, ?_, ?_, ?_, ?_, ?_, ?_, ?_, ?_, ?_, ?_⟩
  all_goals
    first
      | with_reducible rfl
      | (unfold State.tear
         (try dsimp only)
         repeat'
           first
             | with_reducible rfl
             | (simp only [updEngine_frame, openReserved_frame]; done)
             | (simp only [updEngine_frame, openReserved_frame]; split)
             | split)

@[simp] theorem lostDuring_frame (s : State) (n : LaneId) :
    (s.lostDuring n).pending = s.pending ∧ (s.lostDuring n).powered = s.powered ∧ (s.lostDuring n).nvwp = s.nvwp ∧ (s.lostDuring
    n).link = s.link ∧ (s.lostDuring n).claims = s.claims ∧ (s.lostDuring n).hot = s.hot ∧ (s.lostDuring n).incidents =
    s.incidents ∧ (s.lostDuring n).keys = s.keys ∧ (s.lostDuring n).window = s.window ∧ (s.lostDuring n).retention = s.retention
    ∧ (s.lostDuring n).clock = s.clock ∧ (s.lostDuring n).emergency = s.emergency ∧ (s.lostDuring n).notices.conditions =
    s.notices.conditions ∧ (s.lostDuring n).notices.pending = s.notices.pending ∧ (s.lostDuring n).notices.levels =
    s.notices.levels := by
  refine ⟨?_, ?_, ?_, ?_, ?_, ?_, ?_, ?_, ?_, ?_, ?_, ?_, ?_, ?_, ?_⟩
  all_goals
    first
      | with_reducible rfl
      | (unfold State.lostDuring
         (try dsimp only)
         repeat'
           first
             | with_reducible rfl
             | (simp only [finishing_frame, tear_frame]; done)
             | (simp only [finishing_frame, tear_frame]; split)
             | split)

@[simp] theorem writeDone_frame (s : State) (n : LaneId) :
    (s.writeDone n).pending = s.pending ∧ (s.writeDone n).powered = s.powered ∧ (s.writeDone n).nvwp = s.nvwp ∧ (s.writeDone
    n).link = s.link ∧ (s.writeDone n).claims = s.claims ∧ (s.writeDone n).hot = s.hot ∧ (s.writeDone n).incidents = s.incidents
    ∧ (s.writeDone n).keys = s.keys ∧ (s.writeDone n).window = s.window ∧ (s.writeDone n).retention = s.retention ∧ (s.writeDone
    n).clock = s.clock ∧ (s.writeDone n).emergency = s.emergency ∧ (s.writeDone n).seen.entries = s.seen.entries ∧ (s.writeDone
    n).notices.conditions = s.notices.conditions ∧ (s.writeDone n).notices.pending = s.notices.pending ∧ (s.writeDone
    n).notices.levels = s.notices.levels := by
  refine ⟨?_, ?_, ?_, ?_, ?_, ?_, ?_, ?_, ?_, ?_, ?_, ?_, ?_, ?_, ?_, ?_⟩
  all_goals
    first
      | with_reducible rfl
      | (unfold State.writeDone
         (try dsimp only)
         repeat'
           first
             | with_reducible rfl
             | (simp only [finishing_frame, recordFreeing_frame]; done)
             | (simp only [finishing_frame, recordFreeing_frame]; split)
             | split)

@[simp] theorem portFault_frame (s : State) (n : LaneId) (side : Side) :
    (s.portFault n side).pending = s.pending ∧ (s.portFault n side).powered = s.powered ∧ (s.portFault n side).nvwp = s.nvwp ∧
    (s.portFault n side).link = s.link ∧ (s.portFault n side).claims = s.claims ∧ (s.portFault n side).hot = s.hot ∧
    (s.portFault n side).incidents = s.incidents ∧ (s.portFault n side).keys = s.keys ∧ (s.portFault n side).window = s.window ∧
    (s.portFault n side).retention = s.retention ∧ (s.portFault n side).clock = s.clock ∧ (s.portFault n side).emergency =
    s.emergency ∧ (s.portFault n side).notices.conditions = s.notices.conditions ∧ (s.portFault n side).notices.pending =
    s.notices.pending ∧ (s.portFault n side).notices.levels = s.notices.levels := by
  refine ⟨?_, ?_, ?_, ?_, ?_, ?_, ?_, ?_, ?_, ?_, ?_, ?_, ?_, ?_, ?_⟩
  all_goals
    first
      | with_reducible rfl
      | (unfold State.portFault
         (try dsimp only)
         repeat'
           first
             | with_reducible rfl
             | (simp only [updLane_frame, updPort_frame, record_frame, readFails_frame, lostDuring_frame,
                              raise_pending, raise_powered, raise_nvwp, raise_link, raise_claims,
                              raise_hot, raise_incidents, raise_keys, raise_window, raise_retention,
                              raise_clock, raise_emergency, raise_notices]; done)
             | (simp only [updLane_frame, updPort_frame, record_frame, readFails_frame, lostDuring_frame,
                              raise_pending, raise_powered, raise_nvwp, raise_link, raise_claims,
                              raise_hot, raise_incidents, raise_keys, raise_window, raise_retention,
                              raise_clock, raise_emergency, raise_notices]; split)
             | split)

@[simp] theorem resolve_frame (s : State) (n : LaneId) :
    ((s.resolve n).1).pending = s.pending ∧ ((s.resolve n).1).free = s.free ∧ ((s.resolve n).1).powered = s.powered ∧
    ((s.resolve n).1).nvwp = s.nvwp ∧ ((s.resolve n).1).link = s.link ∧ ((s.resolve n).1).proc = s.proc ∧ ((s.resolve
    n).1).claims = s.claims ∧ ((s.resolve n).1).hot = s.hot ∧ ((s.resolve n).1).fare = s.fare ∧ ((s.resolve n).1).incidents =
    s.incidents ∧ ((s.resolve n).1).keys = s.keys ∧ ((s.resolve n).1).window = s.window ∧ ((s.resolve n).1).retention =
    s.retention ∧ ((s.resolve n).1).clock = s.clock ∧ ((s.resolve n).1).emergency = s.emergency ∧ ((s.resolve n).1).seen.inbox =
    s.seen.inbox ∧ ((s.resolve n).1).notices.conditions = s.notices.conditions ∧ ((s.resolve n).1).notices.pending =
    s.notices.pending ∧ ((s.resolve n).1).notices.levels = s.notices.levels := by
  refine ⟨?_, ?_, ?_, ?_, ?_, ?_, ?_, ?_, ?_, ?_, ?_, ?_, ?_, ?_, ?_, ?_, ?_, ?_, ?_⟩
  all_goals
    first
      | with_reducible rfl
      | (unfold State.resolve
         (try dsimp only)
         repeat'
           first
             | with_reducible rfl
             | (simp only [updEngine_frame, closeSlot_frame]; done)
             | (simp only [updEngine_frame, closeSlot_frame]; split)
             | split)

@[simp] theorem abandon_frame (s : State) (n : LaneId) (r : RefusalCode) :
    (s.abandon n r).pending = s.pending ∧ (s.abandon n r).free = s.free ∧ (s.abandon n r).powered = s.powered ∧ (s.abandon n
    r).nvwp = s.nvwp ∧ (s.abandon n r).link = s.link ∧ (s.abandon n r).claims = s.claims ∧ (s.abandon n r).hot = s.hot ∧
    (s.abandon n r).incidents = s.incidents ∧ (s.abandon n r).keys = s.keys ∧ (s.abandon n r).window = s.window ∧ (s.abandon n
    r).retention = s.retention ∧ (s.abandon n r).clock = s.clock ∧ (s.abandon n r).emergency = s.emergency ∧ (s.abandon n
    r).notices.conditions = s.notices.conditions ∧ (s.abandon n r).notices.pending = s.notices.pending ∧ (s.abandon n
    r).notices.levels = s.notices.levels := by
  refine ⟨?_, ?_, ?_, ?_, ?_, ?_, ?_, ?_, ?_, ?_, ?_, ?_, ?_, ?_, ?_, ?_⟩
  all_goals
    first
      | with_reducible rfl
      | (unfold State.abandon
         (try dsimp only)
         repeat'
           first
             | with_reducible rfl
             | (simp only [refuse_frame, endExchange_frame, resolve_frame]; done)
             | (simp only [refuse_frame, endExchange_frame, resolve_frame]; split)
             | split)

@[simp] theorem resetEngine_frame (s : State) (n : LaneId) :
    (s.resetEngine n).pending = s.pending ∧ (s.resetEngine n).powered = s.powered ∧ (s.resetEngine n).nvwp = s.nvwp ∧
    (s.resetEngine n).link = s.link ∧ (s.resetEngine n).claims = s.claims ∧ (s.resetEngine n).hot = s.hot ∧ (s.resetEngine
    n).incidents = s.incidents ∧ (s.resetEngine n).keys = s.keys ∧ (s.resetEngine n).window = s.window ∧ (s.resetEngine
    n).retention = s.retention ∧ (s.resetEngine n).clock = s.clock ∧ (s.resetEngine n).emergency = s.emergency ∧ (s.resetEngine
    n).notices.conditions = s.notices.conditions ∧ (s.resetEngine n).notices.pending = s.notices.pending ∧ (s.resetEngine
    n).notices.levels = s.notices.levels := by
  refine ⟨?_, ?_, ?_, ?_, ?_, ?_, ?_, ?_, ?_, ?_, ?_, ?_, ?_, ?_, ?_⟩
  all_goals
    first
      | with_reducible rfl
      | (unfold State.resetEngine
         (try dsimp only)
         repeat'
           first
             | with_reducible rfl
             | (simp only [takeOffers_frame, finishReset_frame, endExchange_frame, lostDuring_frame, abandon_frame]; done)
             | (simp only [takeOffers_frame, finishReset_frame, endExchange_frame, lostDuring_frame, abandon_frame]; split)
             | split)

@[simp] theorem resetLane_frame (s : State) (n : LaneId) (k : ResetKind) :
    (s.resetLane n k).pending = s.pending ∧ (s.resetLane n k).powered = s.powered ∧ (s.resetLane n k).nvwp = s.nvwp ∧
    (s.resetLane n k).link = s.link ∧ (s.resetLane n k).claims = s.claims ∧ (s.resetLane n k).hot = s.hot ∧ (s.resetLane n
    k).incidents = s.incidents ∧ (s.resetLane n k).keys = s.keys ∧ (s.resetLane n k).window = s.window ∧ (s.resetLane n
    k).retention = s.retention ∧ (s.resetLane n k).clock = s.clock ∧ (s.resetLane n k).emergency = s.emergency ∧ (s.resetLane n
    k).notices.conditions = s.notices.conditions ∧ (s.resetLane n k).notices.pending = s.notices.pending ∧ (s.resetLane n
    k).notices.levels = s.notices.levels := by
  refine ⟨?_, ?_, ?_, ?_, ?_, ?_, ?_, ?_, ?_, ?_, ?_, ?_, ?_, ?_, ?_⟩
  all_goals
    first
      | with_reducible rfl
      | (unfold State.resetLane
         (try dsimp only)
         repeat'
           first
             | with_reducible rfl
             | (simp only [updLane_frame, resetEngine_frame]; done)
             | (simp only [updLane_frame, resetEngine_frame]; split)
             | split)

@[simp] theorem requestAdmission_frame (s : State) (n : LaneId) :
    (s.requestAdmission n).pending = s.pending ∧ (s.requestAdmission n).free = s.free ∧ (s.requestAdmission n).powered =
    s.powered ∧ (s.requestAdmission n).nvwp = s.nvwp ∧ (s.requestAdmission n).link = s.link ∧ (s.requestAdmission n).claims =
    s.claims ∧ (s.requestAdmission n).hot = s.hot ∧ (s.requestAdmission n).recovery = s.recovery ∧ (s.requestAdmission
    n).incidents = s.incidents ∧ (s.requestAdmission n).keys = s.keys ∧ (s.requestAdmission n).window = s.window ∧
    (s.requestAdmission n).retention = s.retention ∧ (s.requestAdmission n).clock = s.clock ∧ (s.requestAdmission n).emergency =
    s.emergency ∧ (s.requestAdmission n).seen.entries = s.seen.entries ∧ (s.requestAdmission n).notices.conditions =
    s.notices.conditions ∧ (s.requestAdmission n).notices.pending = s.notices.pending ∧ (s.requestAdmission n).notices.levels =
    s.notices.levels := by
  refine ⟨?_, ?_, ?_, ?_, ?_, ?_, ?_, ?_, ?_, ?_, ?_, ?_, ?_, ?_, ?_, ?_, ?_, ?_⟩
  all_goals
    first
      | with_reducible rfl
      | (unfold State.requestAdmission
         (try dsimp only)
         repeat'
           first
             | with_reducible rfl
             | (simp only [updLane_frame, updEngine_frame, refuse_frame]; done)
             | (simp only [updLane_frame, updEngine_frame, refuse_frame]; split)
             | split)

@[simp] theorem askRead_frame (s : State) (n : LaneId) (side : Side) (id : Identity) :
    (s.askRead n side id).pending = s.pending ∧ (s.askRead n side id).free = s.free ∧ (s.askRead n side id).powered = s.powered
    ∧ (s.askRead n side id).nvwp = s.nvwp ∧ (s.askRead n side id).link = s.link ∧ (s.askRead n side id).claims = s.claims ∧
    (s.askRead n side id).hot = s.hot ∧ (s.askRead n side id).recovery = s.recovery ∧ (s.askRead n side id).incidents =
    s.incidents ∧ (s.askRead n side id).keys = s.keys ∧ (s.askRead n side id).window = s.window ∧ (s.askRead n side
    id).retention = s.retention ∧ (s.askRead n side id).clock = s.clock ∧ (s.askRead n side id).emergency = s.emergency ∧
    (s.askRead n side id).seen.entries = s.seen.entries ∧ (s.askRead n side id).notices.conditions = s.notices.conditions ∧
    (s.askRead n side id).notices.pending = s.notices.pending ∧ (s.askRead n side id).notices.levels = s.notices.levels := by
  refine ⟨?_, ?_, ?_, ?_, ?_, ?_, ?_, ?_, ?_, ?_, ?_, ?_, ?_, ?_, ?_, ?_, ?_, ?_⟩
  all_goals
    first
      | with_reducible rfl
      | (unfold State.askRead
         (try dsimp only)
         repeat'
           first
             | with_reducible rfl
             | (simp only [updEngine_frame, updPort_frame, readFails_frame]; done)
             | (simp only [updEngine_frame, updPort_frame, readFails_frame]; split)
             | split)

@[simp] theorem askJournal_frame (s : State) (n : LaneId) :
    (s.askJournal n).pending = s.pending ∧ (s.askJournal n).free = s.free ∧ (s.askJournal n).powered = s.powered ∧ (s.askJournal
    n).nvwp = s.nvwp ∧ (s.askJournal n).link = s.link ∧ (s.askJournal n).claims = s.claims ∧ (s.askJournal n).hot = s.hot ∧
    (s.askJournal n).recovery = s.recovery ∧ (s.askJournal n).incidents = s.incidents ∧ (s.askJournal n).keys = s.keys ∧
    (s.askJournal n).window = s.window ∧ (s.askJournal n).retention = s.retention ∧ (s.askJournal n).clock = s.clock ∧
    (s.askJournal n).emergency = s.emergency ∧ (s.askJournal n).seen.entries = s.seen.entries ∧ (s.askJournal
    n).notices.conditions = s.notices.conditions ∧ (s.askJournal n).notices.pending = s.notices.pending ∧ (s.askJournal
    n).notices.levels = s.notices.levels := by
  refine ⟨?_, ?_, ?_, ?_, ?_, ?_, ?_, ?_, ?_, ?_, ?_, ?_, ?_, ?_, ?_, ?_, ?_, ?_⟩
  all_goals
    first
      | with_reducible rfl
      | (unfold State.askJournal
         (try dsimp only)
         repeat'
           first
             | with_reducible rfl
             | (simp only [updEngine_frame, refuse_frame, askRead_frame]; done)
             | (simp only [updEngine_frame, refuse_frame, askRead_frame]; split)
             | split)

@[simp] theorem lookUpHotList_frame (s : State) (n : LaneId) :
    (s.lookUpHotList n).pending = s.pending ∧ (s.lookUpHotList n).free = s.free ∧ (s.lookUpHotList n).powered = s.powered ∧
    (s.lookUpHotList n).nvwp = s.nvwp ∧ (s.lookUpHotList n).link = s.link ∧ (s.lookUpHotList n).claims = s.claims ∧
    (s.lookUpHotList n).hot = s.hot ∧ (s.lookUpHotList n).recovery = s.recovery ∧ (s.lookUpHotList n).incidents = s.incidents ∧
    (s.lookUpHotList n).keys = s.keys ∧ (s.lookUpHotList n).window = s.window ∧ (s.lookUpHotList n).retention = s.retention ∧
    (s.lookUpHotList n).clock = s.clock ∧ (s.lookUpHotList n).emergency = s.emergency ∧ (s.lookUpHotList n).seen.entries =
    s.seen.entries ∧ (s.lookUpHotList n).notices.conditions = s.notices.conditions ∧ (s.lookUpHotList n).notices.pending =
    s.notices.pending ∧ (s.lookUpHotList n).notices.levels = s.notices.levels := by
  refine ⟨?_, ?_, ?_, ?_, ?_, ?_, ?_, ?_, ?_, ?_, ?_, ?_, ?_, ?_, ?_, ?_, ?_, ?_⟩
  all_goals
    first
      | with_reducible rfl
      | (unfold State.lookUpHotList
         (try dsimp only)
         repeat'
           first
             | with_reducible rfl
             | (simp only [updEngine_frame, refuseCard_frame, raise_pending, raise_free, raise_powered, raise_nvwp,
                              raise_link, raise_claims, raise_hot, raise_recovery, raise_incidents,
                              raise_keys, raise_window, raise_retention, raise_clock,
                              raise_emergency, raise_seen, raise_notices]; done)
             | (simp only [updEngine_frame, refuseCard_frame, raise_pending, raise_free, raise_powered, raise_nvwp,
                              raise_link, raise_claims, raise_hot, raise_recovery, raise_incidents,
                              raise_keys, raise_window, raise_retention, raise_clock,
                              raise_emergency, raise_seen, raise_notices]; split)
             | split)

@[simp] theorem requestClaim_frame (s : State) (n : LaneId) :
    (s.requestClaim n).pending = s.pending ∧ (s.requestClaim n).free = s.free ∧ (s.requestClaim n).powered = s.powered ∧
    (s.requestClaim n).nvwp = s.nvwp ∧ (s.requestClaim n).link = s.link ∧ (s.requestClaim n).hot = s.hot ∧ (s.requestClaim
    n).recovery = s.recovery ∧ (s.requestClaim n).incidents = s.incidents ∧ (s.requestClaim n).keys = s.keys ∧ (s.requestClaim
    n).window = s.window ∧ (s.requestClaim n).retention = s.retention ∧ (s.requestClaim n).clock = s.clock ∧ (s.requestClaim
    n).emergency = s.emergency ∧ (s.requestClaim n).seen.entries = s.seen.entries ∧ (s.requestClaim n).notices.conditions =
    s.notices.conditions ∧ (s.requestClaim n).notices.pending = s.notices.pending ∧ (s.requestClaim n).notices.levels =
    s.notices.levels := by
  refine ⟨?_, ?_, ?_, ?_, ?_, ?_, ?_, ?_, ?_, ?_, ?_, ?_, ?_, ?_, ?_, ?_, ?_⟩
  all_goals
    first
      | with_reducible rfl
      | (unfold State.requestClaim
         (try dsimp only)
         repeat'
           first
             | with_reducible rfl
             | (simp only [updEngine_frame, refuseClone_frame, setClaim_pending, setClaim_free, setClaim_powered,
                              setClaim_nvwp, setClaim_link, setClaim_hot, setClaim_recovery,
                              setClaim_incidents, setClaim_keys, setClaim_window,
                              setClaim_retention, setClaim_clock, setClaim_emergency, setClaim_seen,
                              setClaim_notices]; done)
             | (simp only [updEngine_frame, refuseClone_frame, setClaim_pending, setClaim_free, setClaim_powered,
                              setClaim_nvwp, setClaim_link, setClaim_hot, setClaim_recovery,
                              setClaim_incidents, setClaim_keys, setClaim_window,
                              setClaim_retention, setClaim_clock, setClaim_emergency, setClaim_seen,
                              setClaim_notices]; split)
             | split)

@[simp] theorem takeComputed_frame (s : State) (n : LaneId) (f : FareTable) (p : Product) (c : Computed) :
    (s.takeComputed n f p c).pending = s.pending ∧ (s.takeComputed n f p c).free = s.free ∧ (s.takeComputed n f p c).powered =
    s.powered ∧ (s.takeComputed n f p c).nvwp = s.nvwp ∧ (s.takeComputed n f p c).link = s.link ∧ (s.takeComputed n f p
    c).claims = s.claims ∧ (s.takeComputed n f p c).hot = s.hot ∧ (s.takeComputed n f p c).recovery = s.recovery ∧
    (s.takeComputed n f p c).incidents = s.incidents ∧ (s.takeComputed n f p c).keys = s.keys ∧ (s.takeComputed n f p c).window
    = s.window ∧ (s.takeComputed n f p c).retention = s.retention ∧ (s.takeComputed n f p c).clock = s.clock ∧ (s.takeComputed n
    f p c).emergency = s.emergency ∧ (s.takeComputed n f p c).seen.entries = s.seen.entries ∧ (s.takeComputed n f p
    c).notices.conditions = s.notices.conditions ∧ (s.takeComputed n f p c).notices.pending = s.notices.pending ∧
    (s.takeComputed n f p c).notices.levels = s.notices.levels := by
  refine ⟨?_, ?_, ?_, ?_, ?_, ?_, ?_, ?_, ?_, ?_, ?_, ?_, ?_, ?_, ?_, ?_, ?_, ?_⟩
  all_goals
    first
      | with_reducible rfl
      | (unfold State.takeComputed
         (try dsimp only)
         repeat'
           first
             | with_reducible rfl
             | (simp only [updEngine_frame, refuseCard_frame]; done)
             | (simp only [updEngine_frame, refuseCard_frame]; split)
             | split)

@[simp] theorem reGrant_frame (s : State) (n : LaneId) (k : GrantKind) :
    (s.reGrant n k).pending = s.pending ∧ (s.reGrant n k).free = s.free ∧ (s.reGrant n k).powered = s.powered ∧ (s.reGrant n
    k).nvwp = s.nvwp ∧ (s.reGrant n k).link = s.link ∧ (s.reGrant n k).claims = s.claims ∧ (s.reGrant n k).hot = s.hot ∧
    (s.reGrant n k).recovery = s.recovery ∧ (s.reGrant n k).incidents = s.incidents ∧ (s.reGrant n k).keys = s.keys ∧ (s.reGrant
    n k).window = s.window ∧ (s.reGrant n k).retention = s.retention ∧ (s.reGrant n k).clock = s.clock ∧ (s.reGrant n
    k).emergency = s.emergency ∧ (s.reGrant n k).seen.entries = s.seen.entries ∧ (s.reGrant n k).notices.conditions =
    s.notices.conditions ∧ (s.reGrant n k).notices.pending = s.notices.pending ∧ (s.reGrant n k).notices.levels =
    s.notices.levels := by
  refine ⟨?_, ?_, ?_, ?_, ?_, ?_, ?_, ?_, ?_, ?_, ?_, ?_, ?_, ?_, ?_, ?_, ?_, ?_⟩
  all_goals
    first
      | with_reducible rfl
      | (unfold State.reGrant
         (try dsimp only)
         repeat'
           first
             | with_reducible rfl
             | (simp only [updEngine_frame, finishing_frame]; done)
             | (simp only [updEngine_frame, finishing_frame]; split)
             | split)

@[simp] theorem tripCheck_frame (s : State) (n : LaneId) (f : FareTable) (p : Product) :
    (s.tripCheck n f p).pending = s.pending ∧ (s.tripCheck n f p).free = s.free ∧ (s.tripCheck n f p).powered = s.powered ∧
    (s.tripCheck n f p).nvwp = s.nvwp ∧ (s.tripCheck n f p).link = s.link ∧ (s.tripCheck n f p).claims = s.claims ∧ (s.tripCheck
    n f p).hot = s.hot ∧ (s.tripCheck n f p).recovery = s.recovery ∧ (s.tripCheck n f p).incidents = s.incidents ∧ (s.tripCheck
    n f p).keys = s.keys ∧ (s.tripCheck n f p).window = s.window ∧ (s.tripCheck n f p).retention = s.retention ∧ (s.tripCheck n
    f p).clock = s.clock ∧ (s.tripCheck n f p).emergency = s.emergency ∧ (s.tripCheck n f p).seen.entries = s.seen.entries ∧
    (s.tripCheck n f p).notices.conditions = s.notices.conditions ∧ (s.tripCheck n f p).notices.pending = s.notices.pending ∧
    (s.tripCheck n f p).notices.levels = s.notices.levels := by
  refine ⟨?_, ?_, ?_, ?_, ?_, ?_, ?_, ?_, ?_, ?_, ?_, ?_, ?_, ?_, ?_, ?_, ?_, ?_⟩
  all_goals
    first
      | with_reducible rfl
      | (unfold State.tripCheck
         (try dsimp only)
         repeat'
           first
             | with_reducible rfl
             | (simp only [updEngine_frame, refuse_frame, refuseCard_frame, takeComputed_frame, reGrant_frame]; done)
             | (simp only [updEngine_frame, refuse_frame, refuseCard_frame, takeComputed_frame, reGrant_frame]; split)
             | split)

@[simp] theorem productChecks_frame (s : State) (n : LaneId) :
    (s.productChecks n).pending = s.pending ∧ (s.productChecks n).free = s.free ∧ (s.productChecks n).powered = s.powered ∧
    (s.productChecks n).nvwp = s.nvwp ∧ (s.productChecks n).link = s.link ∧ (s.productChecks n).claims = s.claims ∧
    (s.productChecks n).hot = s.hot ∧ (s.productChecks n).recovery = s.recovery ∧ (s.productChecks n).incidents = s.incidents ∧
    (s.productChecks n).keys = s.keys ∧ (s.productChecks n).window = s.window ∧ (s.productChecks n).retention = s.retention ∧
    (s.productChecks n).clock = s.clock ∧ (s.productChecks n).emergency = s.emergency ∧ (s.productChecks n).seen.entries =
    s.seen.entries ∧ (s.productChecks n).notices.conditions = s.notices.conditions ∧ (s.productChecks n).notices.pending =
    s.notices.pending ∧ (s.productChecks n).notices.levels = s.notices.levels := by
  refine ⟨?_, ?_, ?_, ?_, ?_, ?_, ?_, ?_, ?_, ?_, ?_, ?_, ?_, ?_, ?_, ?_, ?_, ?_⟩
  all_goals
    first
      | with_reducible rfl
      | (unfold State.productChecks
         (try dsimp only)
         repeat'
           first
             | with_reducible rfl
             | (simp only [refuseCard_frame, tripCheck_frame]; done)
             | (simp only [refuseCard_frame, tripCheck_frame]; split)
             | split)

@[simp] theorem screenCounter_frame (s : State) (n : LaneId) :
    (s.screenCounter n).pending = s.pending ∧ (s.screenCounter n).free = s.free ∧ (s.screenCounter n).powered = s.powered ∧
    (s.screenCounter n).nvwp = s.nvwp ∧ (s.screenCounter n).link = s.link ∧ (s.screenCounter n).claims = s.claims ∧
    (s.screenCounter n).hot = s.hot ∧ (s.screenCounter n).recovery = s.recovery ∧ (s.screenCounter n).incidents = s.incidents ∧
    (s.screenCounter n).keys = s.keys ∧ (s.screenCounter n).window = s.window ∧ (s.screenCounter n).retention = s.retention ∧
    (s.screenCounter n).clock = s.clock ∧ (s.screenCounter n).emergency = s.emergency ∧ (s.screenCounter n).seen.entries =
    s.seen.entries ∧ (s.screenCounter n).notices.conditions = s.notices.conditions ∧ (s.screenCounter n).notices.pending =
    s.notices.pending ∧ (s.screenCounter n).notices.levels = s.notices.levels := by
  refine ⟨?_, ?_, ?_, ?_, ?_, ?_, ?_, ?_, ?_, ?_, ?_, ?_, ?_, ?_, ?_, ?_, ?_, ?_⟩
  all_goals
    first
      | with_reducible rfl
      | (unfold State.screenCounter
         (try dsimp only)
         repeat'
           first
             | with_reducible rfl
             | (simp only [refuseCard_frame, refuseClone_frame, productChecks_frame]; done)
             | (simp only [refuseCard_frame, refuseClone_frame, productChecks_frame]; split)
             | split)

@[simp] theorem requestResolution_frame (s : State) (n : LaneId) :
    (s.requestResolution n).pending = s.pending ∧ (s.requestResolution n).free = s.free ∧ (s.requestResolution n).powered =
    s.powered ∧ (s.requestResolution n).nvwp = s.nvwp ∧ (s.requestResolution n).link = s.link ∧ (s.requestResolution n).claims =
    s.claims ∧ (s.requestResolution n).hot = s.hot ∧ (s.requestResolution n).incidents = s.incidents ∧ (s.requestResolution
    n).keys = s.keys ∧ (s.requestResolution n).window = s.window ∧ (s.requestResolution n).retention = s.retention ∧
    (s.requestResolution n).clock = s.clock ∧ (s.requestResolution n).emergency = s.emergency ∧ (s.requestResolution
    n).notices.conditions = s.notices.conditions ∧ (s.requestResolution n).notices.pending = s.notices.pending ∧
    (s.requestResolution n).notices.levels = s.notices.levels := by
  refine ⟨?_, ?_, ?_, ?_, ?_, ?_, ?_, ?_, ?_, ?_, ?_, ?_, ?_, ?_, ?_, ?_⟩
  all_goals
    first
      | with_reducible rfl
      | (unfold State.requestResolution
         (try dsimp only)
         repeat'
           first
             | with_reducible rfl
             | (simp only [answer_frame, refuseCard_frame, refuseClone_frame, resolve_frame, reGrant_frame,
                              screenCounter_frame]; done)
             | (simp only [answer_frame, refuseCard_frame, refuseClone_frame, resolve_frame, reGrant_frame,
                              screenCounter_frame]; split)
             | split)

@[simp] theorem askIncident_frame (s : State) (n : LaneId) :
    (s.askIncident n).pending = s.pending ∧ (s.askIncident n).free = s.free ∧ (s.askIncident n).powered = s.powered ∧
    (s.askIncident n).nvwp = s.nvwp ∧ (s.askIncident n).link = s.link ∧ (s.askIncident n).claims = s.claims ∧ (s.askIncident
    n).hot = s.hot ∧ (s.askIncident n).recovery = s.recovery ∧ (s.askIncident n).incidents = s.incidents ∧ (s.askIncident
    n).keys = s.keys ∧ (s.askIncident n).window = s.window ∧ (s.askIncident n).retention = s.retention ∧ (s.askIncident n).clock
    = s.clock ∧ (s.askIncident n).emergency = s.emergency ∧ (s.askIncident n).seen.entries = s.seen.entries ∧ (s.askIncident
    n).notices.conditions = s.notices.conditions ∧ (s.askIncident n).notices.pending = s.notices.pending ∧ (s.askIncident
    n).notices.levels = s.notices.levels := by
  refine ⟨?_, ?_, ?_, ?_, ?_, ?_, ?_, ?_, ?_, ?_, ?_, ?_, ?_, ?_, ?_, ?_, ?_, ?_⟩
  all_goals
    first
      | with_reducible rfl
      | (unfold State.askIncident
         (try dsimp only)
         repeat'
           first
             | with_reducible rfl
             | (simp only [answer_frame, refuseCard_frame, takeComputed_frame]; done)
             | (simp only [answer_frame, refuseCard_frame, takeComputed_frame]; split)
             | split)

@[simp] theorem startWrite_frame (s : State) (n : LaneId) (i : SlotId) :
    (s.startWrite n i).pending = s.pending ∧ (s.startWrite n i).powered = s.powered ∧
    (s.startWrite n i).nvwp = s.nvwp ∧ (s.startWrite n i).link = s.link ∧ (s.startWrite n i).claims = s.claims ∧ (s.startWrite n
    i).hot = s.hot ∧ (s.startWrite n i).incidents = s.incidents ∧ (s.startWrite n i).keys = s.keys ∧ (s.startWrite n i).window =
    s.window ∧ (s.startWrite n i).retention = s.retention ∧ (s.startWrite n i).clock = s.clock ∧ (s.startWrite n i).emergency =
    s.emergency ∧ (s.startWrite n i).seen.entries = s.seen.entries ∧ (s.startWrite n i).notices.conditions =
    s.notices.conditions ∧ (s.startWrite n i).notices.pending = s.notices.pending ∧ (s.startWrite n i).notices.levels =
    s.notices.levels := by
  refine ⟨?_, ?_, ?_, ?_, ?_, ?_, ?_, ?_, ?_, ?_, ?_, ?_, ?_, ?_, ?_, ?_⟩
  all_goals
    first
      | with_reducible rfl
      | (unfold State.startWrite
         (try dsimp only)
         repeat'
           first
             | with_reducible rfl
             | (simp only [updEngine_frame, updPort_frame, refuseFreeing_frame, lostBefore_frame,
                              setSlot_pending, setSlot_free, setSlot_powered, setSlot_nvwp,
                              setSlot_link, setSlot_claims, setSlot_hot, setSlot_incidents,
                              setSlot_keys, setSlot_window, setSlot_retention, setSlot_clock,
                              setSlot_emergency, setSlot_seen, setSlot_notices]; done)
             | (simp only [updEngine_frame, updPort_frame, refuseFreeing_frame, lostBefore_frame,
                              setSlot_pending, setSlot_free, setSlot_powered, setSlot_nvwp,
                              setSlot_link, setSlot_claims, setSlot_hot, setSlot_incidents,
                              setSlot_keys, setSlot_window, setSlot_retention, setSlot_clock,
                              setSlot_emergency, setSlot_seen, setSlot_notices]; split)
             | split)

@[simp] theorem requestReservation_frame (s : State) (n : LaneId) :
    (s.requestReservation n).pending = s.pending ∧ (s.requestReservation n).powered =
    s.powered ∧ (s.requestReservation n).nvwp = s.nvwp ∧ (s.requestReservation n).link = s.link ∧ (s.requestReservation
    n).claims = s.claims ∧ (s.requestReservation n).hot = s.hot ∧ (s.requestReservation n).incidents = s.incidents ∧
    (s.requestReservation n).keys = s.keys ∧ (s.requestReservation n).window = s.window ∧ (s.requestReservation n).retention =
    s.retention ∧ (s.requestReservation n).clock = s.clock ∧ (s.requestReservation n).emergency = s.emergency ∧
    (s.requestReservation n).seen.entries = s.seen.entries ∧ (s.requestReservation n).notices.conditions = s.notices.conditions
    ∧ (s.requestReservation n).notices.pending = s.notices.pending ∧ (s.requestReservation n).notices.levels = s.notices.levels
    := by
  refine ⟨?_, ?_, ?_, ?_, ?_, ?_, ?_, ?_, ?_, ?_, ?_, ?_, ?_, ?_, ?_, ?_⟩
  all_goals
    first
      | with_reducible rfl
      | (unfold State.requestReservation
         (try dsimp only)
         repeat'
           first
             | with_reducible rfl
             | (simp only [updEngine_frame, refuseCard_frame, startWrite_frame, setSlot_pending, setSlot_free,
                              setSlot_powered, setSlot_nvwp, setSlot_link, setSlot_claims,
                              setSlot_hot, setSlot_incidents, setSlot_keys, setSlot_window,
                              setSlot_retention, setSlot_clock, setSlot_emergency, setSlot_seen,
                              setSlot_notices]; done)
             | (simp only [updEngine_frame, refuseCard_frame, startWrite_frame, setSlot_pending, setSlot_free,
                              setSlot_powered, setSlot_nvwp, setSlot_link, setSlot_claims,
                              setSlot_hot, setSlot_incidents, setSlot_keys, setSlot_window,
                              setSlot_retention, setSlot_clock, setSlot_emergency, setSlot_seen,
                              setSlot_notices]; split)
             | split)

@[simp] theorem cloneAlarm_frame (s : State) (n : LaneId) :
    (s.cloneAlarm n).pending = s.pending ∧ (s.cloneAlarm n).free = s.free ∧ (s.cloneAlarm n).powered = s.powered ∧ (s.cloneAlarm
    n).nvwp = s.nvwp ∧ (s.cloneAlarm n).link = s.link ∧ (s.cloneAlarm n).proc = s.proc ∧ (s.cloneAlarm n).lanes = s.lanes ∧
    (s.cloneAlarm n).claims = s.claims ∧ (s.cloneAlarm n).seen = s.seen ∧ (s.cloneAlarm n).recovery = s.recovery ∧ (s.cloneAlarm
    n).fare = s.fare ∧ (s.cloneAlarm n).incidents = s.incidents ∧ (s.cloneAlarm n).keys = s.keys ∧ (s.cloneAlarm n).window =
    s.window ∧ (s.cloneAlarm n).retention = s.retention ∧ (s.cloneAlarm n).clock = s.clock ∧ (s.cloneAlarm n).emergency =
    s.emergency ∧ (s.cloneAlarm n).hot.active = s.hot.active ∧ (s.cloneAlarm n).notices.conditions = s.notices.conditions ∧
    (s.cloneAlarm n).notices.pending = s.notices.pending ∧ (s.cloneAlarm n).notices.levels = s.notices.levels := by
  refine ⟨?_, ?_, ?_, ?_, ?_, ?_, ?_, ?_, ?_, ?_, ?_, ?_, ?_, ?_, ?_, ?_, ?_, ?_, ?_, ?_, ?_⟩
  all_goals
    first
      | with_reducible rfl
      | (unfold State.cloneAlarm
         (try dsimp only)
         repeat'
           first
             | with_reducible rfl
             | (simp only [addLocal_frame, raise_pending, raise_free, raise_powered, raise_nvwp, raise_link,
                              raise_proc, raise_lanes, raise_claims, raise_seen, raise_recovery,
                              raise_fare, raise_incidents, raise_keys, raise_window,
                              raise_retention, raise_clock, raise_emergency, raise_hot,
                              raise_notices]; done)
             | (simp only [addLocal_frame, raise_pending, raise_free, raise_powered, raise_nvwp, raise_link,
                              raise_proc, raise_lanes, raise_claims, raise_seen, raise_recovery,
                              raise_fare, raise_incidents, raise_keys, raise_window,
                              raise_retention, raise_clock, raise_emergency, raise_hot,
                              raise_notices]; split)
             | split)

@[simp] theorem push_frame (s : State) (n : LaneId) :
    (s.push n).pending = s.pending ∧ (s.push n).free = s.free ∧ (s.push n).powered = s.powered ∧ (s.push n).nvwp = s.nvwp ∧
    (s.push n).link = s.link ∧ (s.push n).proc = s.proc ∧ (s.push n).claims = s.claims ∧ (s.push n).hot = s.hot ∧ (s.push
    n).recovery = s.recovery ∧ (s.push n).fare = s.fare ∧ (s.push n).incidents = s.incidents ∧ (s.push n).keys = s.keys ∧
    (s.push n).journal = s.journal ∧ (s.push n).window = s.window ∧ (s.push n).retention = s.retention ∧ (s.push n).clock =
    s.clock ∧ (s.push n).notices = s.notices ∧ (s.push n).emergency = s.emergency ∧ (s.push n).seen.entries = s.seen.entries :=
    by
  refine ⟨?_, ?_, ?_, ?_, ?_, ?_, ?_, ?_, ?_, ?_, ?_, ?_, ?_, ?_, ?_, ?_, ?_, ?_, ?_⟩
  all_goals
    first
      | with_reducible rfl
      | (unfold State.push
         (try dsimp only)
         repeat'
           first
             | with_reducible rfl
             | (simp only [updEngine_frame, updGate_frame, sendGrantUpdate_frame, settleGate_frame, enqueue_frame]; done)
             | (simp only [updEngine_frame, updGate_frame, sendGrantUpdate_frame, settleGate_frame, enqueue_frame]; split)
             | split)

@[simp] theorem applyGrantUpdate_frame (s : State) :
    (s.applyGrantUpdate).pending = s.pending ∧ (s.applyGrantUpdate).free = s.free ∧ (s.applyGrantUpdate).powered = s.powered ∧
    (s.applyGrantUpdate).nvwp = s.nvwp ∧ (s.applyGrantUpdate).link = s.link ∧ (s.applyGrantUpdate).proc = s.proc ∧
    (s.applyGrantUpdate).lanes = s.lanes ∧ (s.applyGrantUpdate).claims = s.claims ∧ (s.applyGrantUpdate).hot = s.hot ∧
    (s.applyGrantUpdate).recovery = s.recovery ∧ (s.applyGrantUpdate).fare = s.fare ∧ (s.applyGrantUpdate).incidents =
    s.incidents ∧ (s.applyGrantUpdate).keys = s.keys ∧ (s.applyGrantUpdate).journal = s.journal ∧ (s.applyGrantUpdate).window =
    s.window ∧ (s.applyGrantUpdate).retention = s.retention ∧ (s.applyGrantUpdate).clock = s.clock ∧
    (s.applyGrantUpdate).notices = s.notices ∧ (s.applyGrantUpdate).emergency = s.emergency := by
  refine ⟨?_, ?_, ?_, ?_, ?_, ?_, ?_, ?_, ?_, ?_, ?_, ?_, ?_, ?_, ?_, ?_, ?_, ?_, ?_⟩
  all_goals
    first
      | with_reducible rfl
      | (unfold State.applyGrantUpdate
         (try dsimp only)
         repeat'
           first
             | with_reducible rfl
             | (simp only [takeGrantUpdate_frame]; done)
             | (simp only [takeGrantUpdate_frame]; split)
             | split)

@[simp] theorem headReady_frame (s : State) (n : LaneId) (side : Side) :
    (s.headReady n side).pending = s.pending ∧ (s.headReady n side).powered = s.powered ∧ (s.headReady n side).nvwp = s.nvwp ∧
    (s.headReady n side).link = s.link ∧ (s.headReady n side).claims = s.claims ∧ (s.headReady n side).hot = s.hot ∧
    (s.headReady n side).incidents = s.incidents ∧ (s.headReady n side).keys = s.keys ∧ (s.headReady n side).window = s.window ∧
    (s.headReady n side).retention = s.retention ∧ (s.headReady n side).clock = s.clock ∧ (s.headReady n side).emergency =
    s.emergency ∧ (s.headReady n side).notices.conditions = s.notices.conditions ∧ (s.headReady n side).notices.pending =
    s.notices.pending ∧ (s.headReady n side).notices.levels = s.notices.levels := by
  refine ⟨?_, ?_, ?_, ?_, ?_, ?_, ?_, ?_, ?_, ?_, ?_, ?_, ?_, ?_, ?_⟩
  all_goals
    first
      | with_reducible rfl
      | (unfold State.headReady
         (try dsimp only)
         repeat'
           first
             | with_reducible rfl
             | (simp only [updLane_frame, updPort_frame, readFails_frame, lostDuring_frame]; done)
             | (simp only [updLane_frame, updPort_frame, readFails_frame, lostDuring_frame]; split)
             | split)

@[simp] theorem headFaultReport_frame (s : State) (n : LaneId) (side : Side) :
    (s.headFaultReport n side).pending = s.pending ∧ (s.headFaultReport n side).powered = s.powered ∧ (s.headFaultReport n
    side).nvwp = s.nvwp ∧ (s.headFaultReport n side).link = s.link ∧ (s.headFaultReport n side).claims = s.claims ∧
    (s.headFaultReport n side).hot = s.hot ∧ (s.headFaultReport n side).incidents = s.incidents ∧ (s.headFaultReport n
    side).keys = s.keys ∧ (s.headFaultReport n side).window = s.window ∧ (s.headFaultReport n side).retention = s.retention ∧
    (s.headFaultReport n side).clock = s.clock ∧ (s.headFaultReport n side).emergency = s.emergency ∧ (s.headFaultReport n
    side).notices.conditions = s.notices.conditions ∧ (s.headFaultReport n side).notices.pending = s.notices.pending ∧
    (s.headFaultReport n side).notices.levels = s.notices.levels := by
  refine ⟨?_, ?_, ?_, ?_, ?_, ?_, ?_, ?_, ?_, ?_, ?_, ?_, ?_, ?_, ?_⟩
  all_goals
    first
      | with_reducible rfl
      | (unfold State.headFaultReport
         (try dsimp only)
         repeat'
           first
             | with_reducible rfl
             | (simp only [portFault_frame]; done)
             | (simp only [portFault_frame]; split)
             | split)

@[simp] theorem headTimeout_frame (s : State) (n : LaneId) (side : Side) :
    (s.headTimeout n side).pending = s.pending ∧ (s.headTimeout n side).powered = s.powered ∧ (s.headTimeout n side).nvwp =
    s.nvwp ∧ (s.headTimeout n side).link = s.link ∧ (s.headTimeout n side).claims = s.claims ∧ (s.headTimeout n side).hot =
    s.hot ∧ (s.headTimeout n side).incidents = s.incidents ∧ (s.headTimeout n side).keys = s.keys ∧ (s.headTimeout n
    side).window = s.window ∧ (s.headTimeout n side).retention = s.retention ∧ (s.headTimeout n side).clock = s.clock ∧
    (s.headTimeout n side).emergency = s.emergency ∧ (s.headTimeout n side).notices.conditions = s.notices.conditions ∧
    (s.headTimeout n side).notices.pending = s.notices.pending ∧ (s.headTimeout n side).notices.levels = s.notices.levels := by
  refine ⟨?_, ?_, ?_, ?_, ?_, ?_, ?_, ?_, ?_, ?_, ?_, ?_, ?_, ?_, ?_⟩
  all_goals
    first
      | with_reducible rfl
      | (unfold State.headTimeout
         (try dsimp only)
         repeat'
           first
             | with_reducible rfl
             | (simp only [endExchange_frame, portFault_frame]; done)
             | (simp only [endExchange_frame, portFault_frame]; split)
             | split)

@[simp] theorem faultPoll_frame (s : State) (n : LaneId) (side : Side) :
    (s.faultPoll n side).pending = s.pending ∧ (s.faultPoll n side).free = s.free ∧ (s.faultPoll n side).powered = s.powered ∧
    (s.faultPoll n side).nvwp = s.nvwp ∧ (s.faultPoll n side).link = s.link ∧ (s.faultPoll n side).proc = s.proc ∧ (s.faultPoll
    n side).claims = s.claims ∧ (s.faultPoll n side).seen = s.seen ∧ (s.faultPoll n side).hot = s.hot ∧ (s.faultPoll n
    side).recovery = s.recovery ∧ (s.faultPoll n side).fare = s.fare ∧ (s.faultPoll n side).incidents = s.incidents ∧
    (s.faultPoll n side).keys = s.keys ∧ (s.faultPoll n side).journal = s.journal ∧ (s.faultPoll n side).window = s.window ∧
    (s.faultPoll n side).retention = s.retention ∧ (s.faultPoll n side).clock = s.clock ∧ (s.faultPoll n side).notices =
    s.notices ∧ (s.faultPoll n side).emergency = s.emergency := by
  refine ⟨?_, ?_, ?_, ?_, ?_, ?_, ?_, ?_, ?_, ?_, ?_, ?_, ?_, ?_, ?_, ?_, ?_, ?_, ?_⟩
  all_goals
    first
      | with_reducible rfl
      | (unfold State.faultPoll
         (try dsimp only)
         repeat'
           first
             | with_reducible rfl
             | (simp only [updPort_frame]; done)
             | (simp only [updPort_frame]; split)
             | split)

@[simp] theorem headPresent_frame (s : State) (n : LaneId) (side : Side) (id : Identity) :
    (s.headPresent n side id).pending = s.pending ∧ (s.headPresent n side id).free = s.free ∧ (s.headPresent n side id).powered
    = s.powered ∧ (s.headPresent n side id).nvwp = s.nvwp ∧ (s.headPresent n side id).link = s.link ∧ (s.headPresent n side
    id).proc = s.proc ∧ (s.headPresent n side id).claims = s.claims ∧ (s.headPresent n side id).seen = s.seen ∧ (s.headPresent n
    side id).hot = s.hot ∧ (s.headPresent n side id).recovery = s.recovery ∧ (s.headPresent n side id).fare = s.fare ∧
    (s.headPresent n side id).incidents = s.incidents ∧ (s.headPresent n side id).keys = s.keys ∧ (s.headPresent n side
    id).journal = s.journal ∧ (s.headPresent n side id).window = s.window ∧ (s.headPresent n side id).retention = s.retention ∧
    (s.headPresent n side id).clock = s.clock ∧ (s.headPresent n side id).notices = s.notices ∧ (s.headPresent n side
    id).emergency = s.emergency := by
  refine ⟨?_, ?_, ?_, ?_, ?_, ?_, ?_, ?_, ?_, ?_, ?_, ?_, ?_, ?_, ?_, ?_, ?_, ?_, ?_⟩
  all_goals
    first
      | with_reducible rfl
      | (unfold State.headPresent
         (try dsimp only)
         repeat'
           first
             | with_reducible rfl
             | (simp only [updLane_frame, updPort_frame, takeOffers_frame]; done)
             | (simp only [updLane_frame, updPort_frame, takeOffers_frame]; split)
             | split)

@[simp] theorem headMultiple_frame (s : State) (n : LaneId) (side : Side) :
    (s.headMultiple n side).pending = s.pending ∧ (s.headMultiple n side).free = s.free ∧ (s.headMultiple n side).powered =
    s.powered ∧ (s.headMultiple n side).nvwp = s.nvwp ∧ (s.headMultiple n side).link = s.link ∧ (s.headMultiple n side).proc =
    s.proc ∧ (s.headMultiple n side).claims = s.claims ∧ (s.headMultiple n side).seen = s.seen ∧ (s.headMultiple n side).hot =
    s.hot ∧ (s.headMultiple n side).recovery = s.recovery ∧ (s.headMultiple n side).fare = s.fare ∧ (s.headMultiple n
    side).incidents = s.incidents ∧ (s.headMultiple n side).keys = s.keys ∧ (s.headMultiple n side).journal = s.journal ∧
    (s.headMultiple n side).window = s.window ∧ (s.headMultiple n side).retention = s.retention ∧ (s.headMultiple n side).clock
    = s.clock ∧ (s.headMultiple n side).notices = s.notices ∧ (s.headMultiple n side).emergency = s.emergency := by
  refine ⟨?_, ?_, ?_, ?_, ?_, ?_, ?_, ?_, ?_, ?_, ?_, ?_, ?_, ?_, ?_, ?_, ?_, ?_, ?_⟩
  all_goals
    first
      | with_reducible rfl
      | (unfold State.headMultiple
         (try dsimp only)
         repeat'
           first
             | with_reducible rfl
             | (simp only [updLane_frame, updPort_frame, takeOffers_frame]; done)
             | (simp only [updLane_frame, updPort_frame, takeOffers_frame]; split)
             | split)

@[simp] theorem headGone_frame (s : State) (n : LaneId) (side : Side) :
    (s.headGone n side).pending = s.pending ∧ (s.headGone n side).free = s.free ∧ (s.headGone n side).powered = s.powered ∧
    (s.headGone n side).nvwp = s.nvwp ∧ (s.headGone n side).link = s.link ∧ (s.headGone n side).claims = s.claims ∧ (s.headGone
    n side).hot = s.hot ∧ (s.headGone n side).recovery = s.recovery ∧ (s.headGone n side).incidents = s.incidents ∧ (s.headGone
    n side).keys = s.keys ∧ (s.headGone n side).window = s.window ∧ (s.headGone n side).retention = s.retention ∧ (s.headGone n
    side).clock = s.clock ∧ (s.headGone n side).emergency = s.emergency ∧ (s.headGone n side).seen.entries = s.seen.entries ∧
    (s.headGone n side).notices.conditions = s.notices.conditions ∧ (s.headGone n side).notices.pending = s.notices.pending ∧
    (s.headGone n side).notices.levels = s.notices.levels := by
  refine ⟨?_, ?_, ?_, ?_, ?_, ?_, ?_, ?_, ?_, ?_, ?_, ?_, ?_, ?_, ?_, ?_, ?_, ?_⟩
  all_goals
    first
      | with_reducible rfl
      | (unfold State.headGone
         (try dsimp only)
         repeat'
           first
             | with_reducible rfl
             | (simp only [updLane_frame, updPort_frame, readFails_frame]; done)
             | (simp only [updLane_frame, updPort_frame, readFails_frame]; split)
             | split)

@[simp] theorem refuseUnverified_frame (s : State) (n : LaneId) (r : RefusalCode) (id : Identity) :
    (s.refuseUnverified n r id).pending = s.pending ∧ (s.refuseUnverified n r id).free = s.free ∧ (s.refuseUnverified n r
    id).powered = s.powered ∧ (s.refuseUnverified n r id).nvwp = s.nvwp ∧ (s.refuseUnverified n r id).link = s.link ∧
    (s.refuseUnverified n r id).claims = s.claims ∧ (s.refuseUnverified n r id).hot = s.hot ∧ (s.refuseUnverified n r
    id).recovery = s.recovery ∧ (s.refuseUnverified n r id).incidents = s.incidents ∧ (s.refuseUnverified n r id).keys = s.keys
    ∧ (s.refuseUnverified n r id).window = s.window ∧ (s.refuseUnverified n r id).retention = s.retention ∧ (s.refuseUnverified
    n r id).clock = s.clock ∧ (s.refuseUnverified n r id).emergency = s.emergency ∧ (s.refuseUnverified n r id).seen.entries =
    s.seen.entries ∧ (s.refuseUnverified n r id).notices.conditions = s.notices.conditions ∧ (s.refuseUnverified n r
    id).notices.pending = s.notices.pending ∧ (s.refuseUnverified n r id).notices.levels = s.notices.levels := by
  refine ⟨?_, ?_, ?_, ?_, ?_, ?_, ?_, ?_, ?_, ?_, ?_, ?_, ?_, ?_, ?_, ?_, ?_, ?_⟩
  all_goals
    first
      | with_reducible rfl
      | (unfold State.refuseUnverified
         (try dsimp only)
         repeat'
           first
             | with_reducible rfl
             | (simp only [updEngine_frame, refuse_frame, raise_pending, raise_free, raise_powered, raise_nvwp,
                              raise_link, raise_claims, raise_hot, raise_recovery, raise_incidents,
                              raise_keys, raise_window, raise_retention, raise_clock,
                              raise_emergency, raise_seen, raise_notices]; done)
             | (simp only [updEngine_frame, refuse_frame, raise_pending, raise_free, raise_powered, raise_nvwp,
                              raise_link, raise_claims, raise_hot, raise_recovery, raise_incidents,
                              raise_keys, raise_window, raise_retention, raise_clock,
                              raise_emergency, raise_seen, raise_notices]; split)
             | split)

@[simp] theorem headData_frame (s : State) (n : LaneId) (side : Side) (m : Image) :
    (s.headData n side m).pending = s.pending ∧ (s.headData n side m).free = s.free ∧ (s.headData n side m).powered = s.powered
    ∧ (s.headData n side m).nvwp = s.nvwp ∧ (s.headData n side m).link = s.link ∧ (s.headData n side m).claims = s.claims ∧
    (s.headData n side m).hot = s.hot ∧ (s.headData n side m).recovery = s.recovery ∧ (s.headData n side m).incidents =
    s.incidents ∧ (s.headData n side m).keys = s.keys ∧ (s.headData n side m).window = s.window ∧ (s.headData n side
    m).retention = s.retention ∧ (s.headData n side m).clock = s.clock ∧ (s.headData n side m).emergency = s.emergency ∧
    (s.headData n side m).seen.entries = s.seen.entries ∧ (s.headData n side m).notices.conditions = s.notices.conditions ∧
    (s.headData n side m).notices.pending = s.notices.pending ∧ (s.headData n side m).notices.levels = s.notices.levels := by
  refine ⟨?_, ?_, ?_, ?_, ?_, ?_, ?_, ?_, ?_, ?_, ?_, ?_, ?_, ?_, ?_, ?_, ?_, ?_⟩
  all_goals
    first
      | with_reducible rfl
      | (unfold State.headData
         (try dsimp only)
         repeat'
           first
             | with_reducible rfl
             | (simp only [updEngine_frame, endExchange_frame, refuseUnverified_frame]; done)
             | (simp only [updEngine_frame, endExchange_frame, refuseUnverified_frame]; split)
             | split)

@[simp] theorem openTimerExpires_frame (s : State) (n : LaneId) :
    (s.openTimerExpires n).pending = s.pending ∧ (s.openTimerExpires n).free = s.free ∧ (s.openTimerExpires n).powered =
    s.powered ∧ (s.openTimerExpires n).nvwp = s.nvwp ∧ (s.openTimerExpires n).link = s.link ∧ (s.openTimerExpires n).proc =
    s.proc ∧ (s.openTimerExpires n).claims = s.claims ∧ (s.openTimerExpires n).hot = s.hot ∧ (s.openTimerExpires n).recovery =
    s.recovery ∧ (s.openTimerExpires n).fare = s.fare ∧ (s.openTimerExpires n).incidents = s.incidents ∧ (s.openTimerExpires
    n).keys = s.keys ∧ (s.openTimerExpires n).window = s.window ∧ (s.openTimerExpires n).retention = s.retention ∧
    (s.openTimerExpires n).clock = s.clock ∧ (s.openTimerExpires n).emergency = s.emergency ∧ (s.openTimerExpires
    n).seen.entries = s.seen.entries ∧ (s.openTimerExpires n).notices.conditions = s.notices.conditions ∧ (s.openTimerExpires
    n).notices.pending = s.notices.pending ∧ (s.openTimerExpires n).notices.levels = s.notices.levels := by
  refine ⟨?_, ?_, ?_, ?_, ?_, ?_, ?_, ?_, ?_, ?_, ?_, ?_, ?_, ?_, ?_, ?_, ?_, ?_, ?_, ?_⟩
  all_goals
    first
      | with_reducible rfl
      | (unfold State.openTimerExpires
         (try dsimp only)
         repeat'
           first
             | with_reducible rfl
             | (simp only [updGate_frame, settleGate_frame, forfeit_frame]; done)
             | (simp only [updGate_frame, settleGate_frame, forfeit_frame]; split)
             | split)

@[simp] theorem setBeamLine_frame (s : State) (n : LaneId) (side : Side) (b : Bool) :
    (s.setBeamLine n side b).pending = s.pending ∧ (s.setBeamLine n side b).free = s.free ∧ (s.setBeamLine n side b).powered =
    s.powered ∧ (s.setBeamLine n side b).nvwp = s.nvwp ∧ (s.setBeamLine n side b).link = s.link ∧ (s.setBeamLine n side b).proc
    = s.proc ∧ (s.setBeamLine n side b).claims = s.claims ∧ (s.setBeamLine n side b).seen = s.seen ∧ (s.setBeamLine n side
    b).hot = s.hot ∧ (s.setBeamLine n side b).recovery = s.recovery ∧ (s.setBeamLine n side b).fare = s.fare ∧ (s.setBeamLine n
    side b).incidents = s.incidents ∧ (s.setBeamLine n side b).keys = s.keys ∧ (s.setBeamLine n side b).journal = s.journal ∧
    (s.setBeamLine n side b).window = s.window ∧ (s.setBeamLine n side b).retention = s.retention ∧ (s.setBeamLine n side
    b).clock = s.clock ∧ (s.setBeamLine n side b).notices = s.notices ∧ (s.setBeamLine n side b).emergency = s.emergency := by
  refine ⟨?_, ?_, ?_, ?_, ?_, ?_, ?_, ?_, ?_, ?_, ?_, ?_, ?_, ?_, ?_, ?_, ?_, ?_, ?_⟩
  all_goals
    first
      | with_reducible rfl
      | (unfold State.setBeamLine
         (try dsimp only)
         repeat'
           first
             | with_reducible rfl
             | (simp only [updLane_frame]; done)
             | (simp only [updLane_frame]; split)
             | split)

@[simp] theorem beamEvent_frame (s : State) (n : LaneId) (side : Side) (b : Bool) (f : Lane → Lane) :
    (s.beamEvent n side b f).pending = s.pending ∧ (s.beamEvent n side b f).free = s.free ∧ (s.beamEvent n side b f).powered =
    s.powered ∧ (s.beamEvent n side b f).nvwp = s.nvwp ∧ (s.beamEvent n side b f).link = s.link ∧ (s.beamEvent n side b f).proc
    = s.proc ∧ (s.beamEvent n side b f).claims = s.claims ∧ (s.beamEvent n side b f).seen = s.seen ∧ (s.beamEvent n side b
    f).hot = s.hot ∧ (s.beamEvent n side b f).recovery = s.recovery ∧ (s.beamEvent n side b f).fare = s.fare ∧ (s.beamEvent n
    side b f).incidents = s.incidents ∧ (s.beamEvent n side b f).keys = s.keys ∧ (s.beamEvent n side b f).journal = s.journal ∧
    (s.beamEvent n side b f).window = s.window ∧ (s.beamEvent n side b f).retention = s.retention ∧ (s.beamEvent n side b
    f).clock = s.clock ∧ (s.beamEvent n side b f).notices = s.notices ∧ (s.beamEvent n side b f).emergency = s.emergency := by
  refine ⟨?_, ?_, ?_, ?_, ?_, ?_, ?_, ?_, ?_, ?_, ?_, ?_, ?_, ?_, ?_, ?_, ?_, ?_, ?_⟩
  all_goals
    first
      | with_reducible rfl
      | (unfold State.beamEvent
         (try dsimp only)
         repeat'
           first
             | with_reducible rfl
             | (simp only [updLane_frame, settleGate_frame, setBeamLine_frame]; done)
             | (simp only [updLane_frame, settleGate_frame, setBeamLine_frame]; split)
             | split)

@[simp] theorem setReportLines_frame (s : State) (n : LaneId) (a b : Bool) :
    (s.setReportLines n a b).pending = s.pending ∧ (s.setReportLines n a b).free = s.free ∧ (s.setReportLines n a b).powered =
    s.powered ∧ (s.setReportLines n a b).nvwp = s.nvwp ∧ (s.setReportLines n a b).link = s.link ∧ (s.setReportLines n a b).proc
    = s.proc ∧ (s.setReportLines n a b).claims = s.claims ∧ (s.setReportLines n a b).seen = s.seen ∧ (s.setReportLines n a
    b).hot = s.hot ∧ (s.setReportLines n a b).recovery = s.recovery ∧ (s.setReportLines n a b).fare = s.fare ∧ (s.setReportLines
    n a b).incidents = s.incidents ∧ (s.setReportLines n a b).keys = s.keys ∧ (s.setReportLines n a b).journal = s.journal ∧
    (s.setReportLines n a b).window = s.window ∧ (s.setReportLines n a b).retention = s.retention ∧ (s.setReportLines n a
    b).clock = s.clock ∧ (s.setReportLines n a b).notices = s.notices ∧ (s.setReportLines n a b).emergency = s.emergency := by
  refine ⟨?_, ?_, ?_, ?_, ?_, ?_, ?_, ?_, ?_, ?_, ?_, ?_, ?_, ?_, ?_, ?_, ?_, ?_, ?_⟩
  all_goals
    first
      | with_reducible rfl
      | (unfold State.setReportLines
         (try dsimp only)
         repeat'
           first
             | with_reducible rfl
             | (simp only [updLane_frame]; done)
             | (simp only [updLane_frame]; split)
             | split)

@[simp] theorem anomaly_frame (s : State) (n : LaneId) (p : Passage) (c : PassageClass) (k : NoticeKind) :
    (s.anomaly n p c k).pending = s.pending ∧ (s.anomaly n p c k).free = s.free ∧ (s.anomaly n p c k).powered = s.powered ∧
    (s.anomaly n p c k).nvwp = s.nvwp ∧ (s.anomaly n p c k).link = s.link ∧ (s.anomaly n p c k).proc = s.proc ∧ (s.anomaly n p c
    k).lanes = s.lanes ∧ (s.anomaly n p c k).claims = s.claims ∧ (s.anomaly n p c k).seen = s.seen ∧ (s.anomaly n p c k).hot =
    s.hot ∧ (s.anomaly n p c k).recovery = s.recovery ∧ (s.anomaly n p c k).fare = s.fare ∧ (s.anomaly n p c k).incidents =
    s.incidents ∧ (s.anomaly n p c k).keys = s.keys ∧ (s.anomaly n p c k).window = s.window ∧ (s.anomaly n p c k).retention =
    s.retention ∧ (s.anomaly n p c k).clock = s.clock ∧ (s.anomaly n p c k).emergency = s.emergency ∧ (s.anomaly n p c
    k).notices.conditions = s.notices.conditions ∧ (s.anomaly n p c k).notices.pending = s.notices.pending ∧ (s.anomaly n p c
    k).notices.levels = s.notices.levels := by
  refine ⟨?_, ?_, ?_, ?_, ?_, ?_, ?_, ?_, ?_, ?_, ?_, ?_, ?_, ?_, ?_, ?_, ?_, ?_, ?_, ?_, ?_⟩
  all_goals
    first
      | with_reducible rfl
      | (unfold State.anomaly
         (try dsimp only)
         repeat'
           first
             | with_reducible rfl
             | (simp only [record_frame, raise_pending, raise_free, raise_powered, raise_nvwp, raise_link,
                              raise_proc, raise_lanes, raise_claims, raise_seen, raise_hot,
                              raise_recovery, raise_fare, raise_incidents, raise_keys, raise_window,
                              raise_retention, raise_clock, raise_emergency, raise_notices]; done)
             | (simp only [record_frame, raise_pending, raise_free, raise_powered, raise_nvwp, raise_link,
                              raise_proc, raise_lanes, raise_claims, raise_seen, raise_hot,
                              raise_recovery, raise_fare, raise_incidents, raise_keys, raise_window,
                              raise_retention, raise_clock, raise_emergency, raise_notices]; split)
             | split)

@[simp] theorem consume_frame (s : State) (n : LaneId) :
    (s.consume n).pending = s.pending ∧ (s.consume n).free = s.free ∧ (s.consume n).powered = s.powered ∧ (s.consume n).nvwp =
    s.nvwp ∧ (s.consume n).link = s.link ∧ (s.consume n).proc = s.proc ∧ (s.consume n).claims = s.claims ∧ (s.consume n).hot =
    s.hot ∧ (s.consume n).recovery = s.recovery ∧ (s.consume n).fare = s.fare ∧ (s.consume n).incidents = s.incidents ∧
    (s.consume n).keys = s.keys ∧ (s.consume n).journal = s.journal ∧ (s.consume n).window = s.window ∧ (s.consume n).retention
    = s.retention ∧ (s.consume n).clock = s.clock ∧ (s.consume n).notices = s.notices ∧ (s.consume n).emergency = s.emergency ∧
    (s.consume n).seen.entries = s.seen.entries := by
  refine ⟨?_, ?_, ?_, ?_, ?_, ?_, ?_, ?_, ?_, ?_, ?_, ?_, ?_, ?_, ?_, ?_, ?_, ?_, ?_⟩
  all_goals
    first
      | with_reducible rfl
      | (unfold State.consume
         (try dsimp only)
         repeat'
           first
             | with_reducible rfl
             | (simp only [updGate_frame, sendGrantUpdate_frame]; done)
             | (simp only [updGate_frame, sendGrantUpdate_frame]; split)
             | split)

@[simp] theorem paidPassage_frame (s : State) (n : LaneId) (p : Passage) :
    (s.paidPassage n p).pending = s.pending ∧ (s.paidPassage n p).free = s.free ∧ (s.paidPassage n p).powered = s.powered ∧
    (s.paidPassage n p).nvwp = s.nvwp ∧ (s.paidPassage n p).link = s.link ∧ (s.paidPassage n p).proc = s.proc ∧ (s.paidPassage n
    p).claims = s.claims ∧ (s.paidPassage n p).hot = s.hot ∧ (s.paidPassage n p).recovery = s.recovery ∧ (s.paidPassage n
    p).fare = s.fare ∧ (s.paidPassage n p).incidents = s.incidents ∧ (s.paidPassage n p).keys = s.keys ∧ (s.paidPassage n
    p).window = s.window ∧ (s.paidPassage n p).retention = s.retention ∧ (s.paidPassage n p).clock = s.clock ∧ (s.paidPassage n
    p).emergency = s.emergency ∧ (s.paidPassage n p).seen.entries = s.seen.entries ∧ (s.paidPassage n p).notices.conditions =
    s.notices.conditions ∧ (s.paidPassage n p).notices.pending = s.notices.pending ∧ (s.paidPassage n p).notices.levels =
    s.notices.levels := by
  refine ⟨?_, ?_, ?_, ?_, ?_, ?_, ?_, ?_, ?_, ?_, ?_, ?_, ?_, ?_, ?_, ?_, ?_, ?_, ?_, ?_⟩
  all_goals
    first
      | with_reducible rfl
      | (unfold State.paidPassage
         (try dsimp only)
         repeat'
           first
             | with_reducible rfl
             | (simp only [updCounters_frame, anomaly_frame, consume_frame]; done)
             | (simp only [updCounters_frame, anomaly_frame, consume_frame]; split)
             | split)

@[simp] theorem classifyPassage_frame (s : State) (n : LaneId) (p : Passage) :
    (s.classifyPassage n p).pending = s.pending ∧ (s.classifyPassage n p).free = s.free ∧ (s.classifyPassage n p).powered =
    s.powered ∧ (s.classifyPassage n p).nvwp = s.nvwp ∧ (s.classifyPassage n p).link = s.link ∧ (s.classifyPassage n p).proc =
    s.proc ∧ (s.classifyPassage n p).claims = s.claims ∧ (s.classifyPassage n p).hot = s.hot ∧ (s.classifyPassage n p).recovery
    = s.recovery ∧ (s.classifyPassage n p).fare = s.fare ∧ (s.classifyPassage n p).incidents = s.incidents ∧ (s.classifyPassage
    n p).keys = s.keys ∧ (s.classifyPassage n p).window = s.window ∧ (s.classifyPassage n p).retention = s.retention ∧
    (s.classifyPassage n p).clock = s.clock ∧ (s.classifyPassage n p).emergency = s.emergency ∧ (s.classifyPassage n
    p).seen.entries = s.seen.entries ∧ (s.classifyPassage n p).notices.conditions = s.notices.conditions ∧ (s.classifyPassage n
    p).notices.pending = s.notices.pending ∧ (s.classifyPassage n p).notices.levels = s.notices.levels := by
  refine ⟨?_, ?_, ?_, ?_, ?_, ?_, ?_, ?_, ?_, ?_, ?_, ?_, ?_, ?_, ?_, ?_, ?_, ?_, ?_, ?_⟩
  all_goals
    first
      | with_reducible rfl
      | (unfold State.classifyPassage
         (try dsimp only)
         repeat'
           first
             | with_reducible rfl
             | (simp only [updCounters_frame, anomaly_frame, consume_frame, paidPassage_frame]; done)
             | (simp only [updCounters_frame, anomaly_frame, consume_frame, paidPassage_frame]; split)
             | split)

@[simp] theorem takePassage_frame (s : State) (n : LaneId) :
    (s.takePassage n).pending = s.pending ∧ (s.takePassage n).free = s.free ∧ (s.takePassage n).powered = s.powered ∧
    (s.takePassage n).nvwp = s.nvwp ∧ (s.takePassage n).link = s.link ∧ (s.takePassage n).proc = s.proc ∧ (s.takePassage
    n).claims = s.claims ∧ (s.takePassage n).hot = s.hot ∧ (s.takePassage n).recovery = s.recovery ∧ (s.takePassage n).fare =
    s.fare ∧ (s.takePassage n).incidents = s.incidents ∧ (s.takePassage n).keys = s.keys ∧ (s.takePassage n).window = s.window ∧
    (s.takePassage n).retention = s.retention ∧ (s.takePassage n).clock = s.clock ∧ (s.takePassage n).emergency = s.emergency ∧
    (s.takePassage n).seen.entries = s.seen.entries ∧ (s.takePassage n).notices.conditions = s.notices.conditions ∧
    (s.takePassage n).notices.pending = s.notices.pending ∧ (s.takePassage n).notices.levels = s.notices.levels := by
  refine ⟨?_, ?_, ?_, ?_, ?_, ?_, ?_, ?_, ?_, ?_, ?_, ?_, ?_, ?_, ?_, ?_, ?_, ?_, ?_, ?_⟩
  all_goals
    first
      | with_reducible rfl
      | (unfold State.takePassage
         (try dsimp only)
         repeat'
           first
             | with_reducible rfl
             | (simp only [updGate_frame, settleGate_frame, classifyPassage_frame]; done)
             | (simp only [updGate_frame, settleGate_frame, classifyPassage_frame]; split)
             | split)

@[simp] theorem gateAsserts_frame (s : State) (n : LaneId) :
    (s.gateAsserts n).pending = s.pending ∧ (s.gateAsserts n).free = s.free ∧ (s.gateAsserts n).powered = s.powered ∧
    (s.gateAsserts n).nvwp = s.nvwp ∧ (s.gateAsserts n).link = s.link ∧ (s.gateAsserts n).proc = s.proc ∧ (s.gateAsserts
    n).claims = s.claims ∧ (s.gateAsserts n).hot = s.hot ∧ (s.gateAsserts n).recovery = s.recovery ∧ (s.gateAsserts n).fare =
    s.fare ∧ (s.gateAsserts n).incidents = s.incidents ∧ (s.gateAsserts n).keys = s.keys ∧ (s.gateAsserts n).window = s.window ∧
    (s.gateAsserts n).retention = s.retention ∧ (s.gateAsserts n).clock = s.clock ∧ (s.gateAsserts n).emergency = s.emergency ∧
    (s.gateAsserts n).seen.entries = s.seen.entries ∧ (s.gateAsserts n).notices.conditions = s.notices.conditions ∧
    (s.gateAsserts n).notices.pending = s.notices.pending ∧ (s.gateAsserts n).notices.levels = s.notices.levels := by
  refine ⟨?_, ?_, ?_, ?_, ?_, ?_, ?_, ?_, ?_, ?_, ?_, ?_, ?_, ?_, ?_, ?_, ?_, ?_, ?_, ?_⟩
  all_goals
    first
      | with_reducible rfl
      | (unfold State.gateAsserts
         (try dsimp only)
         repeat'
           first
             | with_reducible rfl
             | (simp only [updGate_frame, updCounters_frame, settleGate_frame, forfeit_frame]; done)
             | (simp only [updGate_frame, updCounters_frame, settleGate_frame, forfeit_frame]; split)
             | split)

@[simp] theorem gateReleases_frame (s : State) (n : LaneId) :
    (s.gateReleases n).pending = s.pending ∧ (s.gateReleases n).free = s.free ∧ (s.gateReleases n).powered = s.powered ∧
    (s.gateReleases n).nvwp = s.nvwp ∧ (s.gateReleases n).link = s.link ∧ (s.gateReleases n).proc = s.proc ∧ (s.gateReleases
    n).claims = s.claims ∧ (s.gateReleases n).seen = s.seen ∧ (s.gateReleases n).hot = s.hot ∧ (s.gateReleases n).recovery =
    s.recovery ∧ (s.gateReleases n).fare = s.fare ∧ (s.gateReleases n).incidents = s.incidents ∧ (s.gateReleases n).keys =
    s.keys ∧ (s.gateReleases n).window = s.window ∧ (s.gateReleases n).retention = s.retention ∧ (s.gateReleases n).clock =
    s.clock ∧ (s.gateReleases n).emergency = s.emergency ∧ (s.gateReleases n).notices.conditions = s.notices.conditions ∧
    (s.gateReleases n).notices.pending = s.notices.pending ∧ (s.gateReleases n).notices.levels = s.notices.levels := by
  refine ⟨?_, ?_, ?_, ?_, ?_, ?_, ?_, ?_, ?_, ?_, ?_, ?_, ?_, ?_, ?_, ?_, ?_, ?_, ?_, ?_⟩
  all_goals
    first
      | with_reducible rfl
      | (unfold State.gateReleases
         (try dsimp only)
         repeat'
           first
             | with_reducible rfl
             | (simp only [updGate_frame, record_frame, settleGate_frame]; done)
             | (simp only [updGate_frame, record_frame, settleGate_frame]; split)
             | split)

@[simp] theorem transmit_frame (s : State) :
    (s.transmit).pending = s.pending ∧ (s.transmit).free = s.free ∧ (s.transmit).powered = s.powered ∧ (s.transmit).nvwp =
    s.nvwp ∧ (s.transmit).lanes = s.lanes ∧ (s.transmit).claims = s.claims ∧ (s.transmit).seen = s.seen ∧ (s.transmit).hot =
    s.hot ∧ (s.transmit).recovery = s.recovery ∧ (s.transmit).fare = s.fare ∧ (s.transmit).incidents = s.incidents ∧
    (s.transmit).keys = s.keys ∧ (s.transmit).journal = s.journal ∧ (s.transmit).window = s.window ∧ (s.transmit).retention =
    s.retention ∧ (s.transmit).clock = s.clock ∧ (s.transmit).emergency = s.emergency ∧ (s.transmit).link.requests =
    s.link.requests ∧ (s.transmit).link.framer = s.link.framer ∧ (s.transmit).notices.conditions = s.notices.conditions ∧
    (s.transmit).notices.levels = s.notices.levels ∧ (s.transmit).notices.inbox = s.notices.inbox := by
  refine ⟨?_, ?_, ?_, ?_, ?_, ?_, ?_, ?_, ?_, ?_, ?_, ?_, ?_, ?_, ?_, ?_, ?_, ?_, ?_, ?_, ?_, ?_⟩
  all_goals
    first
      | with_reducible rfl
      | (unfold State.transmit
         (try dsimp only)
         repeat'
           first
             | with_reducible rfl
             | (simp only [updLink_pending, updLink_free, updLink_powered, updLink_nvwp, updLink_lanes,
                              updLink_claims, updLink_seen, updLink_hot, updLink_recovery,
                              updLink_fare, updLink_incidents, updLink_keys, updLink_journal,
                              updLink_window, updLink_retention, updLink_clock, updLink_emergency,
                              updLink_link, updLink_notices]; done)
             | (simp only [updLink_pending, updLink_free, updLink_powered, updLink_nvwp, updLink_lanes,
                              updLink_claims, updLink_seen, updLink_hot, updLink_recovery,
                              updLink_fare, updLink_incidents, updLink_keys, updLink_journal,
                              updLink_window, updLink_retention, updLink_clock, updLink_emergency,
                              updLink_link, updLink_notices]; split)
             | split)

@[simp] theorem takeEvent_frame (s : State) :
    (s.takeEvent).pending = s.pending ∧ (s.takeEvent).free = s.free ∧ (s.takeEvent).powered = s.powered ∧ (s.takeEvent).nvwp =
    s.nvwp ∧ (s.takeEvent).link = s.link ∧ (s.takeEvent).proc = s.proc ∧ (s.takeEvent).lanes = s.lanes ∧ (s.takeEvent).claims =
    s.claims ∧ (s.takeEvent).seen = s.seen ∧ (s.takeEvent).hot = s.hot ∧ (s.takeEvent).recovery = s.recovery ∧
    (s.takeEvent).fare = s.fare ∧ (s.takeEvent).incidents = s.incidents ∧ (s.takeEvent).keys = s.keys ∧ (s.takeEvent).journal =
    s.journal ∧ (s.takeEvent).window = s.window ∧ (s.takeEvent).retention = s.retention ∧ (s.takeEvent).clock = s.clock ∧
    (s.takeEvent).emergency = s.emergency := by
  refine ⟨?_, ?_, ?_, ?_, ?_, ?_, ?_, ?_, ?_, ?_, ?_, ?_, ?_, ?_, ?_, ?_, ?_, ?_, ?_⟩
  all_goals
    first
      | with_reducible rfl
      | (unfold State.takeEvent
         repeat'
           first
             | with_reducible rfl
             | split)
      | (simp [State.takeEvent]; done)

@[simp] theorem setExpiry_frame (s : State) (v : Nat) (i : SlotId) :
    (s.setExpiry v i).pending = s.pending ∧ (s.setExpiry v i).powered = s.powered ∧ (s.setExpiry v i).nvwp = s.nvwp ∧
    (s.setExpiry v i).link = s.link ∧ (s.setExpiry v i).proc = s.proc ∧ (s.setExpiry v i).lanes = s.lanes ∧ (s.setExpiry v
    i).claims = s.claims ∧ (s.setExpiry v i).seen = s.seen ∧ (s.setExpiry v i).hot = s.hot ∧ (s.setExpiry v i).fare = s.fare ∧
    (s.setExpiry v i).incidents = s.incidents ∧ (s.setExpiry v i).keys = s.keys ∧ (s.setExpiry v i).journal = s.journal ∧
    (s.setExpiry v i).window = s.window ∧ (s.setExpiry v i).retention = s.retention ∧ (s.setExpiry v i).clock = s.clock ∧
    (s.setExpiry v i).notices = s.notices ∧ (s.setExpiry v i).emergency = s.emergency := by
  refine ⟨?_, ?_, ?_, ?_, ?_, ?_, ?_, ?_, ?_, ?_, ?_, ?_, ?_, ?_, ?_, ?_, ?_, ?_⟩
  all_goals
    first
      | with_reducible rfl
      | (unfold State.setExpiry
         (try dsimp only)
         repeat'
           first
             | with_reducible rfl
             | (simp only [expiryFrom_frame, setSlot_pending, setSlot_powered, setSlot_nvwp, setSlot_link,
                              setSlot_proc, setSlot_lanes, setSlot_claims, setSlot_seen,
                              setSlot_hot, setSlot_fare, setSlot_incidents, setSlot_keys,
                              setSlot_journal, setSlot_window, setSlot_retention, setSlot_clock,
                              setSlot_notices, setSlot_emergency]; done)
             | (simp only [expiryFrom_frame, setSlot_pending, setSlot_powered, setSlot_nvwp, setSlot_link,
                              setSlot_proc, setSlot_lanes, setSlot_claims, setSlot_seen,
                              setSlot_hot, setSlot_fare, setSlot_incidents, setSlot_keys,
                              setSlot_journal, setSlot_window, setSlot_retention, setSlot_clock,
                              setSlot_notices, setSlot_emergency]; split)
             | split)

@[simp] theorem setExpiries_frame (s : State) (v : Nat) :
    (s.setExpiries v).pending = s.pending ∧ (s.setExpiries v).powered = s.powered ∧ (s.setExpiries v).nvwp = s.nvwp ∧
    (s.setExpiries v).link = s.link ∧ (s.setExpiries v).proc = s.proc ∧ (s.setExpiries v).lanes = s.lanes ∧ (s.setExpiries
    v).claims = s.claims ∧ (s.setExpiries v).seen = s.seen ∧ (s.setExpiries v).hot = s.hot ∧ (s.setExpiries v).fare = s.fare ∧
    (s.setExpiries v).incidents = s.incidents ∧ (s.setExpiries v).keys = s.keys ∧ (s.setExpiries v).journal = s.journal ∧
    (s.setExpiries v).window = s.window ∧ (s.setExpiries v).retention = s.retention ∧ (s.setExpiries v).clock = s.clock ∧
    (s.setExpiries v).notices = s.notices ∧ (s.setExpiries v).emergency = s.emergency := by
  refine ⟨?_, ?_, ?_, ?_, ?_, ?_, ?_, ?_, ?_, ?_, ?_, ?_, ?_, ?_, ?_, ?_, ?_, ?_⟩
  · exact foldl_keeps (fun t : State => t.pending) _ (by intros; simp only [setExpiry_frame]) _ _
  · exact foldl_keeps (fun t : State => t.powered) _ (by intros; simp only [setExpiry_frame]) _ _
  · exact foldl_keeps (fun t : State => t.nvwp) _ (by intros; simp only [setExpiry_frame]) _ _
  · exact foldl_keeps (fun t : State => t.link) _ (by intros; simp only [setExpiry_frame]) _ _
  · exact foldl_keeps (fun t : State => t.proc) _ (by intros; simp only [setExpiry_frame]) _ _
  · exact foldl_keeps (fun t : State => t.lanes) _ (by intros; simp only [setExpiry_frame]) _ _
  · exact foldl_keeps (fun t : State => t.claims) _ (by intros; simp only [setExpiry_frame]) _ _
  · exact foldl_keeps (fun t : State => t.seen) _ (by intros; simp only [setExpiry_frame]) _ _
  · exact foldl_keeps (fun t : State => t.hot) _ (by intros; simp only [setExpiry_frame]) _ _
  · exact foldl_keeps (fun t : State => t.fare) _ (by intros; simp only [setExpiry_frame]) _ _
  · exact foldl_keeps (fun t : State => t.incidents) _ (by intros; simp only [setExpiry_frame]) _ _
  · exact foldl_keeps (fun t : State => t.keys) _ (by intros; simp only [setExpiry_frame]) _ _
  · exact foldl_keeps (fun t : State => t.journal) _ (by intros; simp only [setExpiry_frame]) _ _
  · exact foldl_keeps (fun t : State => t.window) _ (by intros; simp only [setExpiry_frame]) _ _
  · exact foldl_keeps (fun t : State => t.retention) _ (by intros; simp only [setExpiry_frame]) _ _
  · exact foldl_keeps (fun t : State => t.clock) _ (by intros; simp only [setExpiry_frame]) _ _
  · exact foldl_keeps (fun t : State => t.notices) _ (by intros; simp only [setExpiry_frame]) _ _
  · exact foldl_keeps (fun t : State => t.emergency) _ (by intros; simp only [setExpiry_frame]) _ _

@[simp] theorem openLocalIncident_frame (s : State) (t : Nat) :
    (s.openLocalIncident t).pending = s.pending ∧ (s.openLocalIncident t).free = s.free ∧ (s.openLocalIncident t).powered =
    s.powered ∧ (s.openLocalIncident t).nvwp = s.nvwp ∧ (s.openLocalIncident t).link = s.link ∧ (s.openLocalIncident t).proc =
    s.proc ∧ (s.openLocalIncident t).lanes = s.lanes ∧ (s.openLocalIncident t).claims = s.claims ∧ (s.openLocalIncident t).seen
    = s.seen ∧ (s.openLocalIncident t).hot = s.hot ∧ (s.openLocalIncident t).recovery = s.recovery ∧ (s.openLocalIncident
    t).fare = s.fare ∧ (s.openLocalIncident t).keys = s.keys ∧ (s.openLocalIncident t).journal = s.journal ∧
    (s.openLocalIncident t).window = s.window ∧ (s.openLocalIncident t).retention = s.retention ∧ (s.openLocalIncident t).clock
    = s.clock ∧ (s.openLocalIncident t).notices = s.notices ∧ (s.openLocalIncident t).emergency = s.emergency := by
  refine ⟨?_, ?_, ?_, ?_, ?_, ?_, ?_, ?_, ?_, ?_, ?_, ?_, ?_, ?_, ?_, ?_, ?_, ?_, ?_⟩
  all_goals
    first
      | with_reducible rfl
      | (unfold State.openLocalIncident
         repeat'
           first
             | with_reducible rfl
             | split)
      | (simp [State.openLocalIncident]; done)

@[simp] theorem settleIncident_frame (s : State) (v : Nat) :
    (s.settleIncident v).pending = s.pending ∧ (s.settleIncident v).free = s.free ∧ (s.settleIncident v).powered = s.powered ∧
    (s.settleIncident v).nvwp = s.nvwp ∧ (s.settleIncident v).link = s.link ∧ (s.settleIncident v).proc = s.proc ∧
    (s.settleIncident v).lanes = s.lanes ∧ (s.settleIncident v).claims = s.claims ∧ (s.settleIncident v).seen = s.seen ∧
    (s.settleIncident v).hot = s.hot ∧ (s.settleIncident v).recovery = s.recovery ∧ (s.settleIncident v).fare = s.fare ∧
    (s.settleIncident v).keys = s.keys ∧ (s.settleIncident v).journal = s.journal ∧ (s.settleIncident v).window = s.window ∧
    (s.settleIncident v).retention = s.retention ∧ (s.settleIncident v).clock = s.clock ∧ (s.settleIncident v).notices =
    s.notices := by
  refine ⟨?_, ?_, ?_, ?_, ?_, ?_, ?_, ?_, ?_, ?_, ?_, ?_, ?_, ?_, ?_, ?_, ?_, ?_⟩
  all_goals
    first
      | with_reducible rfl
      | (unfold State.settleIncident
         (try dsimp only)
         repeat'
           first
             | with_reducible rfl
             | (simp only [openLocalIncident_frame]; done)
             | (simp only [openLocalIncident_frame]; split)
             | split)

@[simp] theorem handTime_frame (s : State) :
    (s.handTime).pending = s.pending ∧ (s.handTime).free = s.free ∧ (s.handTime).powered = s.powered ∧ (s.handTime).nvwp =
    s.nvwp ∧ (s.handTime).link = s.link ∧ (s.handTime).proc = s.proc ∧ (s.handTime).lanes = s.lanes ∧ (s.handTime).claims =
    s.claims ∧ (s.handTime).hot = s.hot ∧ (s.handTime).recovery = s.recovery ∧ (s.handTime).fare = s.fare ∧
    (s.handTime).incidents = s.incidents ∧ (s.handTime).keys = s.keys ∧ (s.handTime).journal = s.journal ∧ (s.handTime).window =
    s.window ∧ (s.handTime).retention = s.retention ∧ (s.handTime).clock = s.clock ∧ (s.handTime).notices = s.notices ∧
    (s.handTime).emergency = s.emergency ∧ (s.handTime).seen.entries = s.seen.entries ∧ (s.handTime).seen.inbox = s.seen.inbox
    := by
  refine ⟨?_, ?_, ?_, ?_, ?_, ?_, ?_, ?_, ?_, ?_, ?_, ?_, ?_, ?_, ?_, ?_, ?_, ?_, ?_, ?_, ?_⟩
  all_goals
    first
      | with_reducible rfl
      | (unfold State.handTime
         repeat'
           first
             | with_reducible rfl
             | split)
      | (simp [State.handTime]; done)

@[simp] theorem firstTime_frame (s : State) (v : Nat) :
    (s.firstTime v).pending = s.pending ∧ (s.firstTime v).powered = s.powered ∧ (s.firstTime v).nvwp = s.nvwp ∧ (s.firstTime
    v).link = s.link ∧ (s.firstTime v).proc = s.proc ∧ (s.firstTime v).claims = s.claims ∧ (s.firstTime v).hot = s.hot ∧
    (s.firstTime v).fare = s.fare ∧ (s.firstTime v).keys = s.keys ∧ (s.firstTime v).window = s.window ∧ (s.firstTime
    v).retention = s.retention ∧ (s.firstTime v).seen.entries = s.seen.entries ∧ (s.firstTime v).notices.conditions =
    s.notices.conditions ∧ (s.firstTime v).notices.pending = s.notices.pending ∧ (s.firstTime v).notices.levels =
    s.notices.levels := by
  refine ⟨?_, ?_, ?_, ?_, ?_, ?_, ?_, ?_, ?_, ?_, ?_, ?_, ?_, ?_, ?_⟩
  all_goals
    first
      | with_reducible rfl
      | (unfold State.firstTime
         (try dsimp only)
         repeat'
           first
             | with_reducible rfl
             | (simp only [record_frame, settleReadiness_frame, setExpiries_frame, settleIncident_frame,
                              handTime_frame]; done)
             | (simp only [record_frame, settleReadiness_frame, setExpiries_frame, settleIncident_frame,
                              handTime_frame]; split)
             | split)

@[simp] theorem stepTime_frame (s : State) (v : Nat) :
    (s.stepTime v).pending = s.pending ∧ (s.stepTime v).free = s.free ∧ (s.stepTime v).powered = s.powered ∧ (s.stepTime v).nvwp
    = s.nvwp ∧ (s.stepTime v).link = s.link ∧ (s.stepTime v).proc = s.proc ∧ (s.stepTime v).lanes = s.lanes ∧ (s.stepTime
    v).claims = s.claims ∧ (s.stepTime v).hot = s.hot ∧ (s.stepTime v).recovery = s.recovery ∧ (s.stepTime v).fare = s.fare ∧
    (s.stepTime v).incidents = s.incidents ∧ (s.stepTime v).keys = s.keys ∧ (s.stepTime v).window = s.window ∧ (s.stepTime
    v).retention = s.retention ∧ (s.stepTime v).emergency = s.emergency ∧ (s.stepTime v).seen.entries = s.seen.entries ∧
    (s.stepTime v).seen.inbox = s.seen.inbox ∧ (s.stepTime v).notices.conditions = s.notices.conditions ∧ (s.stepTime
    v).notices.pending = s.notices.pending ∧ (s.stepTime v).notices.levels = s.notices.levels := by
  refine ⟨?_, ?_, ?_, ?_, ?_, ?_, ?_, ?_, ?_, ?_, ?_, ?_, ?_, ?_, ?_, ?_, ?_, ?_, ?_, ?_, ?_⟩
  all_goals
    first
      | with_reducible rfl
      | (unfold State.stepTime
         (try dsimp only)
         repeat'
           first
             | with_reducible rfl
             | (simp only [record_frame, handTime_frame]; done)
             | (simp only [record_frame, handTime_frame]; split)
             | split)

@[simp] theorem setParameter_frame (s : State) (k v : Nat) :
    (s.setParameter k v).pending = s.pending ∧ (s.setParameter k v).free = s.free ∧ (s.setParameter k v).powered = s.powered ∧
    (s.setParameter k v).nvwp = s.nvwp ∧ (s.setParameter k v).link = s.link ∧ (s.setParameter k v).proc = s.proc ∧
    (s.setParameter k v).lanes = s.lanes ∧ (s.setParameter k v).claims = s.claims ∧ (s.setParameter k v).seen = s.seen ∧
    (s.setParameter k v).hot = s.hot ∧ (s.setParameter k v).recovery = s.recovery ∧ (s.setParameter k v).fare = s.fare ∧
    (s.setParameter k v).incidents = s.incidents ∧ (s.setParameter k v).keys = s.keys ∧ (s.setParameter k v).clock = s.clock ∧
    (s.setParameter k v).notices = s.notices ∧ (s.setParameter k v).emergency = s.emergency := by
  refine ⟨?_, ?_, ?_, ?_, ?_, ?_, ?_, ?_, ?_, ?_, ?_, ?_, ?_, ?_, ?_, ?_, ?_⟩
  all_goals
    first
      | with_reducible rfl
      | (unfold State.setParameter
         repeat'
           first
             | with_reducible rfl
             | split)
      | (simp [State.setParameter]; done)

@[simp] theorem setKey_frame (s : State) (k : Nat) (x : Option Key) :
    (s.setKey k x).pending = s.pending ∧ (s.setKey k x).free = s.free ∧ (s.setKey k x).powered = s.powered ∧ (s.setKey k x).nvwp
    = s.nvwp ∧ (s.setKey k x).link = s.link ∧ (s.setKey k x).proc = s.proc ∧ (s.setKey k x).lanes = s.lanes ∧ (s.setKey k
    x).claims = s.claims ∧ (s.setKey k x).seen = s.seen ∧ (s.setKey k x).hot = s.hot ∧ (s.setKey k x).recovery = s.recovery ∧
    (s.setKey k x).fare = s.fare ∧ (s.setKey k x).incidents = s.incidents ∧ (s.setKey k x).journal = s.journal ∧ (s.setKey k
    x).window = s.window ∧ (s.setKey k x).retention = s.retention ∧ (s.setKey k x).clock = s.clock ∧ (s.setKey k x).notices =
    s.notices ∧ (s.setKey k x).emergency = s.emergency := by
  refine ⟨?_, ?_, ?_, ?_, ?_, ?_, ?_, ?_, ?_, ?_, ?_, ?_, ?_, ?_, ?_, ?_, ?_, ?_, ?_⟩
  all_goals
    first
      | with_reducible rfl
      | (unfold State.setKey
         repeat'
           first
             | with_reducible rfl
             | split)
      | (simp [State.setKey]; done)

@[simp] theorem abandonOwner_frame (s : State) :
    (s.abandonOwner).pending = s.pending ∧ (s.abandonOwner).free = s.free ∧ (s.abandonOwner).powered = s.powered ∧
    (s.abandonOwner).nvwp = s.nvwp ∧ (s.abandonOwner).link = s.link ∧ (s.abandonOwner).proc = s.proc ∧ (s.abandonOwner).lanes =
    s.lanes ∧ (s.abandonOwner).claims = s.claims ∧ (s.abandonOwner).seen = s.seen ∧ (s.abandonOwner).recovery = s.recovery ∧
    (s.abandonOwner).incidents = s.incidents ∧ (s.abandonOwner).keys = s.keys ∧ (s.abandonOwner).journal = s.journal ∧
    (s.abandonOwner).window = s.window ∧ (s.abandonOwner).retention = s.retention ∧ (s.abandonOwner).clock = s.clock ∧
    (s.abandonOwner).notices = s.notices ∧ (s.abandonOwner).emergency = s.emergency := by
  refine ⟨?_, ?_, ?_, ?_, ?_, ?_, ?_, ?_, ?_, ?_, ?_, ?_, ?_, ?_, ?_, ?_, ?_, ?_⟩
  all_goals
    first
      | with_reducible rfl
      | (unfold State.abandonOwner
         (try dsimp only)
         repeat'
           first
             | with_reducible rfl
             | (simp only [abandon_frame]; done)
             | (simp only [abandon_frame]; split)
             | split)

@[simp] theorem abandonLong_frame (s : State) :
    (s.abandonLong.1).pending = s.pending ∧ (s.abandonLong.1).free = s.free ∧ (s.abandonLong.1).powered = s.powered ∧
    (s.abandonLong.1).nvwp = s.nvwp ∧ (s.abandonLong.1).link = s.link ∧ (s.abandonLong.1).lanes = s.lanes ∧
    (s.abandonLong.1).claims = s.claims ∧ (s.abandonLong.1).seen = s.seen ∧ (s.abandonLong.1).recovery = s.recovery ∧
    (s.abandonLong.1).incidents = s.incidents ∧ (s.abandonLong.1).keys = s.keys ∧ (s.abandonLong.1).journal = s.journal ∧
    (s.abandonLong.1).window = s.window ∧ (s.abandonLong.1).retention = s.retention ∧ (s.abandonLong.1).clock = s.clock ∧
    (s.abandonLong.1).notices = s.notices ∧ (s.abandonLong.1).emergency = s.emergency := by
  refine ⟨?_, ?_, ?_, ?_, ?_, ?_, ?_, ?_, ?_, ?_, ?_, ?_, ?_, ?_, ?_, ?_, ?_⟩
  all_goals
    first
      | with_reducible rfl
      | (unfold State.abandonLong
         (try dsimp only)
         repeat'
           first
             | with_reducible rfl
             | (simp only [abandonOwner_frame]; done)
             | (simp only [abandonOwner_frame]; split)
             | split)

@[simp] theorem resetLink_frame (s : State) :
    (s.resetLink).pending = s.pending ∧ (s.resetLink).free = s.free ∧ (s.resetLink).powered = s.powered ∧ (s.resetLink).nvwp =
    s.nvwp ∧ (s.resetLink).link = s.link ∧ (s.resetLink).lanes = s.lanes ∧ (s.resetLink).claims = s.claims ∧ (s.resetLink).seen
    = s.seen ∧ (s.resetLink).recovery = s.recovery ∧ (s.resetLink).incidents = s.incidents ∧ (s.resetLink).keys = s.keys ∧
    (s.resetLink).journal = s.journal ∧ (s.resetLink).window = s.window ∧ (s.resetLink).retention = s.retention ∧
    (s.resetLink).clock = s.clock ∧ (s.resetLink).emergency = s.emergency ∧ (s.resetLink).notices.levels = s.notices.levels ∧
    (s.resetLink).notices.inbox = s.notices.inbox := by
  refine ⟨?_, ?_, ?_, ?_, ?_, ?_, ?_, ?_, ?_, ?_, ?_, ?_, ?_, ?_, ?_, ?_, ?_, ?_⟩
  all_goals
    first
      | with_reducible rfl
      | (unfold State.resetLink
         (try dsimp only)
         repeat'
           first
             | with_reducible rfl
             | (simp only [abandonLong_frame]; done)
             | (simp only [abandonLong_frame]; split)
             | split)

@[simp] theorem abandonLoading_frame (s : State) :
    (s.abandonLoading).pending = s.pending ∧ (s.abandonLoading).free = s.free ∧ (s.abandonLoading).powered = s.powered ∧
    (s.abandonLoading).nvwp = s.nvwp ∧ (s.abandonLoading).link = s.link ∧ (s.abandonLoading).proc = s.proc ∧
    (s.abandonLoading).lanes = s.lanes ∧ (s.abandonLoading).claims = s.claims ∧ (s.abandonLoading).seen = s.seen ∧
    (s.abandonLoading).recovery = s.recovery ∧ (s.abandonLoading).fare = s.fare ∧ (s.abandonLoading).incidents = s.incidents ∧
    (s.abandonLoading).keys = s.keys ∧ (s.abandonLoading).journal = s.journal ∧ (s.abandonLoading).window = s.window ∧
    (s.abandonLoading).retention = s.retention ∧ (s.abandonLoading).clock = s.clock ∧ (s.abandonLoading).notices = s.notices ∧
    (s.abandonLoading).emergency = s.emergency := by
  refine ⟨?_, ?_, ?_, ?_, ?_, ?_, ?_, ?_, ?_, ?_, ?_, ?_, ?_, ?_, ?_, ?_, ?_, ?_, ?_⟩
  all_goals
    first
      | with_reducible rfl
      | (unfold State.abandonLoading
         (try dsimp only)
         repeat'
           first
             | with_reducible rfl
             | (simp only [abandon_frame]; done)
             | (simp only [abandon_frame]; split)
             | split)

@[simp] theorem endHotVerification_frame (s : State) (good : Bool) :
    (s.endHotVerification good).pending = s.pending ∧ (s.endHotVerification good).free = s.free ∧ (s.endHotVerification
    good).powered = s.powered ∧ (s.endHotVerification good).nvwp = s.nvwp ∧ (s.endHotVerification good).lanes = s.lanes ∧
    (s.endHotVerification good).claims = s.claims ∧ (s.endHotVerification good).seen = s.seen ∧ (s.endHotVerification
    good).recovery = s.recovery ∧ (s.endHotVerification good).fare = s.fare ∧ (s.endHotVerification good).incidents =
    s.incidents ∧ (s.endHotVerification good).keys = s.keys ∧ (s.endHotVerification good).window = s.window ∧
    (s.endHotVerification good).retention = s.retention ∧ (s.endHotVerification good).clock = s.clock ∧ (s.endHotVerification
    good).emergency = s.emergency ∧ (s.endHotVerification good).link.requests = s.link.requests ∧ (s.endHotVerification
    good).link.replies = s.link.replies ∧ (s.endHotVerification good).link.framer = s.link.framer ∧ (s.endHotVerification
    good).notices.conditions = s.notices.conditions ∧ (s.endHotVerification good).notices.pending = s.notices.pending ∧
    (s.endHotVerification good).notices.levels = s.notices.levels := by
  refine ⟨?_, ?_, ?_, ?_, ?_, ?_, ?_, ?_, ?_, ?_, ?_, ?_, ?_, ?_, ?_, ?_, ?_, ?_, ?_, ?_, ?_⟩
  all_goals
    first
      | with_reducible rfl
      | (unfold State.endHotVerification
         (try dsimp only)
         repeat'
           first
             | with_reducible rfl
             | (simp only [record_frame, endLong_frame, abandon_frame, setHot_pending, setHot_free, setHot_powered,
                              setHot_nvwp, setHot_lanes, setHot_claims, setHot_seen,
                              setHot_recovery, setHot_fare, setHot_incidents, setHot_keys,
                              setHot_window, setHot_retention, setHot_clock, setHot_emergency,
                              setHot_link, setHot_notices]; done)
             | (simp only [record_frame, endLong_frame, abandon_frame, setHot_pending, setHot_free, setHot_powered,
                              setHot_nvwp, setHot_lanes, setHot_claims, setHot_seen,
                              setHot_recovery, setHot_fare, setHot_incidents, setHot_keys,
                              setHot_window, setHot_retention, setHot_clock, setHot_emergency,
                              setHot_link, setHot_notices]; split)
             | split)

@[simp] theorem clearSuspect_frame (s : State) (id : Identity) :
    (s.clearSuspect id).pending = s.pending ∧ (s.clearSuspect id).free = s.free ∧ (s.clearSuspect id).powered = s.powered ∧
    (s.clearSuspect id).nvwp = s.nvwp ∧ (s.clearSuspect id).link = s.link ∧ (s.clearSuspect id).proc = s.proc ∧ (s.clearSuspect
    id).lanes = s.lanes ∧ (s.clearSuspect id).claims = s.claims ∧ (s.clearSuspect id).hot = s.hot ∧ (s.clearSuspect id).recovery
    = s.recovery ∧ (s.clearSuspect id).fare = s.fare ∧ (s.clearSuspect id).incidents = s.incidents ∧ (s.clearSuspect id).keys =
    s.keys ∧ (s.clearSuspect id).journal = s.journal ∧ (s.clearSuspect id).window = s.window ∧ (s.clearSuspect id).retention =
    s.retention ∧ (s.clearSuspect id).clock = s.clock ∧ (s.clearSuspect id).notices = s.notices ∧ (s.clearSuspect id).emergency
    = s.emergency ∧ (s.clearSuspect id).seen.inbox = s.seen.inbox := by
  refine ⟨?_, ?_, ?_, ?_, ?_, ?_, ?_, ?_, ?_, ?_, ?_, ?_, ?_, ?_, ?_, ?_, ?_, ?_, ?_, ?_⟩
  all_goals
    first
      | with_reducible rfl
      | (unfold State.clearSuspect
         (try dsimp only)
         repeat'
           first
             | with_reducible rfl
             | (simp only [setEntries_pending, setEntries_free, setEntries_powered, setEntries_nvwp,
                              setEntries_link, setEntries_proc, setEntries_lanes, setEntries_claims,
                              setEntries_hot, setEntries_recovery, setEntries_fare,
                              setEntries_incidents, setEntries_keys, setEntries_journal,
                              setEntries_window, setEntries_retention, setEntries_clock,
                              setEntries_notices, setEntries_emergency, setEntries_seen]; done)
             | (simp only [setEntries_pending, setEntries_free, setEntries_powered, setEntries_nvwp,
                              setEntries_link, setEntries_proc, setEntries_lanes, setEntries_claims,
                              setEntries_hot, setEntries_recovery, setEntries_fare,
                              setEntries_incidents, setEntries_keys, setEntries_journal,
                              setEntries_window, setEntries_retention, setEntries_clock,
                              setEntries_notices, setEntries_emergency, setEntries_seen]; split)
             | split)

@[simp] theorem endFareVerification_frame (s : State) :
    (s.endFareVerification).pending = s.pending ∧ (s.endFareVerification).free = s.free ∧ (s.endFareVerification).powered =
    s.powered ∧ (s.endFareVerification).nvwp = s.nvwp ∧ (s.endFareVerification).claims = s.claims ∧ (s.endFareVerification).hot
    = s.hot ∧ (s.endFareVerification).recovery = s.recovery ∧ (s.endFareVerification).incidents = s.incidents ∧
    (s.endFareVerification).keys = s.keys ∧ (s.endFareVerification).window = s.window ∧ (s.endFareVerification).retention =
    s.retention ∧ (s.endFareVerification).clock = s.clock ∧ (s.endFareVerification).emergency = s.emergency ∧
    (s.endFareVerification).link.requests = s.link.requests ∧ (s.endFareVerification).link.replies = s.link.replies ∧
    (s.endFareVerification).link.framer = s.link.framer ∧ (s.endFareVerification).seen.entries = s.seen.entries ∧
    (s.endFareVerification).notices.conditions = s.notices.conditions ∧ (s.endFareVerification).notices.pending =
    s.notices.pending ∧ (s.endFareVerification).notices.levels = s.notices.levels := by
  refine ⟨?_, ?_, ?_, ?_, ?_, ?_, ?_, ?_, ?_, ?_, ?_, ?_, ?_, ?_, ?_, ?_, ?_, ?_, ?_, ?_⟩
  all_goals
    first
      | with_reducible rfl
      | (unfold State.endFareVerification
         (try dsimp only)
         repeat'
           first
             | with_reducible rfl
             | (simp only [endLong_frame, considerActivation_frame, setPending_pending, setPending_free,
                              setPending_powered, setPending_nvwp, setPending_claims,
                              setPending_hot, setPending_recovery, setPending_incidents,
                              setPending_keys, setPending_window, setPending_retention,
                              setPending_clock, setPending_emergency, setPending_link,
                              setPending_seen, setPending_notices]; done)
             | (simp only [endLong_frame, considerActivation_frame, setPending_pending, setPending_free,
                              setPending_powered, setPending_nvwp, setPending_claims,
                              setPending_hot, setPending_recovery, setPending_incidents,
                              setPending_keys, setPending_window, setPending_retention,
                              setPending_clock, setPending_emergency, setPending_link,
                              setPending_seen, setPending_notices]; split)
             | split)

@[simp] theorem handLine_frame (s : State) (c : LineChange) :
    (s.handLine c).pending = s.pending ∧ (s.handLine c).free = s.free ∧ (s.handLine c).powered = s.powered ∧ (s.handLine c).nvwp
    = s.nvwp ∧ (s.handLine c).link = s.link ∧ (s.handLine c).proc = s.proc ∧ (s.handLine c).claims = s.claims ∧ (s.handLine
    c).seen = s.seen ∧ (s.handLine c).hot = s.hot ∧ (s.handLine c).recovery = s.recovery ∧ (s.handLine c).fare = s.fare ∧
    (s.handLine c).keys = s.keys ∧ (s.handLine c).journal = s.journal ∧ (s.handLine c).window = s.window ∧ (s.handLine
    c).retention = s.retention ∧ (s.handLine c).clock = s.clock ∧ (s.handLine c).notices = s.notices ∧ (s.handLine c).emergency
    = s.emergency := by
  refine ⟨?_, ?_, ?_, ?_, ?_, ?_, ?_, ?_, ?_, ?_, ?_, ?_, ?_, ?_, ?_, ?_, ?_, ?_⟩
  · exact eachLane_keeps (fun t : State => t.pending) _ (by intros; simp only [updLane_frame]) s
  · exact eachLane_keeps (fun t : State => t.free) _ (by intros; simp only [updLane_frame]) s
  · exact eachLane_keeps (fun t : State => t.powered) _ (by intros; simp only [updLane_frame]) s
  · exact eachLane_keeps (fun t : State => t.nvwp) _ (by intros; simp only [updLane_frame]) s
  · exact eachLane_keeps (fun t : State => t.link) _ (by intros; simp only [updLane_frame]) s
  · exact eachLane_keeps (fun t : State => t.proc) _ (by intros; simp only [updLane_frame]) s
  · exact eachLane_keeps (fun t : State => t.claims) _ (by intros; simp only [updLane_frame]) s
  · exact eachLane_keeps (fun t : State => t.seen) _ (by intros; simp only [updLane_frame]) s
  · exact eachLane_keeps (fun t : State => t.hot) _ (by intros; simp only [updLane_frame]) s
  · exact eachLane_keeps (fun t : State => t.recovery) _ (by intros; simp only [updLane_frame]) s
  · exact eachLane_keeps (fun t : State => t.fare) _ (by intros; simp only [updLane_frame]) s
  · exact eachLane_keeps (fun t : State => t.keys) _ (by intros; simp only [updLane_frame]) s
  · exact eachLane_keeps (fun t : State => t.journal) _ (by intros; simp only [updLane_frame]) s
  · exact eachLane_keeps (fun t : State => t.window) _ (by intros; simp only [updLane_frame]) s
  · exact eachLane_keeps (fun t : State => t.retention) _ (by intros; simp only [updLane_frame]) s
  · exact eachLane_keeps (fun t : State => t.clock) _ (by intros; simp only [updLane_frame]) s
  · exact eachLane_keeps (fun t : State => t.notices) _ (by intros; simp only [updLane_frame]) s
  · exact eachLane_keeps (fun t : State => t.emergency) _ (by intros; simp only [updLane_frame]) s

@[simp] theorem assertionTaken_frame (s : State) :
    (s.assertionTaken).pending = s.pending ∧ (s.assertionTaken).free = s.free ∧ (s.assertionTaken).powered = s.powered ∧
    (s.assertionTaken).nvwp = s.nvwp ∧ (s.assertionTaken).link = s.link ∧ (s.assertionTaken).proc = s.proc ∧
    (s.assertionTaken).claims = s.claims ∧ (s.assertionTaken).seen = s.seen ∧ (s.assertionTaken).hot = s.hot ∧
    (s.assertionTaken).recovery = s.recovery ∧ (s.assertionTaken).fare = s.fare ∧ (s.assertionTaken).keys = s.keys ∧
    (s.assertionTaken).window = s.window ∧ (s.assertionTaken).retention = s.retention ∧ (s.assertionTaken).clock = s.clock ∧
    (s.assertionTaken).notices.conditions = s.notices.conditions ∧ (s.assertionTaken).notices.pending = s.notices.pending ∧
    (s.assertionTaken).notices.levels = s.notices.levels := by
  refine ⟨?_, ?_, ?_, ?_, ?_, ?_, ?_, ?_, ?_, ?_, ?_, ?_, ?_, ?_, ?_, ?_, ?_, ?_⟩
  all_goals
    first
      | with_reducible rfl
      | (unfold State.assertionTaken
         (try dsimp only)
         repeat'
           first
             | with_reducible rfl
             | (simp only [record_frame, handLine_frame, raise_pending, raise_free, raise_powered, raise_nvwp,
                              raise_link, raise_proc, raise_claims, raise_seen, raise_hot,
                              raise_recovery, raise_fare, raise_keys, raise_window, raise_retention,
                              raise_clock, raise_notices, updEmergency_pending, updEmergency_free,
                              updEmergency_powered, updEmergency_nvwp, updEmergency_link,
                              updEmergency_proc, updEmergency_claims, updEmergency_seen,
                              updEmergency_hot, updEmergency_recovery, updEmergency_fare,
                              updEmergency_keys, updEmergency_window, updEmergency_retention,
                              updEmergency_clock, updEmergency_notices]; done)
             | (simp only [record_frame, handLine_frame, raise_pending, raise_free, raise_powered, raise_nvwp,
                              raise_link, raise_proc, raise_claims, raise_seen, raise_hot,
                              raise_recovery, raise_fare, raise_keys, raise_window, raise_retention,
                              raise_clock, raise_notices, updEmergency_pending, updEmergency_free,
                              updEmergency_powered, updEmergency_nvwp, updEmergency_link,
                              updEmergency_proc, updEmergency_claims, updEmergency_seen,
                              updEmergency_hot, updEmergency_recovery, updEmergency_fare,
                              updEmergency_keys, updEmergency_window, updEmergency_retention,
                              updEmergency_clock, updEmergency_notices]; split)
             | split)

@[simp] theorem releaseTaken_frame (s : State) :
    (s.releaseTaken).pending = s.pending ∧ (s.releaseTaken).free = s.free ∧ (s.releaseTaken).powered = s.powered ∧
    (s.releaseTaken).nvwp = s.nvwp ∧ (s.releaseTaken).link = s.link ∧ (s.releaseTaken).proc = s.proc ∧ (s.releaseTaken).claims =
    s.claims ∧ (s.releaseTaken).seen = s.seen ∧ (s.releaseTaken).hot = s.hot ∧ (s.releaseTaken).recovery = s.recovery ∧
    (s.releaseTaken).fare = s.fare ∧ (s.releaseTaken).keys = s.keys ∧ (s.releaseTaken).window = s.window ∧
    (s.releaseTaken).retention = s.retention ∧ (s.releaseTaken).clock = s.clock ∧ (s.releaseTaken).notices.conditions =
    s.notices.conditions ∧ (s.releaseTaken).notices.pending = s.notices.pending ∧ (s.releaseTaken).notices.levels =
    s.notices.levels := by
  refine ⟨?_, ?_, ?_, ?_, ?_, ?_, ?_, ?_, ?_, ?_, ?_, ?_, ?_, ?_, ?_, ?_, ?_, ?_⟩
  all_goals
    first
      | with_reducible rfl
      | (unfold State.releaseTaken
         (try dsimp only)
         repeat'
           first
             | with_reducible rfl
             | (simp only [record_frame, handLine_frame, raise_pending, raise_free, raise_powered, raise_nvwp,
                              raise_link, raise_proc, raise_claims, raise_seen, raise_hot,
                              raise_recovery, raise_fare, raise_keys, raise_window, raise_retention,
                              raise_clock, raise_notices, updEmergency_pending, updEmergency_free,
                              updEmergency_powered, updEmergency_nvwp, updEmergency_link,
                              updEmergency_proc, updEmergency_claims, updEmergency_seen,
                              updEmergency_hot, updEmergency_recovery, updEmergency_fare,
                              updEmergency_keys, updEmergency_window, updEmergency_retention,
                              updEmergency_clock, updEmergency_notices]; done)
             | (simp only [record_frame, handLine_frame, raise_pending, raise_free, raise_powered, raise_nvwp,
                              raise_link, raise_proc, raise_claims, raise_seen, raise_hot,
                              raise_recovery, raise_fare, raise_keys, raise_window, raise_retention,
                              raise_clock, raise_notices, updEmergency_pending, updEmergency_free,
                              updEmergency_powered, updEmergency_nvwp, updEmergency_link,
                              updEmergency_proc, updEmergency_claims, updEmergency_seen,
                              updEmergency_hot, updEmergency_recovery, updEmergency_fare,
                              updEmergency_keys, updEmergency_window, updEmergency_retention,
                              updEmergency_clock, updEmergency_notices]; split)
             | split)

@[simp] theorem engineAsserts_frame (s : State) (n : LaneId) :
    (s.engineAsserts n).pending = s.pending ∧ (s.engineAsserts n).free = s.free ∧ (s.engineAsserts n).powered = s.powered ∧
    (s.engineAsserts n).nvwp = s.nvwp ∧ (s.engineAsserts n).link = s.link ∧ (s.engineAsserts n).claims = s.claims ∧
    (s.engineAsserts n).hot = s.hot ∧ (s.engineAsserts n).incidents = s.incidents ∧ (s.engineAsserts n).keys = s.keys ∧
    (s.engineAsserts n).window = s.window ∧ (s.engineAsserts n).retention = s.retention ∧ (s.engineAsserts n).clock = s.clock ∧
    (s.engineAsserts n).emergency = s.emergency ∧ (s.engineAsserts n).notices.conditions = s.notices.conditions ∧
    (s.engineAsserts n).notices.pending = s.notices.pending ∧ (s.engineAsserts n).notices.levels = s.notices.levels := by
  refine ⟨?_, ?_, ?_, ?_, ?_, ?_, ?_, ?_, ?_, ?_, ?_, ?_, ?_, ?_, ?_, ?_⟩
  all_goals
    first
      | with_reducible rfl
      | (unfold State.engineAsserts
         (try dsimp only)
         repeat'
           first
             | with_reducible rfl
             | (simp only [updEngine_frame, finishing_frame, abandon_frame]; done)
             | (simp only [updEngine_frame, finishing_frame, abandon_frame]; split)
             | split)

@[simp] theorem incidentAsserts_frame (s : State) :
    (s.incidentAsserts).pending = s.pending ∧ (s.incidentAsserts).free = s.free ∧ (s.incidentAsserts).powered = s.powered ∧
    (s.incidentAsserts).nvwp = s.nvwp ∧ (s.incidentAsserts).link = s.link ∧ (s.incidentAsserts).proc = s.proc ∧
    (s.incidentAsserts).lanes = s.lanes ∧ (s.incidentAsserts).claims = s.claims ∧ (s.incidentAsserts).seen = s.seen ∧
    (s.incidentAsserts).hot = s.hot ∧ (s.incidentAsserts).recovery = s.recovery ∧ (s.incidentAsserts).fare = s.fare ∧
    (s.incidentAsserts).keys = s.keys ∧ (s.incidentAsserts).journal = s.journal ∧ (s.incidentAsserts).window = s.window ∧
    (s.incidentAsserts).retention = s.retention ∧ (s.incidentAsserts).clock = s.clock ∧ (s.incidentAsserts).notices = s.notices
    := by
  refine ⟨?_, ?_, ?_, ?_, ?_, ?_, ?_, ?_, ?_, ?_, ?_, ?_, ?_, ?_, ?_, ?_, ?_, ?_⟩
  all_goals
    first
      | with_reducible rfl
      | (unfold State.incidentAsserts
         (try dsimp only)
         repeat'
           first
             | with_reducible rfl
             | (simp only [openLocalIncident_frame, updEmergency_pending, updEmergency_free, updEmergency_powered,
                              updEmergency_nvwp, updEmergency_link, updEmergency_proc,
                              updEmergency_lanes, updEmergency_claims, updEmergency_seen,
                              updEmergency_hot, updEmergency_recovery, updEmergency_fare,
                              updEmergency_keys, updEmergency_journal, updEmergency_window,
                              updEmergency_retention, updEmergency_clock, updEmergency_notices]; done)
             | (simp only [openLocalIncident_frame, updEmergency_pending, updEmergency_free, updEmergency_powered,
                              updEmergency_nvwp, updEmergency_link, updEmergency_proc,
                              updEmergency_lanes, updEmergency_claims, updEmergency_seen,
                              updEmergency_hot, updEmergency_recovery, updEmergency_fare,
                              updEmergency_keys, updEmergency_journal, updEmergency_window,
                              updEmergency_retention, updEmergency_clock, updEmergency_notices]; split)
             | split)

@[simp] theorem incidentReleases_frame (s : State) :
    (s.incidentReleases).pending = s.pending ∧ (s.incidentReleases).free = s.free ∧ (s.incidentReleases).powered = s.powered ∧
    (s.incidentReleases).nvwp = s.nvwp ∧ (s.incidentReleases).link = s.link ∧ (s.incidentReleases).proc = s.proc ∧
    (s.incidentReleases).lanes = s.lanes ∧ (s.incidentReleases).claims = s.claims ∧ (s.incidentReleases).seen = s.seen ∧
    (s.incidentReleases).hot = s.hot ∧ (s.incidentReleases).recovery = s.recovery ∧ (s.incidentReleases).fare = s.fare ∧
    (s.incidentReleases).keys = s.keys ∧ (s.incidentReleases).journal = s.journal ∧ (s.incidentReleases).window = s.window ∧
    (s.incidentReleases).retention = s.retention ∧ (s.incidentReleases).clock = s.clock ∧ (s.incidentReleases).notices =
    s.notices := by
  refine ⟨?_, ?_, ?_, ?_, ?_, ?_, ?_, ?_, ?_, ?_, ?_, ?_, ?_, ?_, ?_, ?_, ?_, ?_⟩
  all_goals
    first
      | with_reducible rfl
      | (unfold State.incidentReleases
         (try dsimp only)
         repeat'
           first
             | with_reducible rfl
             | (simp only [updEmergency_pending, updEmergency_free, updEmergency_powered, updEmergency_nvwp,
                              updEmergency_link, updEmergency_proc, updEmergency_lanes,
                              updEmergency_claims, updEmergency_seen, updEmergency_hot,
                              updEmergency_recovery, updEmergency_fare, updEmergency_keys,
                              updEmergency_journal, updEmergency_window, updEmergency_retention,
                              updEmergency_clock, updEmergency_notices]; done)
             | (simp only [updEmergency_pending, updEmergency_free, updEmergency_powered, updEmergency_nvwp,
                              updEmergency_link, updEmergency_proc, updEmergency_lanes,
                              updEmergency_claims, updEmergency_seen, updEmergency_hot,
                              updEmergency_recovery, updEmergency_fare, updEmergency_keys,
                              updEmergency_journal, updEmergency_window, updEmergency_retention,
                              updEmergency_clock, updEmergency_notices]; split)
             | split)

@[simp] theorem configure_frame (s : State) (n : LaneId) (m : DirMode) (a b c d : Nat) :
    (s.configure n m a b c d).pending = s.pending ∧ (s.configure n m a b c d).free = s.free ∧ (s.configure n m a b c d).powered
    = s.powered ∧ (s.configure n m a b c d).nvwp = s.nvwp ∧ (s.configure n m a b c d).link = s.link ∧ (s.configure n m a b c
    d).proc = s.proc ∧ (s.configure n m a b c d).claims = s.claims ∧ (s.configure n m a b c d).seen = s.seen ∧ (s.configure n m
    a b c d).hot = s.hot ∧ (s.configure n m a b c d).recovery = s.recovery ∧ (s.configure n m a b c d).fare = s.fare ∧
    (s.configure n m a b c d).incidents = s.incidents ∧ (s.configure n m a b c d).keys = s.keys ∧ (s.configure n m a b c
    d).window = s.window ∧ (s.configure n m a b c d).retention = s.retention ∧ (s.configure n m a b c d).clock = s.clock ∧
    (s.configure n m a b c d).emergency = s.emergency ∧ (s.configure n m a b c d).notices.conditions = s.notices.conditions ∧
    (s.configure n m a b c d).notices.pending = s.notices.pending ∧ (s.configure n m a b c d).notices.levels = s.notices.levels
    := by
  refine ⟨?_, ?_, ?_, ?_, ?_, ?_, ?_, ?_, ?_, ?_, ?_, ?_, ?_, ?_, ?_, ?_, ?_, ?_, ?_, ?_⟩
  all_goals
    first
      | with_reducible rfl
      | (unfold State.configure
         (try dsimp only)
         repeat'
           first
             | with_reducible rfl
             | (simp only [updLane_frame, record_frame, settleGate_frame]; done)
             | (simp only [updLane_frame, record_frame, settleGate_frame]; split)
             | split)

@[simp] theorem setService_frame (s : State) (n : LaneId) (on : Bool) :
    (s.setService n on).pending = s.pending ∧ (s.setService n on).free = s.free ∧ (s.setService n on).powered = s.powered ∧
    (s.setService n on).nvwp = s.nvwp ∧ (s.setService n on).link = s.link ∧ (s.setService n on).proc = s.proc ∧ (s.setService n
    on).claims = s.claims ∧ (s.setService n on).hot = s.hot ∧ (s.setService n on).recovery = s.recovery ∧ (s.setService n
    on).fare = s.fare ∧ (s.setService n on).incidents = s.incidents ∧ (s.setService n on).keys = s.keys ∧ (s.setService n
    on).window = s.window ∧ (s.setService n on).retention = s.retention ∧ (s.setService n on).clock = s.clock ∧ (s.setService n
    on).emergency = s.emergency ∧ (s.setService n on).seen.entries = s.seen.entries ∧ (s.setService n on).notices.conditions =
    s.notices.conditions ∧ (s.setService n on).notices.pending = s.notices.pending ∧ (s.setService n on).notices.levels =
    s.notices.levels := by
  refine ⟨?_, ?_, ?_, ?_, ?_, ?_, ?_, ?_, ?_, ?_, ?_, ?_, ?_, ?_, ?_, ?_, ?_, ?_, ?_, ?_⟩
  all_goals
    first
      | with_reducible rfl
      | (unfold State.setService
         (try dsimp only)
         repeat'
           first
             | with_reducible rfl
             | (simp only [updLane_frame, record_frame, settleService_frame]; done)
             | (simp only [updLane_frame, record_frame, settleService_frame]; split)
             | split)

@[simp] theorem staffGrant_frame (s : State) (n : LaneId) (d : Direction) :
    (s.staffGrant n d).pending = s.pending ∧ (s.staffGrant n d).free = s.free ∧ (s.staffGrant n d).powered = s.powered ∧
    (s.staffGrant n d).nvwp = s.nvwp ∧ (s.staffGrant n d).link = s.link ∧ (s.staffGrant n d).proc = s.proc ∧ (s.staffGrant n
    d).claims = s.claims ∧ (s.staffGrant n d).seen = s.seen ∧ (s.staffGrant n d).hot = s.hot ∧ (s.staffGrant n d).recovery =
    s.recovery ∧ (s.staffGrant n d).fare = s.fare ∧ (s.staffGrant n d).incidents = s.incidents ∧ (s.staffGrant n d).keys =
    s.keys ∧ (s.staffGrant n d).window = s.window ∧ (s.staffGrant n d).retention = s.retention ∧ (s.staffGrant n d).clock =
    s.clock ∧ (s.staffGrant n d).emergency = s.emergency ∧ (s.staffGrant n d).notices.conditions = s.notices.conditions ∧
    (s.staffGrant n d).notices.pending = s.notices.pending ∧ (s.staffGrant n d).notices.levels = s.notices.levels := by
  refine ⟨?_, ?_, ?_, ?_, ?_, ?_, ?_, ?_, ?_, ?_, ?_, ?_, ?_, ?_, ?_, ?_, ?_, ?_, ?_, ?_⟩
  all_goals
    first
      | with_reducible rfl
      | (unfold State.staffGrant
         (try dsimp only)
         repeat'
           first
             | with_reducible rfl
             | (simp only [updGate_frame, append_frame, enqueue_frame]; done)
             | (simp only [updGate_frame, append_frame, enqueue_frame]; split)
             | split)

@[simp] theorem startInitialise_frame (s : State) (r : Request) :
    (s.startInitialise r).pending = s.pending ∧ (s.startInitialise r).free = s.free ∧ (s.startInitialise r).powered = s.powered
    ∧ (s.startInitialise r).nvwp = s.nvwp ∧ (s.startInitialise r).link = s.link ∧ (s.startInitialise r).claims = s.claims ∧
    (s.startInitialise r).hot = s.hot ∧ (s.startInitialise r).recovery = s.recovery ∧ (s.startInitialise r).fare = s.fare ∧
    (s.startInitialise r).incidents = s.incidents ∧ (s.startInitialise r).keys = s.keys ∧ (s.startInitialise r).window =
    s.window ∧ (s.startInitialise r).retention = s.retention ∧ (s.startInitialise r).clock = s.clock ∧ (s.startInitialise
    r).emergency = s.emergency ∧ (s.startInitialise r).seen.entries = s.seen.entries ∧ (s.startInitialise r).notices.conditions
    = s.notices.conditions ∧ (s.startInitialise r).notices.pending = s.notices.pending ∧ (s.startInitialise r).notices.levels =
    s.notices.levels := by
  refine ⟨?_, ?_, ?_, ?_, ?_, ?_, ?_, ?_, ?_, ?_, ?_, ?_, ?_, ?_, ?_, ?_, ?_, ?_, ?_⟩
  all_goals
    first
      | with_reducible rfl
      | (unfold State.startInitialise
         (try dsimp only)
         repeat'
           first
             | with_reducible rfl
             | (simp only [settleReadiness_frame, startLong_pending, startLong_free, startLong_powered,
                              startLong_nvwp, startLong_link, startLong_claims, startLong_hot,
                              startLong_recovery, startLong_fare, startLong_incidents,
                              startLong_keys, startLong_window, startLong_retention,
                              startLong_clock, startLong_emergency, startLong_seen,
                              startLong_notices]; done)
             | (simp only [settleReadiness_frame, startLong_pending, startLong_free, startLong_powered,
                              startLong_nvwp, startLong_link, startLong_claims, startLong_hot,
                              startLong_recovery, startLong_fare, startLong_incidents,
                              startLong_keys, startLong_window, startLong_retention,
                              startLong_clock, startLong_emergency, startLong_seen,
                              startLong_notices]; split)
             | split)

@[simp] theorem clearSeen_frame (s : State) :
    (s.clearSeen).pending = s.pending ∧ (s.clearSeen).free = s.free ∧ (s.clearSeen).powered = s.powered ∧ (s.clearSeen).nvwp =
    s.nvwp ∧ (s.clearSeen).link = s.link ∧ (s.clearSeen).proc = s.proc ∧ (s.clearSeen).lanes = s.lanes ∧ (s.clearSeen).claims =
    s.claims ∧ (s.clearSeen).hot = s.hot ∧ (s.clearSeen).recovery = s.recovery ∧ (s.clearSeen).fare = s.fare ∧
    (s.clearSeen).incidents = s.incidents ∧ (s.clearSeen).keys = s.keys ∧ (s.clearSeen).journal = s.journal ∧
    (s.clearSeen).window = s.window ∧ (s.clearSeen).retention = s.retention ∧ (s.clearSeen).clock = s.clock ∧
    (s.clearSeen).notices = s.notices ∧ (s.clearSeen).emergency = s.emergency ∧ (s.clearSeen).seen.inbox = s.seen.inbox := by
  refine ⟨?_, ?_, ?_, ?_, ?_, ?_, ?_, ?_, ?_, ?_, ?_, ?_, ?_, ?_, ?_, ?_, ?_, ?_, ?_, ?_⟩
  all_goals
    first
      | with_reducible rfl
      | (unfold State.clearSeen
         (try dsimp only)
         repeat'
           first
             | with_reducible rfl
             | (simp only [setEntries_pending, setEntries_free, setEntries_powered, setEntries_nvwp,
                              setEntries_link, setEntries_proc, setEntries_lanes, setEntries_claims,
                              setEntries_hot, setEntries_recovery, setEntries_fare,
                              setEntries_incidents, setEntries_keys, setEntries_journal,
                              setEntries_window, setEntries_retention, setEntries_clock,
                              setEntries_notices, setEntries_emergency, setEntries_seen]; done)
             | (simp only [setEntries_pending, setEntries_free, setEntries_powered, setEntries_nvwp,
                              setEntries_link, setEntries_proc, setEntries_lanes, setEntries_claims,
                              setEntries_hot, setEntries_recovery, setEntries_fare,
                              setEntries_incidents, setEntries_keys, setEntries_journal,
                              setEntries_window, setEntries_retention, setEntries_clock,
                              setEntries_notices, setEntries_emergency, setEntries_seen]; split)
             | split)

@[simp] theorem clearHot_frame (s : State) :
    (s.clearHot).pending = s.pending ∧ (s.clearHot).free = s.free ∧ (s.clearHot).powered = s.powered ∧ (s.clearHot).nvwp =
    s.nvwp ∧ (s.clearHot).link = s.link ∧ (s.clearHot).proc = s.proc ∧ (s.clearHot).lanes = s.lanes ∧ (s.clearHot).claims =
    s.claims ∧ (s.clearHot).seen = s.seen ∧ (s.clearHot).recovery = s.recovery ∧ (s.clearHot).fare = s.fare ∧
    (s.clearHot).incidents = s.incidents ∧ (s.clearHot).keys = s.keys ∧ (s.clearHot).journal = s.journal ∧ (s.clearHot).window =
    s.window ∧ (s.clearHot).retention = s.retention ∧ (s.clearHot).clock = s.clock ∧ (s.clearHot).notices = s.notices ∧
    (s.clearHot).emergency = s.emergency := by
  refine ⟨?_, ?_, ?_, ?_, ?_, ?_, ?_, ?_, ?_, ?_, ?_, ?_, ?_, ?_, ?_, ?_, ?_, ?_, ?_⟩
  all_goals
    first
      | with_reducible rfl
      | (unfold State.clearHot
         repeat'
           first
             | with_reducible rfl
             | split)
      | (simp [State.clearHot]; done)

@[simp] theorem clearIncidents_frame (s : State) :
    (s.clearIncidents).pending = s.pending ∧ (s.clearIncidents).free = s.free ∧ (s.clearIncidents).powered = s.powered ∧
    (s.clearIncidents).nvwp = s.nvwp ∧ (s.clearIncidents).link = s.link ∧ (s.clearIncidents).proc = s.proc ∧
    (s.clearIncidents).lanes = s.lanes ∧ (s.clearIncidents).claims = s.claims ∧ (s.clearIncidents).seen = s.seen ∧
    (s.clearIncidents).hot = s.hot ∧ (s.clearIncidents).recovery = s.recovery ∧ (s.clearIncidents).fare = s.fare ∧
    (s.clearIncidents).keys = s.keys ∧ (s.clearIncidents).journal = s.journal ∧ (s.clearIncidents).window = s.window ∧
    (s.clearIncidents).retention = s.retention ∧ (s.clearIncidents).clock = s.clock ∧ (s.clearIncidents).notices = s.notices ∧
    (s.clearIncidents).emergency = s.emergency := by
  refine ⟨?_, ?_, ?_, ?_, ?_, ?_, ?_, ?_, ?_, ?_, ?_, ?_, ?_, ?_, ?_, ?_, ?_, ?_, ?_⟩
  all_goals
    first
      | with_reducible rfl
      | (unfold State.clearIncidents
         repeat'
           first
             | with_reducible rfl
             | split)
      | (simp [State.clearIncidents]; done)

@[simp] theorem clearNext_frame (s : State) :
    (s.clearNext).pending = s.pending ∧ (s.clearNext).free = s.free ∧ (s.clearNext).powered = s.powered ∧ (s.clearNext).nvwp =
    s.nvwp ∧ (s.clearNext).link = s.link ∧ (s.clearNext).claims = s.claims ∧ (s.clearNext).recovery = s.recovery ∧
    (s.clearNext).keys = s.keys ∧ (s.clearNext).window = s.window ∧ (s.clearNext).retention = s.retention ∧ (s.clearNext).clock
    = s.clock ∧ (s.clearNext).emergency = s.emergency ∧ (s.clearNext).notices.conditions = s.notices.conditions ∧
    (s.clearNext).notices.pending = s.notices.pending ∧ (s.clearNext).notices.levels = s.notices.levels := by
  refine ⟨?_, ?_, ?_, ?_, ?_, ?_, ?_, ?_, ?_, ?_, ?_, ?_, ?_, ?_, ?_⟩
  all_goals
    first
      | with_reducible rfl
      | (unfold State.clearNext
         (try dsimp only)
         repeat'
           first
             | with_reducible rfl
             | (simp only [clearFare_frame, clearSeen_frame, clearHot_frame, clearIncidents_frame,
                              setStage_pending, setStage_free, setStage_powered, setStage_nvwp,
                              setStage_link, setStage_claims, setStage_recovery, setStage_keys,
                              setStage_window, setStage_retention, setStage_clock,
                              setStage_emergency, setStage_notices]; done)
             | (simp only [clearFare_frame, clearSeen_frame, clearHot_frame, clearIncidents_frame,
                              setStage_pending, setStage_free, setStage_powered, setStage_nvwp,
                              setStage_link, setStage_claims, setStage_recovery, setStage_keys,
                              setStage_window, setStage_retention, setStage_clock,
                              setStage_emergency, setStage_notices]; split)
             | split)

@[simp] theorem endInitialise_frame (s : State) (x : Option (Fin 4)) :
    (s.endInitialise x).pending = s.pending ∧ (s.endInitialise x).free = s.free ∧ (s.endInitialise x).powered = s.powered ∧
    (s.endInitialise x).nvwp = s.nvwp ∧ (s.endInitialise x).claims = s.claims ∧ (s.endInitialise x).hot = s.hot ∧
    (s.endInitialise x).recovery = s.recovery ∧ (s.endInitialise x).fare = s.fare ∧ (s.endInitialise x).incidents = s.incidents
    ∧ (s.endInitialise x).keys = s.keys ∧ (s.endInitialise x).window = s.window ∧ (s.endInitialise x).retention = s.retention ∧
    (s.endInitialise x).clock = s.clock ∧ (s.endInitialise x).emergency = s.emergency ∧ (s.endInitialise x).link.requests =
    s.link.requests ∧ (s.endInitialise x).link.replies = s.link.replies ∧ (s.endInitialise x).link.framer = s.link.framer ∧
    (s.endInitialise x).seen.entries = s.seen.entries ∧ (s.endInitialise x).notices.conditions = s.notices.conditions ∧
    (s.endInitialise x).notices.pending = s.notices.pending ∧ (s.endInitialise x).notices.levels = s.notices.levels := by
  refine ⟨?_, ?_, ?_, ?_, ?_, ?_, ?_, ?_, ?_, ?_, ?_, ?_, ?_, ?_, ?_, ?_, ?_, ?_, ?_, ?_, ?_⟩
  all_goals
    first
      | with_reducible rfl
      | (unfold State.endInitialise
         (try dsimp only)
         repeat'
           first
             | with_reducible rfl
             | (simp only [endLong_frame, settleReadiness_frame, setStage_pending, setStage_free, setStage_powered,
                              setStage_nvwp, setStage_claims, setStage_hot, setStage_recovery,
                              setStage_fare, setStage_incidents, setStage_keys, setStage_window,
                              setStage_retention, setStage_clock, setStage_emergency, setStage_link,
                              setStage_seen, setStage_notices]; done)
             | (simp only [endLong_frame, settleReadiness_frame, setStage_pending, setStage_free, setStage_powered,
                              setStage_nvwp, setStage_claims, setStage_hot, setStage_recovery,
                              setStage_fare, setStage_incidents, setStage_keys, setStage_window,
                              setStage_retention, setStage_clock, setStage_emergency, setStage_link,
                              setStage_seen, setStage_notices]; split)
             | split)

@[simp] theorem expire_frame (s : State) (i : SlotId) :
    (s.expire i).pending = s.pending ∧ (s.expire i).free = s.free ∧ (s.expire i).powered = s.powered ∧ (s.expire i).nvwp =
    s.nvwp ∧ (s.expire i).link = s.link ∧ (s.expire i).proc = s.proc ∧ (s.expire i).lanes = s.lanes ∧ (s.expire i).claims =
    s.claims ∧ (s.expire i).hot = s.hot ∧ (s.expire i).fare = s.fare ∧ (s.expire i).incidents = s.incidents ∧ (s.expire i).keys
    = s.keys ∧ (s.expire i).window = s.window ∧ (s.expire i).retention = s.retention ∧ (s.expire i).clock = s.clock ∧ (s.expire
    i).emergency = s.emergency ∧ (s.expire i).seen.inbox = s.seen.inbox ∧ (s.expire i).notices.conditions = s.notices.conditions
    ∧ (s.expire i).notices.pending = s.notices.pending ∧ (s.expire i).notices.levels = s.notices.levels := by
  refine ⟨?_, ?_, ?_, ?_, ?_, ?_, ?_, ?_, ?_, ?_, ?_, ?_, ?_, ?_, ?_, ?_, ?_, ?_, ?_, ?_⟩
  all_goals
    first
      | with_reducible rfl
      | (unfold State.expire
         (try dsimp only)
         repeat'
           first
             | with_reducible rfl
             | (simp only [closeSlot_frame, raise_pending, raise_free, raise_powered, raise_nvwp, raise_link,
                              raise_proc, raise_lanes, raise_claims, raise_hot, raise_fare,
                              raise_incidents, raise_keys, raise_window, raise_retention,
                              raise_clock, raise_emergency, raise_seen, raise_notices]; done)
             | (simp only [closeSlot_frame, raise_pending, raise_free, raise_powered, raise_nvwp, raise_link,
                              raise_proc, raise_lanes, raise_claims, raise_hot, raise_fare,
                              raise_incidents, raise_keys, raise_window, raise_retention,
                              raise_clock, raise_emergency, raise_seen, raise_notices]; split)
             | split)

@[simp] theorem expireSlots_frame (s : State) :
    (s.expireSlots).pending = s.pending ∧ (s.expireSlots).free = s.free ∧ (s.expireSlots).powered = s.powered ∧
    (s.expireSlots).nvwp = s.nvwp ∧ (s.expireSlots).link = s.link ∧ (s.expireSlots).proc = s.proc ∧ (s.expireSlots).lanes =
    s.lanes ∧ (s.expireSlots).claims = s.claims ∧ (s.expireSlots).hot = s.hot ∧ (s.expireSlots).fare = s.fare ∧
    (s.expireSlots).incidents = s.incidents ∧ (s.expireSlots).keys = s.keys ∧ (s.expireSlots).window = s.window ∧
    (s.expireSlots).retention = s.retention ∧ (s.expireSlots).clock = s.clock ∧ (s.expireSlots).emergency = s.emergency := by
  refine ⟨?_, ?_, ?_, ?_, ?_, ?_, ?_, ?_, ?_, ?_, ?_, ?_, ?_, ?_, ?_, ?_⟩
  · exact foldl_keeps (fun t : State => t.pending) _ (by intros; simp only [expire_frame]) _ _
  · exact foldl_keeps (fun t : State => t.free) _ (by intros; simp only [expire_frame]) _ _
  · exact foldl_keeps (fun t : State => t.powered) _ (by intros; simp only [expire_frame]) _ _
  · exact foldl_keeps (fun t : State => t.nvwp) _ (by intros; simp only [expire_frame]) _ _
  · exact foldl_keeps (fun t : State => t.link) _ (by intros; simp only [expire_frame]) _ _
  · exact foldl_keeps (fun t : State => t.proc) _ (by intros; simp only [expire_frame]) _ _
  · exact foldl_keeps (fun t : State => t.lanes) _ (by intros; simp only [expire_frame]) _ _
  · exact foldl_keeps (fun t : State => t.claims) _ (by intros; simp only [expire_frame]) _ _
  · exact foldl_keeps (fun t : State => t.hot) _ (by intros; simp only [expire_frame]) _ _
  · exact foldl_keeps (fun t : State => t.fare) _ (by intros; simp only [expire_frame]) _ _
  · exact foldl_keeps (fun t : State => t.incidents) _ (by intros; simp only [expire_frame]) _ _
  · exact foldl_keeps (fun t : State => t.keys) _ (by intros; simp only [expire_frame]) _ _
  · exact foldl_keeps (fun t : State => t.window) _ (by intros; simp only [expire_frame]) _ _
  · exact foldl_keeps (fun t : State => t.retention) _ (by intros; simp only [expire_frame]) _ _
  · exact foldl_keeps (fun t : State => t.clock) _ (by intros; simp only [expire_frame]) _ _
  · exact foldl_keeps (fun t : State => t.emergency) _ (by intros; simp only [expire_frame]) _ _

@[simp] theorem clearVolatile_frame (s : State) :
    (s.clearVolatile).pending = s.pending ∧ (s.clearVolatile).free = s.free ∧ (s.clearVolatile).powered = s.powered ∧
    (s.clearVolatile).nvwp = s.nvwp ∧ (s.clearVolatile).recovery = s.recovery ∧ (s.clearVolatile).keys = s.keys ∧
    (s.clearVolatile).journal = s.journal ∧ (s.clearVolatile).window = s.window ∧ (s.clearVolatile).retention = s.retention ∧
    (s.clearVolatile).seen.entries = s.seen.entries ∧ (s.clearVolatile).notices.levels = s.notices.levels := by
  refine ⟨?_, ?_, ?_, ?_, ?_, ?_, ?_, ?_, ?_, ?_, ?_⟩
  all_goals
    first
      | with_reducible rfl
      | (unfold State.clearVolatile
         repeat'
           first
             | with_reducible rfl
             | split)
      | (simp [State.clearVolatile]; done)

@[simp] theorem powerUpSlot_frame (s : State) (i : SlotId) :
    (s.powerUpSlot i).pending = s.pending ∧ (s.powerUpSlot i).free = s.free ∧ (s.powerUpSlot i).powered = s.powered ∧
    (s.powerUpSlot i).nvwp = s.nvwp ∧ (s.powerUpSlot i).link = s.link ∧ (s.powerUpSlot i).proc = s.proc ∧ (s.powerUpSlot
    i).lanes = s.lanes ∧ (s.powerUpSlot i).claims = s.claims ∧ (s.powerUpSlot i).hot = s.hot ∧ (s.powerUpSlot i).fare = s.fare ∧
    (s.powerUpSlot i).incidents = s.incidents ∧ (s.powerUpSlot i).keys = s.keys ∧ (s.powerUpSlot i).journal = s.journal ∧
    (s.powerUpSlot i).window = s.window ∧ (s.powerUpSlot i).retention = s.retention ∧ (s.powerUpSlot i).clock = s.clock ∧
    (s.powerUpSlot i).notices = s.notices ∧ (s.powerUpSlot i).emergency = s.emergency ∧ (s.powerUpSlot i).seen.inbox =
    s.seen.inbox := by
  refine ⟨?_, ?_, ?_, ?_, ?_, ?_, ?_, ?_, ?_, ?_, ?_, ?_, ?_, ?_, ?_, ?_, ?_, ?_, ?_⟩
  all_goals
    first
      | with_reducible rfl
      | (unfold State.powerUpSlot
         (try dsimp only)
         repeat'
           first
             | with_reducible rfl
             | (simp only [markTear_frame, setSlot_pending, setSlot_free, setSlot_powered, setSlot_nvwp,
                              setSlot_link, setSlot_proc, setSlot_lanes, setSlot_claims,
                              setSlot_hot, setSlot_fare, setSlot_incidents, setSlot_keys,
                              setSlot_journal, setSlot_window, setSlot_retention, setSlot_clock,
                              setSlot_notices, setSlot_emergency, setSlot_seen]; done)
             | (simp only [markTear_frame, setSlot_pending, setSlot_free, setSlot_powered, setSlot_nvwp,
                              setSlot_link, setSlot_proc, setSlot_lanes, setSlot_claims,
                              setSlot_hot, setSlot_fare, setSlot_incidents, setSlot_keys,
                              setSlot_journal, setSlot_window, setSlot_retention, setSlot_clock,
                              setSlot_notices, setSlot_emergency, setSlot_seen]; split)
             | split)

end Sys2Proof.Machine
end

