-- ==== Sys2Proof/Laws/Journal.lean ====
section
/-! SUPPORT. What an append does to the Journal and to the events that wait (R151 to R161). -/
namespace Sys2Proof.Machine

/-- Storing a record changes the journal by store and hands the crossings on; nothing else of the journal. -/
@[simp] theorem storeRecord_journal (s : State) (lane : Option LaneId) (flags : RecordFlags) (b : RecordBody) :
    (s.storeRecord lane flags b).journal = s.journal.store s.recordTime lane flags b := by
  unfold State.storeRecord
  dsimp only
  exact foldl_keeps (fun t : State => t.journal) (fun t (e : NoticeKind × Nat) => t.raise e.1 .part _) (fun _ _ => rfl) _ _

theorem recordTime_ge (s : State) : s.journal.lastTime ≤ s.recordTime := by
  unfold State.recordTime
  split
  · exact Nat.le_max_right _ _
  · exact Nat.le_refl _

theorem Journal.wf_store {j : Journal} (h : j.wf) {t : Nat} (ht : j.lastTime ≤ t) (hc : j.count < Config.journalCapacity)
    (hn : j.next ≤ Config.max32) (lane : Option LaneId) (flags : RecordFlags) (b : RecordBody) : (j.store t lane flags b).wf := by
  obtain ⟨hs, hnext, hp, hl, _, _, _⟩ := h
  have ho : (j.store t lane flags b).oldest = j.oldest := by
    unfold Journal.store Journal.oldest
    cases hr : j.records with
    | nil => simp
    | cons r rs => simp
  have hcount : (j.store t lane flags b).count = j.count + 1 := by simp [Journal.store, Journal.count]
  refine ⟨?_, ?_, ?_, ?_, ?_, ?_, ?_⟩
  · rw [ho, hcount]
    simp only [Journal.store, List.map_append, hs, List.map_cons, List.map_nil]
    rw [List.range'_concat]
    simp [hnext]
  · rw [ho, hcount]
    simp only [Journal.store]
    omega
  · simp only [Journal.store, List.map_append, List.map_cons, List.map_nil, List.pairwise_append, List.pairwise_singleton, true_and]
    refine ⟨hp, fun a ha b' hb => ?_⟩
    simp only [List.mem_map] at ha
    obtain ⟨r, hr, rfl⟩ := ha
    simp only [List.mem_singleton] at hb
    subst hb
    exact Nat.le_trans (hl r hr) ht
  · intro r hr
    simp only [Journal.store, List.mem_append, List.mem_singleton] at hr ⊢
    rcases hr with hr | rfl
    · exact Nat.le_trans (hl r hr) ht
    · exact Nat.le_refl _
  · rw [hcount]; omega
  · simp only [Journal.store]; omega
  · simp only [Journal.store]; omega

theorem Journal.wf_drop {j : Journal} (h : j.wf) (t : Nat) : (j.drop t).wf := h

theorem not_reserved {j : Journal} (h : j.reserved = false) : j.count < 32752 ∧ j.next < 4294967280 := by
  unfold Journal.reserved at h
  rw [Bool.or_eq_false_iff, decide_eq_false_iff_not, decide_eq_false_iff_not] at h
  exact ⟨by have := h.1; unfold Config.reserveStart at this; omega, by have := h.2; unfold Config.lastSequences at this; omega⟩

theorem storeGap_wf {s : State} (h : s.journal.wf) : s.storeGap.journal.wf := by
  unfold State.storeGap
  dsimp only
  split
  · next c =>
    have r := not_reserved c.1
    have w := Journal.wf_store h (recordTime_ge s) (by unfold Config.journalCapacity; omega) (by unfold Config.max32; omega)
      none RecordFlags.clear (.gap s.journal.gapCount (s.journal.firstDrop.getD 0) (s.journal.lastDrop.getD 0))
    simpa [Journal.wf, Journal.oldest, Journal.count] using w
  · exact h

/-- An append keeps the journal's order, whatever it decides. -/
theorem append_wf {s : State} (h : s.journal.wf) (lane : Option LaneId) (flags : RecordFlags) (b : RecordBody) :
    (s.append lane flags b).1.journal.wf := by
  have g := storeGap_wf h
  unfold State.append
  dsimp only
  split
  · next a =>
    simp only [storeRecord_journal]
    refine Journal.wf_store g (recordTime_ge _) ?_ ?_ _ _ _
    all_goals
      unfold Journal.accepts at a
      split at a
      · simp only [Bool.and_eq_true, decide_eq_true_eq] at a
        omega
      · next n =>
        have r := not_reserved (by simpa using n)
        simp only [Config.journalCapacity, Config.max32]
        omega
  · exact Journal.wf_drop g _

theorem record_wf {s : State} (h : s.journal.wf) (lane : Option LaneId) (flags : RecordFlags) (b : RecordBody) :
    (s.record lane flags b).journal.wf := append_wf h lane flags b

theorem foldl_raise_inbox (d : NoticeKind × Nat → List Byte) :
    ∀ (es : List (NoticeKind × Nat)) (s : State),
      (es.foldl (fun t e => t.raise e.1 .part (d e)) s).notices.inbox =
        s.notices.inbox ++ es.map (fun e => ⟨e.1, .part, d e⟩)
  | [], s => by simp
  | e :: es, s => by
    rw [List.foldl_cons, foldl_raise_inbox d es (s.raise e.1 .part (d e))]
    simp [State.raise]

/-- The events a stored record raises stand at the end of the inbox. -/
theorem storeRecord_inbox (s : State) (lane : Option LaneId) (flags : RecordFlags) (b : RecordBody) :
    (s.storeRecord lane flags b).notices.inbox =
      s.notices.inbox ++ (crossingEvents s.journal (s.journal.count + 1)).map
        (fun e => ⟨e.1, .part, be 2 (s.journal.count + 1) ++ be 2 e.2⟩) := by
  unfold State.storeRecord
  dsimp only
  rw [foldl_raise_inbox]
  simp [Journal.store, Journal.count, crossingEvents]
  rfl

end Sys2Proof.Machine
end

