-- ==== Sys2Proof/Laws/PerInstr.lean ====
section
/-! SUPPORT. What holds of every command as a term, one lemma for each constructor: only a DATA without its 64 bytes is ill formed,
and no word spells the command. -/

namespace Sys2Proof.Laws.Table

/-- Only a DATA of other than 64 bytes is ill formed, and no word of any length spells the command. -/
def Statement (i : Instr) : Prop :=
  (i.wellFormed = false ↔ ∃ n side image, i = .headData n side image ∧ image.length ≠ 64) ∧
  ∀ nbits w, decodeTableWord nbits w ≠ some i

/-- A command that is no DATA is well formed. -/
theorem statement_of_wellFormed {i : Instr} (w : i.wellFormed = true) (h : ∀ n side image, i ≠ .headData n side image) :
    Statement i :=
  ⟨⟨fun x => absurd (w.symm.trans x) (by decide), fun ⟨n, side, image, e, _⟩ => absurd e (h n side image)⟩,
   fun _ _ => by simp [decodeTableWord]⟩

theorem powerOn (slb1 slb0 nvwp : Bool) : Statement (.powerOn slb1 slb0 nvwp) := statement_of_wellFormed rfl (by simp)

theorem powerLoss : Statement .powerLoss := statement_of_wellFormed rfl (by simp)

theorem receiveCharacter (c : LineChar) : Statement (.receiveCharacter c) := statement_of_wellFormed rfl (by simp)

theorem transmitFrame : Statement .transmitFrame := statement_of_wellFormed rfl (by simp)

theorem frameSendComplete : Statement .frameSendComplete := statement_of_wellFormed rfl (by simp)

theorem unknownCommand : Statement .unknownCommand := statement_of_wellFormed rfl (by simp)

theorem testReady : Statement .testReady := statement_of_wellFormed rfl (by simp)

theorem requestSense : Statement .requestSense := statement_of_wellFormed rfl (by simp)

theorem readStatus : Statement .readStatus := statement_of_wellFormed rfl (by simp)

theorem setTime : Statement .setTime := statement_of_wellFormed rfl (by simp)

theorem setParameters (nvwp : Bool) : Statement (.setParameters nvwp) := statement_of_wellFormed rfl (by simp)

theorem readConditions : Statement .readConditions := statement_of_wellFormed rfl (by simp)

theorem readJournal : Statement .readJournal := statement_of_wellFormed rfl (by simp)

theorem releaseJournal (nvwp : Bool) : Statement (.releaseJournal nvwp) := statement_of_wellFormed rfl (by simp)

theorem hotlistBegin (nvwp : Bool) : Statement (.hotlistBegin nvwp) := statement_of_wellFormed rfl (by simp)

theorem hotlistSegment (nvwp : Bool) : Statement (.hotlistSegment nvwp) := statement_of_wellFormed rfl (by simp)

theorem hotlistAbandon : Statement .hotlistAbandon := statement_of_wellFormed rfl (by simp)

theorem localListRead : Statement .localListRead := statement_of_wellFormed rfl (by simp)

theorem localListRemove (nvwp : Bool) : Statement (.localListRemove nvwp) := statement_of_wellFormed rfl (by simp)

theorem findCard : Statement .findCard := statement_of_wellFormed rfl (by simp)

theorem fareBegin (nvwp : Bool) : Statement (.fareBegin nvwp) := statement_of_wellFormed rfl (by simp)

theorem fareSection (nvwp : Bool) : Statement (.fareSection nvwp) := statement_of_wellFormed rfl (by simp)

theorem fareCommit (nvwp : Bool) : Statement (.fareCommit nvwp) := statement_of_wellFormed rfl (by simp)

theorem incidentAdd (nvwp : Bool) : Statement (.incidentAdd nvwp) := statement_of_wellFormed rfl (by simp)

theorem incidentClose (nvwp : Bool) : Statement (.incidentClose nvwp) := statement_of_wellFormed rfl (by simp)

theorem incidentRemove (nvwp : Bool) : Statement (.incidentRemove nvwp) := statement_of_wellFormed rfl (by simp)

theorem incidentRead : Statement .incidentRead := statement_of_wellFormed rfl (by simp)

theorem resetPart : Statement .resetPart := statement_of_wellFormed rfl (by simp)

theorem initialiseStore (nvwp : Bool) : Statement (.initialiseStore nvwp) := statement_of_wellFormed rfl (by simp)

theorem initialiseStoreClear : Statement .initialiseStoreClear := statement_of_wellFormed rfl (by simp)

theorem initialiseStoreEnd (failed : Option (Fin 4)) : Statement (.initialiseStoreEnd failed) := statement_of_wellFormed rfl (by simp)

theorem configureLane (nvwp : Bool) : Statement (.configureLane nvwp) := statement_of_wellFormed rfl (by simp)

theorem laneService (nvwp : Bool) : Statement (.laneService nvwp) := statement_of_wellFormed rfl (by simp)

theorem holdOpen : Statement .holdOpen := statement_of_wellFormed rfl (by simp)

theorem releaseHold : Statement .releaseHold := statement_of_wellFormed rfl (by simp)

theorem grantPassage : Statement .grantPassage := statement_of_wellFormed rfl (by simp)

theorem readLane : Statement .readLane := statement_of_wellFormed rfl (by simp)

theorem resetLane : Statement .resetLane := statement_of_wellFormed rfl (by simp)

theorem setNoticeLevels (nvwp : Bool) : Statement (.setNoticeLevels nvwp) := statement_of_wellFormed rfl (by simp)

theorem loadKey (nvwp : Bool) : Statement (.loadKey nvwp) := statement_of_wellFormed rfl (by simp)

theorem fareVerificationEnd : Statement .fareVerificationEnd := statement_of_wellFormed rfl (by simp)

theorem hotlistVerificationEnd (good : Bool) : Statement (.hotlistVerificationEnd good) := statement_of_wellFormed rfl (by simp)

theorem headReady (n : LaneId) (side : Side) : Statement (.headReady n side) := statement_of_wellFormed rfl (by simp)

theorem headFaultReport (n : LaneId) (side : Side) : Statement (.headFaultReport n side) := statement_of_wellFormed rfl (by simp)

theorem headAnswerTimeout (n : LaneId) (side : Side) : Statement (.headAnswerTimeout n side) := statement_of_wellFormed rfl (by simp)

theorem faultPoll (n : LaneId) (side : Side) : Statement (.faultPoll n side) := statement_of_wellFormed rfl (by simp)

theorem headPresent (n : LaneId) (side : Side) (id : Identity) : Statement (.headPresent n side id) := statement_of_wellFormed rfl (by simp)

theorem headMultiple (n : LaneId) (side : Side) : Statement (.headMultiple n side) := statement_of_wellFormed rfl (by simp)

theorem headGone (n : LaneId) (side : Side) : Statement (.headGone n side) := statement_of_wellFormed rfl (by simp)

theorem headData (n : LaneId) (side : Side) (image : List Byte) : Statement (.headData n side image) := by
  refine ⟨⟨fun x => ⟨n, side, image, rfl, ?_⟩, ?_⟩, fun _ _ => by simp [decodeTableWord]⟩
  · simpa [Instr.wellFormed] using x
  · rintro ⟨_, _, _, e, l⟩
    cases e
    simpa [Instr.wellFormed] using l

theorem headLost (n : LaneId) (side : Side) : Statement (.headLost n side) := statement_of_wellFormed rfl (by simp)

theorem headDone (n : LaneId) (side : Side) : Statement (.headDone n side) := statement_of_wellFormed rfl (by simp)

theorem headLostBefore (n : LaneId) (side : Side) : Statement (.headLostBefore n side) := statement_of_wellFormed rfl (by simp)

theorem headLostDuring (n : LaneId) (side : Side) : Statement (.headLostDuring n side) := statement_of_wellFormed rfl (by simp)

theorem admissionRequest (n : LaneId) : Statement (.admissionRequest n) := statement_of_wellFormed rfl (by simp)

theorem journalAdmissionCheck (n : LaneId) : Statement (.journalAdmissionCheck n) := statement_of_wellFormed rfl (by simp)

theorem hotlistLookup (n : LaneId) : Statement (.hotlistLookup n) := statement_of_wellFormed rfl (by simp)

theorem claimRequest (n : LaneId) : Statement (.claimRequest n) := statement_of_wellFormed rfl (by simp)

theorem claimRelease (n : LaneId) : Statement (.claimRelease n) := statement_of_wellFormed rfl (by simp)

theorem resolutionRequest (n : LaneId) : Statement (.resolutionRequest n) := statement_of_wellFormed rfl (by simp)

theorem reservationRequest (n : LaneId) : Statement (.reservationRequest n) := statement_of_wellFormed rfl (by simp)

theorem grantPush (n : LaneId) : Statement (.grantPush n) := statement_of_wellFormed rfl (by simp)

theorem seenUpdate (n : LaneId) : Statement (.seenUpdate n) := statement_of_wellFormed rfl (by simp)

theorem passageForfeitureUpdate : Statement .passageForfeitureUpdate := statement_of_wellFormed rfl (by simp)

theorem localAddition (n : LaneId) : Statement (.localAddition n) := statement_of_wellFormed rfl (by simp)

theorem incidentQuery (n : LaneId) : Statement (.incidentQuery n) := statement_of_wellFormed rfl (by simp)

theorem journalAppend (n : LaneId) : Statement (.journalAppend n) := statement_of_wellFormed rfl (by simp)

theorem noticeEvent : Statement .noticeEvent := statement_of_wellFormed rfl (by simp)

theorem openTimerExpiry (n : LaneId) : Statement (.openTimerExpiry n) := statement_of_wellFormed rfl (by simp)

theorem motionTimerExpiry (n : LaneId) : Statement (.motionTimerExpiry n) := statement_of_wellFormed rfl (by simp)

theorem actuatorReport (n : LaneId) (gsa gsb : Bool) : Statement (.actuatorReport n gsa gsb) := statement_of_wellFormed rfl (by simp)

theorem beamBroken (n : LaneId) (side : Side) : Statement (.beamBroken n side) := statement_of_wellFormed rfl (by simp)

theorem beamClear (n : LaneId) (side : Side) : Statement (.beamClear n side) := statement_of_wellFormed rfl (by simp)

theorem passageCompleted (n : LaneId) : Statement (.passageCompleted n) := statement_of_wellFormed rfl (by simp)

theorem emrgnChange (low : Bool) : Statement (.emrgnChange low) := statement_of_wellFormed rfl (by simp)

theorem emergencyAssertionTaken : Statement .emergencyAssertionTaken := statement_of_wellFormed rfl (by simp)

theorem emergencyReleaseTaken : Statement .emergencyReleaseTaken := statement_of_wellFormed rfl (by simp)

theorem gateTakesAssertion (n : LaneId) : Statement (.gateTakesAssertion n) := statement_of_wellFormed rfl (by simp)

theorem gateTakesRelease (n : LaneId) : Statement (.gateTakesRelease n) := statement_of_wellFormed rfl (by simp)

theorem engineTakesAssertion (n : LaneId) : Statement (.engineTakesAssertion n) := statement_of_wellFormed rfl (by simp)

theorem engineTakesRelease (n : LaneId) : Statement (.engineTakesRelease n) := statement_of_wellFormed rfl (by simp)

theorem incidentTakesAssertion : Statement .incidentTakesAssertion := statement_of_wellFormed rfl (by simp)

theorem incidentTakesRelease : Statement .incidentTakesRelease := statement_of_wellFormed rfl (by simp)

theorem clockSecond : Statement .clockSecond := statement_of_wellFormed rfl (by simp)

theorem fareTableActivation : Statement .fareTableActivation := statement_of_wellFormed rfl (by simp)

theorem slotExpiry : Statement .slotExpiry := statement_of_wellFormed rfl (by simp)

theorem seenSweep : Statement .seenSweep := statement_of_wellFormed rfl (by simp)

end Sys2Proof.Laws.Table
end

