-- ==== Sys2Proof/Laws/Requests.lean ====
section
/-! SUPPORT. How the Request Processor runs and answers a request that it takes (R173 to R175). -/
namespace Sys2Proof.Machine

theorem whenPowered_of {s : State} (h : s.powered = true) (f : State → State) : whenPowered f s = .next (f s) := by
  simp [whenPowered, h]

theorem whenPowered_off {s : State} (h : s.powered = false) (f : State → State) : whenPowered f s = .next s := by
  simp [whenPowered, h]

theorem serve_of_fronts {s : State} {code : Byte} {r : Request} {rest : List (List Byte)} (h : s.fronts code r rest)
    (run : Request → State → State × Answer) :
    serve code run s = (s.takeRequest r rest).runRequest r run := by
  obtain ⟨_, hf, hq, ht, hr, hc⟩ := h
  unfold serve
  rw [hq]
  simp only [ht]
  rw [← hr]
  simp [hf, hc]

@[simp] theorem setSense_proc_tracker (s : State) (t : Target) (x : Option Sense) :
    (s.setSense t x).proc.tracker = s.proc.tracker ∧ (s.setSense t x).proc.lastCompletion = s.proc.lastCompletion ∧
    (s.setSense t x).proc.initStage = s.proc.initStage := by
  cases t <;> simp [State.setSense]

/-- Taking a request leaves all but the frame's place and the target's sense record. -/
@[simp] theorem takeRequest_fields (s : State) (r : Request) (rest : List (List Byte)) :
    (s.takeRequest r rest).proc.tracker = s.proc.tracker ∧ (s.takeRequest r rest).lanes = s.lanes ∧
    (s.takeRequest r rest).proc.lastCompletion = s.proc.lastCompletion ∧
    (s.takeRequest r rest).proc.initStage = s.proc.initStage ∧ (s.takeRequest r rest).link.requests = rest := by
  unfold State.takeRequest
  split
  · simp
  · cases r.target <;> simp [State.setSense]

theorem busyFor_congr {s t : State} (hl : t.lanes = s.lanes) (ht : t.proc.tracker = s.proc.tracker) (r : Request) :
    t.busyFor r = s.busyFor r := by
  unfold State.busyFor State.initialising State.lane
  rw [hl, ht]

theorem runRequest_of_takes {s : State} {code : Byte} {r : Request} {rest : List (List Byte)} (h : s.takes code r rest)
    (run : Request → State → State × Answer) :
    (s.takeRequest r rest).runRequest r run =
      (run r (s.takeRequest r rest)).1.answer r.tag r.target (run r (s.takeRequest r rest)).2 := by
  obtain ⟨_, hr, hb⟩ := h
  have f := takeRequest_fields s r rest
  simp [State.runRequest, hr, busyFor_congr f.2.1 f.1, hb]

/-- A request that runs: its command on the state without its frame and its target's sense, then its answer. -/
theorem serve_of_takes {s : State} {code : Byte} {r : Request} {rest : List (List Byte)} (h : s.takes code r rest)
    (run : Request → State → State × Answer) :
    whenPowered (serve code run) s =
      .next ((run r (s.takeRequest r rest)).1.answer r.tag r.target (run r (s.takeRequest r rest)).2) := by
  rw [whenPowered_of h.1.1, serve_of_fronts h.1, runRequest_of_takes h]

/-- A protected request that runs: CHECK, store protected, at a low NVWP; else its command and its answer (R196). -/
theorem serveProtected_of_takes {base : State} {nvwp : Bool} {code : Byte} {r : Request} {rest : List (List Byte)}
    (h : ({ base with nvwp := nvwp } : State).takes code r rest) (run : Request → State → State × Answer) :
    let u := ({ base with nvwp := nvwp } : State).takeRequest r rest
    serveProtected code run nvwp base =
      .next (if nvwp then (run r u).1.answer r.tag r.target (run r u).2 else u.checked r storeProtected) := by
  have hn : (({ base with nvwp := nvwp } : State).takeRequest r rest).nvwp = nvwp := by
    unfold State.takeRequest
    split
    · rfl
    · cases r.target <;> rfl
  unfold serveProtected
  rw [serve_of_takes h]
  unfold protectedBy
  rw [hn]
  cases nvwp <;> rfl

end Sys2Proof.Machine
end

