-- ==== Sys2Proof/Tests/Slice0.lean ====
section
/-! SUPPORT. Tests: the form of commands, one step on a small state for most commands, and for each statement with hypotheses a
concrete state that meets them, at the values where its clauses meet. -/

namespace Sys2Proof.Tests

open Sys2Proof.Machine

set_option Elab.async false

/-! ### Small states -/

/-- The answer is a next state with a property. -/
def nextIs (o : Host.Outcome State Fault Refusal) (p : State → Bool) : Bool :=
  match o with
  | .next t => p t
  | _ => false

/-- A product: stored value, privilege 0, no discount, floor 0, no transfer window, no cap. -/
def ride : Product := ⟨.storedValue, 0, 0, 0, 0, 65535⟩

/-- A small verified table of version 7 at station 3, zone 1. -/
def table : FareTable :=
  ⟨7, 3, 1, 0, 200, 0, 0, [(0, .peak)], List.replicate 256 150, List.replicate 256 100, List.replicate 32 300,
   [some ride, none]⟩

/-- A port whose head is READY. -/
def readyPort : Port := { Port.reset with state := .ready, exchange := none }

/-- A gate in service, closed, with its actuator at CLOSED. -/
def closedGate : Gate := { Lane.reset.gate with state := .closed, motion := none }

/-- A lane in service. -/
def lane : Lane :=
  { Lane.reset with
    config := { LaneConfig.delivered with service := true }
    portS := readyPort, portP := readyPort, gate := closedGate
    inputs := ⟨false, false, false, true⟩ }

/-- A READY part at time 100,000 with every lane in service. -/
def part : State :=
  { State.reset with
    clock := ⟨100000, true, 0, 0⟩
    fare := ⟨some table, .none, none⟩
    keys := Vector.replicate 4 (some ⟨1, List.replicate 16 0x5A#8⟩)
    lanes := Vector.replicate 8 lane }

/-- Lane 0 of the READY part changed. -/
def withLane (f : Lane → Lane) : State := part.setLane 0 (f lane)
def withGate (f : Gate → Gate) : State := withLane (fun l => { l with gate := f l.gate })
def withEngine (f : Engine → Engine) : State := withLane (fun l => { l with engine := f l.engine })

/-- The body of a request of tag 9: parameters from offset 4, zeros up to offset 10. -/
def request (t code : Byte) (params : List Byte) : List Byte := ([1, 9, t, code] ++ params ++ List.replicate 6 0).take 10

/-- The body of a request with a data block. -/
def dataRequest (t code : Byte) (params data : List Byte) : List Byte := request t code params ++ be 2 data.length ++ data

/-- Open LOADED incidents numbered from 1. -/
def fullList (k : Nat) : List Incident := (List.range' 1 k).map (fun i => ⟨i, 3, 5, none, .waive, .loaded⟩)

/-- Sixteen incidents of which the fourth alone has an end. -/
def endedAt3 : List Incident := fullList 3 ++ ⟨4, 3, 5, some 6, .waive, .loaded⟩ :: fullList 12

/-- An open local incident. -/
def openLocal : Incident := ⟨1, 3, 5, none, .waive, .fromLine⟩

/-- A state with one frame in the request queue. -/
def asked (s : State) (frame : List Byte) : State := { s with link := { s.link with requests := [frame] } }

/-- The state with this frame takes it as a request of its code, whose command runs. -/
abbrev runs (s : State) (t : Target) (frame : List Byte) : Prop :=
  (asked s frame).takes (byteAt frame 3) (Request.ofFrame frame t) []

/-- The reply that a step places. -/
def replies (o : Host.Outcome State Fault Refusal) (body : List Byte) : Bool :=
  nextIs o (fun t => t.link.replies == [⟨false, body⟩])

/-- A card's 64 bytes: format 1, identity 5, generation 1, expiry day 65,535, product 0, counter, balance; no trip. -/
def card (counter balance : Nat) : List Byte :=
  [1] ++ be 8 5 ++ [1] ++ be 2 65535 ++ [0] ++ be 3 counter ++ be 3 balance ++ List.replicate 45 0

/-- A grant of an identity, entry, paid. -/
def grant (id : Identity) : Grant := ⟨some id, .entry, .paid, 99000, some 1⟩

/-- The fields of a torn write of card 5. -/
def torn : SlotFields := ⟨5, 0, .entry, 10, 11, 150, List.replicate 64 0⟩

/-- An engine that reads the card of identity 5 at side S. -/
def engineAt (phase : Phase) (a : Awaiting) : Engine :=
  { Engine.reset with
    phase := phase, awaiting := a, side := some .s, presence := some (.card 5), identity := some 5, direction := some .entry,
    admissionTime := some 99990, boundVersion := some 7, boundLevel := some 3, image := some (card 10 1000), verified := true }

/-- A journal in its write reserve by its sequence: three records of the last sixteen numbers. -/
def lateJournal : Journal := { State.reset.journal with records := [], next := 4294967280 }

/-! ### The form of commands -/

/-- The check refuses a DATA of 63 bytes, and passes one of 64. -/
theorem test_ill_formed_data : (Instr.headData 0 .s (List.replicate 63 0)).wellFormed = false ∧
    (Instr.headData 0 .s (List.replicate 64 0)).wellFormed = true ∧ Instr.powerLoss.wellFormed = true := by decide

/-- exec turns the ill-formed one away. -/
theorem test_ill_formed_data_refused : exec (.headData 0 .s (List.replicate 63 0)) State.reset = .refused .malformedRecord := rfl

/-- No word spells a command. -/
theorem test_no_word : decodeTableWord 8 0 = none ∧ State.reset.withFetchWord 8 0 = State.reset := by decide +kernel

/-- The base state is READY, and its lanes take cards. -/
theorem test_part_ready : part.ready = true := by decide +kernel

/-! ### One step -/

/-- A delivered part's first power-on is State.reset. -/
theorem test_power_on :
    nextIs (exec (.powerOn true true true)
      { State.reset with powered := false, journal := { State.reset.journal with records := [], next := 1 } })
      (fun t => t == State.reset) = true := by decide +kernel

theorem test_power_loss : nextIs (exec .powerLoss part) (fun t => !t.powered && t.clock.time == 0 && t.journal == part.journal) = true := by
  decide +kernel

theorem test_receive_character :
    nextIs (exec (.receiveCharacter (.char 0xF5)) part) (fun t => t.link.framer == .body []) = true := by decide +kernel

theorem test_transmit_frame :
    nextIs (exec .transmitFrame { part with link := { part.link with replies := [⟨false, [2, 9, 0]⟩] } })
      (fun t => t.link.replies == [] && t.link.sending == some (wireBytes [2, 9, 0])) = true := by decide +kernel

theorem test_frame_send_complete :
    nextIs (exec .frameSendComplete { part with link := { part.link with sending := some [] } })
      (fun t => t.link.sending == none) = true := by decide +kernel

theorem test_unknown_command : replies (exec .unknownCommand (asked part (request 0x0F 0x07 []))) [2, 9, 1] = true := by decide +kernel

theorem test_ready : replies (exec .testReady (asked part (request 0x0F 0x01 []))) [2, 9, 0] = true := by decide +kernel

/-- A part after reset lacks the time, a fare table and a key: information 7, detail 20H. -/
theorem test_ready_reasons :
    nextIs (exec .testReady (asked State.reset (request 0x0F 0x01 [])))
      (fun t => t.proc.partSense == some ⟨.notReady, 0x20, none, some 7⟩) = true := by decide +kernel

theorem test_request_sense :
    replies (exec .requestSense (asked (part.setSense .part (some ⟨.orderError, 0x0C, some 4, some 258⟩)) (request 0x0F 0x02 [])))
      [2, 9, 0, 0x03, 0x0C, 3, 4, 0, 0, 1, 2] = true := by decide +kernel

theorem test_read_lane_length : nextIs (exec .readLane (asked part (request 0 0x2D [0])))
    (fun t => t.link.replies.all (fun r => r.body.length == 252)) = true := by decide +kernel

/-- A step of 300 seconds back is taken as a hold, one of 301 is refused. -/
theorem test_set_time_back : nextIs (exec .setTime (asked part (request 0x0F 0x04 (be 4 99700))))
    (fun t => t.clock == ⟨100000, true, 300, 0⟩) = true := by decide +kernel

theorem test_set_time_too_large : nextIs (exec .setTime (asked part (request 0x0F 0x04 (be 4 99699))))
    (fun t => t.clock == part.clock && t.proc.partSense == some ⟨.illegalRequest, 0x17, some 4, some 100000⟩) = true := by
  decide +kernel

theorem test_set_parameters : nextIs (exec .setParameters (asked part (request 0x0F 0x05 ([0] ++ be 2 5))))
    (fun t => t.window == 5) = true := by decide +kernel

theorem test_read_conditions :
    replies (exec .readConditions (asked { part with notices := { part.notices with conditions := [⟨.gateFault, .lane 3, 2, 5, 6⟩] } }
      (request 0x0F 0x06 [1]))) ([2, 9, 0, 1, 0, 0x04, 0x03, 2] ++ be 4 5 ++ be 4 6) = true := by decide +kernel

theorem test_read_journal : replies (exec .readJournal (asked part (request 0x0F 0x08 (be 4 1 ++ [1]))))
    ([2, 9, 0, 1] ++ be 4 1 ++ be 4 1 ++ be 2 1 ++ be 4 0 ++ (part.journal.records.flatMap JRecord.bytes)) = true := by decide +kernel

theorem test_release_journal : nextIs (exec .releaseJournal (asked part (request 0x0F 0x09 (be 4 1))))
    (fun t => t.journal.records == [] && t.journal.next == 2) = true := by decide +kernel

theorem test_hotlist_begin : nextIs (exec .hotlistBegin (asked part (request 0x0F 0x10 (be 2 4 ++ be 2 2))))
    (fun t => t.hot.load == .loading 4 2 0 none) = true := by decide +kernel

/-- A segment that falls back at its second identity abandons the load, with the position as information. -/
theorem test_hotlist_segment_order :
    nextIs (exec .hotlistSegment (asked { part with hot := { part.hot with load := .loading 4 2 0 none } }
      (dataRequest 0x0F 0x41 [0] (be 8 6 ++ be 8 5))))
      (fun t => t.hot.load == .idle && t.proc.partSense == some ⟨.illegalRequest, 0x09, none, some 1⟩) = true := by decide +kernel

theorem test_hotlist_verification_end :
    nextIs (exec (.hotlistVerificationEnd true)
      { part with
        hot := { part.hot with standby := ⟨none, [5, 6]⟩, load := .verifying 4 2 2 }
        proc := { part.proc with tracker := some ⟨9, 0x41, false⟩ } })
      (fun t => t.hot.active == ⟨some 4, [5, 6]⟩ && t.link.completion == some [3, 9, 0x41, 0]) = true := by decide +kernel

theorem test_local_list_remove :
    nextIs (exec .localListRemove (asked { part with hot := { part.hot with locals := [⟨0x0A00000005, 1, 0⟩] } }
      (request 0x0F 0x13 ([0] ++ be 5 0x0A00000005)))) (fun t => t.hot.locals == []) = true := by decide +kernel

theorem test_find_card :
    nextIs (exec .findCard (asked { part with hot := { part.hot with active := ⟨some 4, [5]⟩ } } (request 0x0F 0x14 (be 6 5))))
      (fun t => t.link.replies.all (fun r => (r.body.take 14) == [2, 9, 0, 1, 0] ++ be 8 5 ++ [0x08])) = true := by decide +kernel

theorem test_fare_begin : nextIs (exec .fareBegin (asked part (request 0x0F 0x18 (be 2 8))))
    (fun t => t.fare.pending == .loading 8 (Vector.replicate 6 none)) = true := by decide +kernel

theorem test_incident_add :
    replies (exec .incidentAdd (asked part (dataRequest 0x0F 0x44 [1] (be 2 12 ++ be 4 90000)))) [2, 9, 0, 0, 1] = true := by
  decide +kernel

theorem test_configure_lane_range :
    nextIs (exec .configureLane (asked part (request 0 0x28 [2, 3, 31, 15, 18])))
      (fun t => t.sense (.lane 0) == some ⟨.illegalRequest, 0x01, some 6, none⟩) = true := by decide +kernel

theorem test_lane_service_off : nextIs (exec .laneService (asked part (request 0 0x29 [0])))
    (fun t => (t.lane 0).gate.state == .outOfService && !(t.lane 0).config.service) = true := by decide +kernel

theorem test_grant_passage : nextIs (exec .grantPassage (asked part (request 0 0x2C [0])))
    (fun t => (t.lane 0).gate.queue == [⟨none, .entry, .staff, 100000, some 2⟩] && (t.lane 0).gate.openTimer == some 8000 &&
      (t.lane 0).gate.lock == .s && (t.lane 0).gate.command == .opened) = true := by decide +kernel

theorem test_reset_lane : nextIs (exec .resetLane (asked part (request 0 0x2E [])))
    (fun t => (t.lane 0).portS.state == .polling && (t.lane 0).gate.state == .closed && (t.lane 0).resetting == none) = true := by
  decide +kernel

theorem test_head_present : nextIs (exec (.headPresent 0 .s 5) part)
    (fun t => (t.lane 0).engine.phase == .admitting && (t.lane 0).engine.identity == some 5) = true := by decide +kernel

/-- A lane whose engine has its claim to release before the reset taken is made, with an offer of before it at side S. -/
def resettingLane : State := withLane (fun l => { l with
  engine := { engineAt .finishing .nothing with duties := [.releaseClaim] }, resetting := some .lane
  waiting := [⟨.s, .card 6, false⟩] })

/-- An offer made during a lane reset waits at its port (R43). -/
theorem test_present_in_reset : nextIs (exec (.headPresent 0 .p 9) resettingLane)
    (fun t => (t.lane 0).waiting == [⟨.s, .card 6, false⟩, ⟨.p, .card 9, true⟩] && (t.lane 0).engine.phase == .finishing) = true := by
  decide +kernel

/-- When the reset is complete the engine takes that offer; the older one is withdrawn, and the ports have re-polled (R13, R137). -/
theorem test_reset_keeps_new_offer : nextIs (exec (.claimRelease 0)
      (resettingLane.updLane 0 (fun l => { l with waiting := l.waiting ++ [⟨.p, .card 9, true⟩] })))
    (fun t => (t.lane 0).engine.phase == .admitting && (t.lane 0).engine.side == some .p && (t.lane 0).engine.identity == some 9 &&
      (t.lane 0).waiting == [] && (t.lane 0).resetting == none && (t.lane 0).portP.presence == .none &&
      (t.lane 0).portP.state == .polling) = true := by decide +kernel

theorem test_admission : nextIs (exec (.admissionRequest 0) (withEngine (fun _ => engineAt .admitting .admission)))
    (fun t => (t.lane 0).gate.lock == .s && (t.lane 0).gate.place && (t.lane 0).engine.awaiting == .journal) = true := by
  decide +kernel

theorem test_claim_refused_elsewhere :
    nextIs (exec (.claimRequest 0) ((withEngine (fun _ => engineAt .checking .claim)).setClaim 1 (some 5)))
      (fun t => (t.lane 0).engine.refusal == some .inUseElsewhere && (t.lane 0).engine.clone) = true := by decide +kernel

/-- A resolution of a torn write whose new counter is on the card is LANDED: a re-grant, the slot free. -/
theorem test_resolution_landed :
    nextIs (exec (.resolutionRequest 0)
      ((withEngine (fun _ => { engineAt .resolving .resolution with image := some (card 11 850) })).setSlot 2
        (.opened { torn with newImage := card 11 850 } false none none)))
      (fun t => t.slot 2 == .free && (t.lane 0).engine.grantKind == some .recovered && (t.lane 0).engine.related == some 2) = true := by
  decide +kernel

theorem test_seen_update : nextIs (exec (.seenUpdate 0) (withEngine (fun _ => { engineAt .finishing .nothing with
      grantKind := some .paid, duties := [.seenUpdate, .push] })))
    (fun t => t.seen.entries == [⟨5, 11, 100000, 0, .entry, .granted, false, none⟩]) = true := by decide +kernel

theorem test_grant_push : nextIs (exec (.grantPush 0) (withEngine (fun _ => { engineAt .finishing .nothing with
      grantKind := some .paid, duties := [.push] })))
    (fun t => (t.lane 0).gate.state == .opened && (t.lane 0).engine.phase == .idle && (t.lane 0).portS.releases == [.go]) = true := by
  decide +kernel

/-- The offer that waits at the end of a transaction of a part that is no longer READY: RELEASE GO, then RELEASE STOP. -/
theorem test_go_then_stop : nextIs (exec (.grantPush 0) { withLane (fun l => { l with
      engine := { engineAt .finishing .nothing with grantKind := some .paid, duties := [.push] }, waiting := [⟨.s, .card 6, false⟩] }) with
      keys := Vector.replicate 4 none })
    (fun t => (t.lane 0).portS.releases == [.go, .stop]) = true := by decide +kernel

/-- A lane 0 in WRITING with slot 2 RESERVED, its claim held and the WRITE outstanding. -/
def writing (bound : Option Nat) : State :=
  ((withLane (fun l => { l with
    portS := { readyPort with exchange := some ⟨.write [], 250⟩ }
    engine := { engineAt .writing .nothing with slot := some 2, boundVersion := bound } })).setSlot 2 (.reserved torn)).setClaim 0 (some 5)

/-- LOST-BEFORE frees the slot and appends CARD REMOVED in one step. -/
theorem test_lost_before : nextIs (exec (.headLostBefore 0 .s) (writing (some 7)))
    (fun t => t.slot 2 == .free && (t.lane 0).engine.duties == [.seenUpdate, .releaseClaim] &&
      t.journal.records.drop 1 == [⟨2, 100000, some 0, RecordFlags.clear, .card ⟨.refused, some .cardRemoved, 5, .entry, 0, 10, none, 0,
        1000, 1000, 7, 0, 0, none⟩⟩]) = true := by decide +kernel

theorem test_notice_event : nextIs (exec .noticeEvent (part.raise .gateFault (.lane 3) []))
    (fun t => t.notices.conditions == [⟨.gateFault, .lane 3, 1, 100000, 100000⟩] &&
      t.notices.pending == [⟨.gateFault, .lane 3, 1, 100000, 100000, []⟩] && t.notices.inbox == []) = true := by decide +kernel

theorem test_open_timer : nextIs (exec (.openTimerExpiry 0) (withGate (fun g =>
      { g with state := .opened, command := .opened, openTimer := some 0, queue := [grant 5] })))
    (fun t => (t.lane 0).gate.state == .closed && (t.lane 0).counters.forfeited == 1 && t.seen.inbox == [⟨false, 5, 0, .entry, 100000⟩]) =
    true := by decide +kernel

/-- A forfeiture update taken at 100,000 gives the entry the time it carries, that of the forfeiture. -/
theorem test_update_time :
    nextIs (exec .passageForfeitureUpdate { part with
      seen := ⟨[⟨5, 10, 99000, 0, .entry, .granted, false, none⟩], [⟨false, 5, 0, .entry, 99990⟩], false⟩ })
      (fun t => t.seen.entries == [⟨5, 10, 99990, 0, .entry, .unused, false, none⟩] && t.seen.inbox == []) = true := by decide +kernel

/-- Two RESERVED slots found at power-on are opened in ascending order (log 52). -/
theorem test_power_on_slots :
    nextIs (exec (.powerOn true true true) ((part.setSlot 6 (.reserved torn)).setSlot 2 (.reserved { torn with identity := 6 })))
      (fun t => t.seen.entries.map (fun e => (e.identity, e.tearPending)) == [(6, some 2), (5, some 6)]) = true := by decide +kernel

/-- The open and the motion timer expire at once: the motion expiry comes first and puts the gate in FAULT (log 3). -/
theorem test_both_gate_timers :
    ((withGate (fun g => { g with state := .opened, command := .opened, openTimer := some 0, motion := some 0 })).lane 0).gate.due 0 =
      [.motionTimerExpiry 0, .openTimerExpiry 0] := by decide +kernel

/-- A beam broken at a gate in CLOSED whose report is lost leaves its command. -/
theorem test_beam_in_closed : nextIs (exec (.beamBroken 0 .s) (withGate (fun g => { g with motion := some 900 })))
    (fun t => (t.lane 0).gate.command == .closed && (t.lane 0).gate.motion == some 900) = true := by decide +kernel

/-- A tap between the gate's taking of a release and the engine's is admitted; one before the gate's taking of an assertion is not. -/
theorem test_admission_at_the_line :
    nextIs (exec (.admissionRequest 0)
        (withEngine (fun _ => { engineAt .admitting .admission with lineTaken := true, lineIn := [.release] })))
      (fun t => (t.lane 0).engine.awaiting == .journal) = true ∧
    nextIs (exec (.admissionRequest 0) (withLane (fun l => { l with
        engine := { engineAt .admitting .admission with lineTaken := true }, gate := { l.gate with lineIn := [.assertion] } })))
      (fun t => (t.lane 0).refusals[2] == 1) = true := by decide +kernel

/-- A reset in WRITING opens the slot and counts no refusal. -/
theorem test_reset_while_writing :
    nextIs (exec .resetLane (asked (((withEngine (fun _ => { engineAt .writing .nothing with slot := some 2 })).setSlot 2
        (.reserved torn)).setClaim 0 (some 5)) (request 0 0x2E [])))
      (fun t => t.slot 2 == .opened torn false (some 100000) (some 100020) && (t.lane 0).refusals.toList.all (· == 0) &&
        (t.lane 0).engine.duties == [.releaseClaim]) = true := by decide +kernel

/-- NVWP's level is that of the request: low turns it away, whatever the level before. -/
theorem test_store_protected :
    nextIs (exec (.setParameters false) (asked part (request 0x0F 0x05 ([0] ++ be 2 5))))
      (fun t => t.window == 20 && t.proc.partSense == some ⟨.notReady, 0x04, none, none⟩ && !t.nvwp) = true := by decide +kernel

/-- An update that leaves the counter unchanged, of an entry too old to stand: its mark of suspicion goes and a free value is used. -/
theorem test_seen_aged :
    nextIs (exec (.seenUpdate 0) ((withEngine (fun _ => { engineAt .finishing .nothing with
        refusal := some .counterRegression, duties := [.seenUpdate, .push] })).setEntries [⟨5, 77, 1, 0, .entry, .passed, true, none⟩]))
      (fun t => t.seen.entries.map (·.cloneSuspect) == [false] && t.free == 1) = true := by decide +kernel

theorem test_beams : nextIs (exec (.beamClear 0 .p) (withLane (fun l =>
      { l with monitor := ⟨.p2, false, some 700⟩, inputs := { l.inputs with beamP := true } })))
    (fun t => (t.lane 0).monitor.state == .clear && (t.lane 0).gate.passages == [⟨.entry, 700⟩]) = true := by decide +kernel

theorem test_forced_passage : nextIs (exec (.passageCompleted 0) (withGate (fun g => { g with passages := [⟨.exit, 500⟩] })))
    (fun t => (t.lane 0).counters.forced == 1 && t.notices.inbox == [⟨.forcedPassage, .lane 0, [1, 1, 0xF4]⟩]) = true := by
  decide +kernel

theorem test_emergency_taken :
    nextIs (exec .emergencyAssertionTaken { part with emergency := { part.emergency with rawLow := true, settling := some 0 } })
      (fun t => t.emergency.taken && t.emergency.assertedAt == some 100000 && (t.lane 7).gate.lineIn == [.assertion]) = true := by
  decide +kernel

theorem test_clock_second : nextIs (exec .clockSecond { part with clock := ⟨100019, true, 0, 1000⟩ })
    (fun t => t.clock == ⟨100020, true, 0, 0⟩ && t.seen.sweepDue) = true := by decide +kernel

theorem test_slot_expiry :
    nextIs (exec .slotExpiry (part.setSlot 2 (.opened torn false (some 99980) (some 100000))))
      (fun t => t.slot 2 == .free && t.notices.inbox == [⟨.tearUnresolved, .lane 0, be 8 5 ++ [2] ++ be 3 11⟩]) = true := by
  decide +kernel

set_option synthInstance.maxHeartbeats 400000
set_option synthInstance.maxSize 4000

/-! ### States that meet the statements' hypotheses -/

theorem test_meets_EmptyQueuePassesMillisecond :
    State.reset.pending = [] ∧ State.reset.powered = true ∧ { State.reset with powered := false }.pending = [] := by decide +kernel

theorem test_meets_WellFormedCommandsComplete :
    (Instr.headData 7 .p (List.replicate 64 255)).wellFormed = true ∧ (List.replicate 65 (0 : Byte)).length ≠ 64 ∧
    (List.replicate 63 (0 : Byte)).length ≠ 64 := by decide +kernel

theorem test_meets_CommandsKeepTheQueue : ∃ t, exec .transmitFrame part = .next t := ⟨_, rfl⟩

/-- A part with a journal, both banks, a local list, a marked seen entry, claims, a request, conditions and notices. -/
def full : State :=
  { part with
    pending := [.transmitFrame]
    journal := { State.reset.journal with records := [⟨4, 5, none, RecordFlags.clear, .timePowerOn⟩,
      ⟨5, 9, some 1, RecordFlags.clear, .emergencyStart⟩], next := 6, lastTime := 9 }
    hot := ⟨⟨some 1, [3, 4]⟩, ⟨none, [1, 2]⟩, false, .loading 2 3 2 (some 2), [⟨9, 1, 0⟩, ⟨10, 2, 1⟩]⟩
    claims := (Vector.replicate 8 none).set 2 (some 7) |>.set 5 (some 8)
    seen := ⟨[⟨5, 10, 99999, 0, .entry, .refused, false, some 2⟩, ⟨6, 1, 99999, 0, .exit, .passed, true, none⟩], [], false⟩
    recovery := (Vector.replicate 8 .free).set 2 (.opened torn false none none)
    link := { part.link with requests := [request 0 1 []], replies := [⟨false, [2, 9, 0]⟩, ⟨true, [2, 9, 4]⟩], discarded := 65535 }
    notices := ⟨[], [⟨.gateFault, .part, 255, 1, 2⟩], [⟨.gateFault, .part, 1, 1, 2, []⟩], deliveredLevels⟩ }

/-- The same with nothing on the link. -/
def stocked : State := { full with link := part.link }

theorem test_meets_StepKeepsJournalOrder : full.journal.wf ∧ ∃ t, step full = .next t :=
  ⟨by unfold Journal.wf; decide +kernel, ⟨_, rfl⟩⟩

theorem test_meets_StepKeepsHotListOrder : full.hot.wf ∧ ∃ t, step full = .next t :=
  ⟨by unfold HotStore.wf Bank.wf full HotLoad.wf; decide +kernel, ⟨_, rfl⟩⟩

theorem test_meets_StepKeepsClaimsApart : full.claimsApart ∧ ∃ t, step full = .next t := by
  refine ⟨?_, ⟨_, rfl⟩⟩
  have all : ∀ m n : LaneId, ((full.claim m).isSome ∧ full.claim m = full.claim n) → m = n := by decide +kernel
  intro m n id hm hn
  exact all m n ⟨by simp [hm], by rw [hm, hn]⟩

theorem test_meets_StepKeepsSeenTable : full.seenWf ∧ ∃ t, step full = .next t := by
  refine ⟨⟨by decide +kernel, by decide +kernel, ?_⟩, ⟨_, rfl⟩⟩
  intro e he i hi
  simp [full] at he
  rcases he with rfl | rfl
  · obtain rfl : i = 2 := by simpa using hi.symm
    exact ⟨torn, false, none, none, rfl, rfl⟩
  · simp at hi

theorem test_meets_StepKeepsLinkBounds : full.link.wf ∧ ∃ t, step full = .next t :=
  ⟨by unfold Link.wf requestShaped; decide +kernel, ⟨_, rfl⟩⟩

theorem test_meets_StepKeepsClockAndNotices : full.clock.wf ∧ full.notices.wf ∧ ∃ t, step full = .next t :=
  ⟨by unfold Clock.wf; decide +kernel, by unfold Notices.wf; decide +kernel, ⟨_, rfl⟩⟩

/-- The shortest and the longest request body, with three frames waiting. -/
theorem test_meets_FramesArriveWhole :
    part.powered = true ∧ part.link.framer = .hunt ∧ (List.replicate 3 (request 0 1 [])).length < 4 ∧
    (∀ k ∈ [10, 1098], let body := 0x01#8 :: List.replicate (k - 1) 0xF5#8
      10 ≤ body.length ∧ body.length + 2 ≤ 1100 ∧ byteAt body 0 = 0x01#8) := by decide +kernel

/-- A reply, a COMPLETION, two notices of which the later kind is the more urgent, and a busy line. -/
theorem test_meets_ArbiterChoosesTheFrame :
    full.link.sending = none ∧ full.link.replies = ⟨false, [2, 9, 0]⟩ :: [⟨true, [2, 9, 4]⟩] ∧
    part.link.sending = none ∧ part.link.replies = [] ∧ part.link.completion = none ∧
    (let l : Link := { part.link with completion := some [3, 9, 0x19, 0] }
     l.sending = none ∧ l.replies = [] ∧ l.completion ≠ none) ∧
    (let u : Notices := ⟨[], [], [⟨.gateFault, .part, 1, 1, 2, []⟩, ⟨.cloneAlarm, .part, 1, 1, 2, []⟩, ⟨.headFault, .part, 1, 1, 2, []⟩],
        deliveredLevels⟩
     u.level .gateFault < u.level .cloneAlarm ∧ u.level .headFault ≤ u.level .cloneAlarm ∧
     (u.pending.map (fun q => (q.kind, q.target))).Nodup) ∧
    { part.link with sending := some [] }.sending ≠ none := by decide +kernel

/-- A kind of level 0, and one that is latched already at its highest count. -/
theorem test_meets_NoticeUnitLatchesEvents :
    (full.raise .gateFault .part [1]).notices.wf ∧ (full.raise .gateFault .part [1]).notices.inbox = [⟨.gateFault, .part, [1]⟩] ∧
    full.powered = true ∧
    { part.notices with levels := Vector.replicate 16 0, inbox := [⟨.gateFault, .part, []⟩] }.wf := by
  refine ⟨by unfold Notices.wf; decide +kernel, by decide +kernel, by decide +kernel, by unfold Notices.wf; decide +kernel⟩

theorem test_meets_ReadinessIsTested :
    runs part .part (request 0x0F 0x01 []) ∧ runs State.reset .part (request 0x0F 0x01 []) ∧
    runs part (.lane 7) (request 7 0x01 []) ∧
    (∀ b ∈ [0x08#8, 0x0E#8, 0x10#8], frameTarget (request b 0x01 []) = none ∧ (asked part (request b 0x01 [])).processorFree = true) ∧
    (let f := request 0x0F 0x07 []; (asked part f).fronts 0x07 (Request.ofFrame f .part) [] ∧ commandKind 0x07 = none) ∧
    (let f := request 3 0x22 []; (asked part f).fronts 0x22 (Request.ofFrame f (.lane 3)) [] ∧ commandKind 0x22 = none) := by
  decide +kernel

/-- A frame to the wrong kind of target; one a byte too long, one with a data block at the limit, past it, and short of its length; a
lane being reset, a RUNNING INITIALISE STORE and an ENDED one; the command that is refused neither way. -/
theorem test_meets_ReadinessIsTested_refusals :
    let comes (s : State) (t : Target) (f : List Byte) : Prop := (asked s f).fronts (byteAt f 3) (Request.ofFrame f t) []
    let length (f : List Byte) := (Request.ofFrame f .part).body.length
    let data (f : List Byte) := (Request.ofFrame f .part).dataLength
    let section0 (k : Nat) := dataRequest 0x0F 0x42 [0] (List.replicate k 0)
    let reset := withLane (fun l => { l with resetting := some .lane })
    let store (ended : Bool) := { part with proc := { part.proc with tracker := some ⟨9, 0x21, ended⟩ } }
    (comes part (.lane 0) (request 0 0x04 []) ∧ comes part .part (request 0x0F 0x28 [])) ∧
    (comes part .part (request 0x0F 0x04 [] ++ [0]) ∧ length (request 0x0F 0x04 [] ++ [0]) = 11) ∧
    (∀ k ∈ [1024, 1025], comes part .part (section0 k) ∧ data (section0 k) = k ∧ length (section0 k) = 12 + k) ∧
    (comes part .part ((section0 9).take 20) ∧ data ((section0 9).take 20) = 9 ∧ length ((section0 9).take 20) = 20) ∧
    ((∀ c ∈ [0x01#8, 0x03#8, 0x29#8], comes reset (.lane 0) (request 0 c [])) ∧ (reset.lane 0).resetting = some .lane) ∧
    (comes (store false) .part (request 0x0F 0x04 []) ∧ (store false).proc.tracker = some ⟨9, 0x21, false⟩) ∧
    runs (store true) .part (request 0x0F 0x04 []) ∧ runs (store false) .part (request 0x0F 0x03 []) ∧
    runs part .part (section0 1024) := by
  refine ⟨?_, ?_, ?_, ?_, ?_, ?_, ?_, ?_, ?_⟩ <;> decide +kernel

/-- A REQUEST SENSE that runs, one of a wrong length, and one to a lane. -/
theorem test_meets_RequestSenseReturnsTheRecord :
    (let f := request 0x0F 0x02 []
     (asked part f).fronts 0x02 (Request.ofFrame f .part) [] ∧ (Request.ofFrame f .part).refusal = none) ∧
    (let f := request 0x0F 0x02 [] ++ [0]
     (asked part f).fronts 0x02 (Request.ofFrame f .part) [] ∧ (Request.ofFrame f .part).refusal ≠ none) ∧
    (let f := request 7 0x02 []
     (asked part f).fronts 0x02 (Request.ofFrame f (.lane 7)) [] ∧ (Request.ofFrame f (.lane 7)).refusal = none) ∧
    frameTarget (request 8 0x02 []) = none ∧ (asked part (request 8 0x02 [])).processorFree = true := by decide +kernel

theorem test_meets_ReportsReadTheState :
    runs part .part (request 0x0F 0x03 []) ∧ runs part (.lane 0) (request 0 0x03 []) ∧
    (∀ k ∈ [0#8, 1#8, 2#8], runs part (.lane 0) (request 0 0x2D [k]) ∧ (request 0 0x2D [k]).getD 4 9 = k) := by decide +kernel

theorem test_meets_FindCardListsWhatIsKnown : runs stocked .part (request 0x0F 0x14 (be 6 5)) ∧ stocked.matching 5 = [5] := by decide +kernel

/-- An identity with a seen entry and an OPEN slot, one with a claim, an active one, a local one at the list's head, and one unknown. -/
theorem test_meets_FindCardListsWhatIsKnown_findings :
    let s := stocked
    s.seenLookup 5 = some ⟨5, 10, 99999, 0, .entry, .refused, false, some 2⟩ ∧ s.slot 2 = .opened torn false none none ∧
    torn.identity = 5 ∧ (∀ j : SlotId, j < 2 → s.slot j = .free) ∧ (∀ n, s.claim n ≠ some 5) ∧
    s.claim 2 = some 7 ∧ (∀ m : LaneId, m < 2 → s.claim m ≠ some 7) ∧ s.seenLookup 7 = none ∧ 3 ∈ s.hot.active.ids ∧
    9 ∉ s.hot.active.ids ∧ s.hot.locals = [] ++ ⟨9, 1, 0⟩ :: [⟨10, 2, 1⟩] ∧
    11 ∉ s.hot.active.ids ∧ (∀ e ∈ s.hot.locals, e.identity ≠ 11) ∧ part.slot 2 = .free := by decide +kernel

/-- The finding of the first of them, byte by byte. -/
theorem test_finding : stocked.finding 5 =
    be 8 5 ++ [0x05] ++ ([0, 0, 10] ++ be 4 99999 ++ [0, 0, 3, 0, 2]) ++ [0] ++
    ([2, 0, 0, 0, 0, 10, 0, 0, 11, 0, 150, 0] ++ List.replicate 8 0) ++ List.replicate 9 0 := by decide +kernel

/-- Steps of −301, −300, −1 and 0 seconds. -/
theorem test_meets_SetTimeStepsTheClock :
    part.clock.valid = true ∧ part.clock.time = 100000 ∧
    ∀ v ∈ [99699, 99700, 99999, 100000], runs part .part (request 0x0F 0x04 (be 4 v)) ∧
      (Request.ofFrame (request 0x0F 0x04 (be 4 v)) .part).field 4 4 = v := by decide +kernel

/-- A first SET TIME below the start of the open local incident ends it with its value (log 56); with one owed and a WAITING table due,
the incident is opened under the active table's station code (log 57). -/
theorem test_first_time_at_the_list :
    let s := { part with clock := State.reset.clock }
    let f := request 0x0F 0x04 (be 4 50)
    nextIs (exec .setTime (asked { s with incidents := { s.incidents with entries := [{ openLocal with start := 90 }] } } f))
      (fun t => t.incidents.entries == [{ openLocal with start := 90, finish := some 50 }]) = true ∧
    nextIs (exec .setTime (asked { s with
        emergency := { s.emergency with owed := true }
        fare := { s.fare with pending := .waiting { table with version := 8, station := 4 } 40 } } f))
      (fun t => t.incidents.entries == [{ openLocal with station := 3, start := 50 }]) = true := by decide +kernel

/-- A first SET TIME one second behind the last record time and one at it; a hold, a highest time, an invalid clock. -/
theorem test_meets_ClockStartsAndRuns :
    let s := { State.reset with journal := { State.reset.journal with lastTime := 50 } }
    s.clock.valid = false ∧
    (∀ v ∈ [49, 50], runs s .part (request 0x0F 0x04 (be 4 v)) ∧
      (Request.ofFrame (request 0x0F 0x04 (be 4 v)) .part).field 4 4 = v) ∧
    s.journal.lastTime ≤ 50 ∧ 49 < s.journal.lastTime ∧ s.powered = true ∧ part.powered = true ∧
    50 + s.window ≤ Config.max32 ∧ s.emergency.owed = false ∧
    (let owed (es : List Incident) := { s with
       emergency := { s.emergency with owed := true }, incidents := { s.incidents with entries := es } }
     (∀ es ∈ [[], [openLocal], fullList 15, fullList 16, endedAt3], runs (owed es) .part (request 0x0F 0x04 (be 4 50))) ∧
     (owed []).emergency.owed = true) ∧
    (openLocal.origin = .fromLine ∧ openLocal.finish = none) ∧
    (∀ i ∈ fullList 16 ++ endedAt3, ¬ (i.origin = .fromLine ∧ i.finish = none)) ∧
    (fullList 15).length < 16 ∧ 16 ≤ (fullList 16).length ∧ (∀ i ∈ fullList 16, i.finish = none) ∧
    16 ≤ endedAt3.length ∧ endedAt3 = fullList 3 ++ ⟨4, 3, 5, some 6, .waive, .loaded⟩ :: fullList 12 ∧
    (∀ i ∈ fullList 3, i.finish = none) ∧ (∀ i ∈ fullList 16, i.number ≠ 1 + 17) := by decide +kernel

/-- Both ends of the ranges, and a value past each. -/
theorem test_meets_StoredSettingsKeepTheirRanges :
    (∀ x ∈ [(0, 4), (0, 5), (0, 120), (0, 121), (1, 9), (1, 10), (1, 1440), (1, 1441), (2, 1023), (2, 1024), (2, 32512), (2, 32513),
        (3, 0), (3, 32768), (3, 32769), (4, 0), (4, 32768), (4, 32769), (5, 0)],
      runs part .part (request 0x0F 0x05 (be 1 x.1 ++ be 2 x.2)) ∧
      (Request.ofFrame (request 0x0F 0x05 (be 1 x.1 ++ be 2 x.2)) .part).field 4 1 = x.1 ∧
      (Request.ofFrame (request 0x0F 0x05 (be 1 x.1 ++ be 2 x.2)) .part).field 5 2 = x.2) ∧
    (∀ k ∈ [3, 4], ∀ n ∈ [0, 15, 16, 17], runs part .part (dataRequest 0x0F 0x43 [k, 2] (List.replicate n 7))) := by decide +kernel

theorem test_meets_ConditionsAreReadAndLevelsStored :
    (∀ m ∈ [0#8, 1#8, 32#8, 33#8], runs stocked .part (request 0x0F 0x06 [m])) ∧
    (∀ n ∈ [15, 16, 17], ∀ b ∈ [7#8, 8#8], runs part .part (dataRequest 0x0F 0x40 [] (List.replicate n b))) := by decide +kernel

/-- READ JOURNAL and RELEASE JOURNAL of records 4 and 5: one below the oldest, the oldest, one past the newest, two past it. -/
theorem test_meets_JournalIsReadAndReleased :
    full.journal.wf ∧
    (let s := stocked
     (∀ q ∈ [2, 3, 4, 5, 6, 7], ∀ m ∈ [0#8, 1#8, 16#8, 17#8], runs s .part (request 0x0F 0x08 (be 4 q ++ [m]))) ∧
     (∀ q ∈ [2, 3, 5, 6], runs s .part (request 0x0F 0x09 (be 4 q))) ∧ s.journal.oldest = 4 ∧ s.journal.newest = 5) :=
  ⟨by unfold Journal.wf; decide +kernel, by decide +kernel⟩

/-- A record of the last sequence: a step back of one second, at lane 3. -/
theorem test_record_bytes :
    (⟨4294967295, 5, some 3, { RecordFlags.clear with clone := true }, .timeStep 6 (-1)⟩ : JRecord).bytes =
      [255, 255, 255, 255, 0, 0, 0, 5, 0x0A, 3, 0x02, 2, 0, 0, 0, 6, 255, 255, 255, 255] ++ List.replicate 28 0 ∧
    (2147483647 : Int) < 2147483648 := by decide +kernel

/-- Load states, a total at and past the capacity; segments of two identities: in order up to the total, in order and short at the end
mark, out of order, beyond the total, and an end mark while an operation is held. -/
theorem test_meets_HotListIsLoadedInOrder :
    (∀ n ∈ [16384, 16385], runs part .part (request 0x0F 0x10 (be 2 4 ++ be 2 n))) ∧
    (∀ m ∈ [0#8, 2#8], ∀ n ∈ [7, 8, 9], runs part .part (dataRequest 0x0F 0x41 [m] (List.replicate n 1))) ∧ part.hot.load = .idle ∧
    (let s (total : Nat) := { part with hot := { part.hot with standby := ⟨none, [4]⟩, load := .loading 4 total 1 (some 4) } }
     let f (m : Byte) (x y : Nat) := dataRequest 0x0F 0x41 [m] (be 8 x ++ be 8 y)
     let ids (x y : Nat) := identitiesOf (Request.ofFrame (f 0 x y) .part).data
     (s 3).nvwp = true ∧ (∀ m ∈ [0#8, 1#8], runs (s 3) .part (f m 5 6)) ∧ (Request.ofFrame (f 0 5 6) .part).dataLength % 8 = 0 ∧
     (s 3).proc.tracker.isNone = true ∧ { (s 3).proc with tracker := some ⟨1, 0x19, false⟩ }.tracker.isNone = false ∧
     ids 5 6 = [5, 6] ∧ ascending ((some 4).toList ++ ids 5 6) = true ∧ 1 + (ids 5 6).length ≤ 3 ∧ 1 + (ids 5 6).length ≠ 4 ∧
     ids 5 5 = [5] ++ 5 :: [] ∧ ascending ((some 4).toList ++ [5]) = true ∧ ascending ((some 4).toList ++ [5] ++ [5]) = false ∧
     ids 4 6 = [] ++ 4 :: [6] ∧ ascending ((some 4).toList ++ []) = true ∧ ascending ((some 4).toList ++ [] ++ [4]) = false ∧
     1 + [5#64].length = 2 ∧ ascending ((some 4).toList ++ [5] ++ [6]) = true) := by decide +kernel

theorem test_meets_HotListAbandonFollowsLoadState :
    ∀ l ∈ [HotLoad.idle, .loading 1 2 0 none, .verifying 1 2 2],
      runs { part with hot := { part.hot with load := l } } .part (request 0x0F 0x11 []) := by decide +kernel

/-- A bank that reads back, and one that does not: by its count, by its order, by the memory. -/
theorem test_meets_HotListVerificationSwapsBanks :
    let s (n : Nat) := { part with
      hot := { part.hot with standby := ⟨none, [5, 6]⟩, load := .verifying 4 n n }
      proc := { part.proc with tracker := some ⟨9, 0x41, false⟩ } }
    (s 2).powered = true ∧ (s 2).hot.load = .verifying 4 2 2 ∧ (s 2).proc.tracker = some ⟨9, 0x41, false⟩ ∧
    (s 2).hot.standby.ids.length = 2 ∧ ascending (s 2).hot.standby.ids = true ∧ (s 3).hot.standby.ids.length ≠ 3 ∧
    ascending [6, 5] = false := by decide +kernel

theorem test_meets_LocalListIsReadWhole : runs stocked .part (request 0x0F 0x12 []) := by decide +kernel

/-- The last position, the one past it, and a position whose identity differs. -/
theorem test_meets_LocalListRemovesAnEntry :
    ∀ x ∈ [(1, 10), (2, 10), (1, 9)], runs stocked .part (request 0x0F 0x13 (be 1 x.1 ++ be 5 x.2)) := by
  decide +kernel

theorem test_meets_FareBeginOpensALoad :
    (∀ v ∈ [7, 8], runs part .part (request 0x0F 0x18 (be 2 v))) ∧
    runs { part with fare := { part.fare with pending := .verifying 8 (Vector.replicate 6 none) 0 } } .part
      (request 0x0F 0x18 (be 2 8)) ∧
    runs { part with nvwp := false } .part (request 0x0F 0x18 (be 2 8)) := by decide +kernel

/-- Section 0 of its length and one byte longer, section 5, the number past the last, a repeated one, and no load. -/
theorem test_meets_FareSectionIsStored :
    let s := { part with fare := { part.fare with pending := .loading 8 (Vector.replicate 6 none) } }
    let t := { part with fare := { part.fare with pending := .loading 8 (Vector.replicate 6 (some [])) } }
    (∀ x ∈ [(0#8, 11), (0#8, 12), (5#8, 97), (6#8, 97)], runs s .part (dataRequest 0x0F 0x42 [x.1] (List.replicate x.2 0))) ∧
    runs t .part (dataRequest 0x0F 0x42 [0] (List.replicate 11 0)) ∧
    runs part .part (dataRequest 0x0F 0x42 [0] (List.replicate 11 0)) := by decide +kernel

/-- A commit in LOADING, with the tracker held, and with no load; verification of an incomplete table; a WAITING table one second
early, at its time, and while another retires. -/
theorem test_meets_FareTablesAreCommittedAndActivated :
    let f := request 0x0F 0x19 (be 4 100000)
    let s := { part with fare := { part.fare with pending := .loading 8 (Vector.replicate 6 none) } }
    let v := { part with
      fare := { part.fare with pending := .verifying 8 (Vector.replicate 6 none) 100000 }
      proc := { part.proc with tracker := some ⟨9, 0x19, false⟩ } }
    let w (e : Nat) := { part with fare := { part.fare with pending := .waiting { table with version := 8 } e } }
    runs s .part f ∧ runs { s with proc := v.proc } .part f ∧ runs part .part f ∧ v.powered = true ∧
    v.fare.pending = .verifying 8 (Vector.replicate 6 none) 100000 ∧ v.proc.tracker = some ⟨9, 0x19, false⟩ ∧
    (w 100000).fare.pending = .waiting { table with version := 8 } 100000 ∧ part.clock.valid = true ∧
    100000 ≤ (w 100000).clock.time ∧ ¬ 100001 ≤ (w 100001).clock.time ∧ (w 100000).fare.retiring = none ∧
    (w 100000).powered = true := by decide +kernel

/-- Sections of version 8 at station 3, zone 1, with the header's rest, a band table and a first product entry. -/
def sections (header band product : List Byte) : Sections :=
  let rest := List.replicate 279 0
  #v[some header, some (product ++ rest), some (List.replicate 288 0), some (List.replicate 512 1),
     some (List.replicate 512 1), some (List.replicate 64 2 ++ band ++ List.replicate (33 - band.length) 0)]

def header8 : List Byte := be 2 8 ++ be 2 3 ++ be 1 1 ++ be 2 200 ++ be 2 100 ++ [120, 120]
def bands2 : List Byte := [2] ++ be 3 25200 ++ [0] ++ be 3 34200 ++ [1]
def product0 : List Byte := [1, 0, 3, 100] ++ be 2 5000 ++ [240] ++ be 2 65535

/-- Sections that pass, at the limits of every range; the section that is missing; each test failed, at the values past the limits. -/
theorem test_meets_FareTablesAreCommittedAndActivated_tests :
    let first (h b p : List Byte) := verificationFailure 8 (sections h b p)
    let fails (part info : Nat) : Option Sense := some ⟨.illegalRequest, 0x08, some part, some info⟩
    first header8 bands2 product0 = none ∧ (tableOf (sections header8 bands2 product0)).product 0 =
      some ⟨.storedValue, 3, 100, 5000, 240, 65535⟩ ∧
    (tableOf (sections header8 bands2 product0)).bands = [(25200, .peak), (34200, .offpeak)] ∧
    verificationFailure 8 ((sections header8 bands2 product0).set 5 none) = some ⟨.orderError, 0x07, none, some 5⟩ ∧
    verificationFailure 8 (Vector.replicate 6 none) = some ⟨.orderError, 0x07, none, some 0⟩ ∧
    fieldAt (be 2 9 ++ header8.drop 2) 0 2 ≠ 8 ∧ first (be 2 9 ++ header8.drop 2) bands2 product0 = fails 0 9 ∧
    (∀ x ∈ [0, 65535], first (header8.take 2 ++ be 2 x ++ header8.drop 4) bands2 product0 = fails 0 2) ∧
    (∀ x ∈ [0, 17], first (header8.take 4 ++ be 1 x ++ header8.drop 5) bands2 product0 = fails 0 4) ∧
    first (header8.take 9 ++ [121, 120]) bands2 product0 = fails 0 9 ∧ first (header8.take 10 ++ [121]) bands2 product0 = fails 0 10 ∧
    (∀ x ∈ [0, 9], first header8 (be 1 x ++ bands2.drop 1) product0 = fails 5 x) ∧
    (∀ b ∈ [be 3 25200 ++ [1], be 3 86400 ++ [1], be 3 34200 ++ [2]], first header8 (bands2.take 5 ++ b) product0 = fails 5 1) ∧
    (∀ p ∈ [[2], [1, 5], [1, 0, 4], [1, 0, 3, 101], [1, 0, 3, 100, 19, 137], [1, 0, 3, 100, 19, 136, 241]],
      first header8 bands2 (p ++ product0.drop p.length) = fails 1 0) ∧
    first header8 bands2 (0 :: (product0.drop 1).map (fun _ => 255)) = none := by
  refine ⟨?_, ?_, ?_, ?_, ?_, ?_, ?_, ?_, ?_, ?_, ?_, ?_, ?_, ?_, ?_⟩ <;> decide +kernel

/-- Its cases: taken, store protected, the number of no station, a treatment past the last, a full list. -/
theorem test_meets_IncidentAddAppendsAnEntry :
    let f (t : Byte) (station : Nat) := dataRequest 0x0F 0x44 [t] (be 2 station ++ be 4 90000)
    let r (t : Byte) (station : Nat) := Request.ofFrame (f t station) .part
    let many := { part with incidents := { part.incidents with entries := List.replicate 16 ⟨1, 1, 1, none, .waive, .loaded⟩ } }
    let fifteen := { part with incidents := { part.incidents with entries := List.replicate 15 ⟨1, 1, 1, none, .waive, .loaded⟩ } }
    (∀ t ∈ [0#8, 1#8, 2#8], ∀ k ∈ [65534, 65535], runs part .part (f t k) ∧ (r t k).dataLength = 6 ∧ (r t k).field 12 2 = k ∧
      (r t k).byte 4 = t) ∧
    runs part .part (dataRequest 0x0F 0x44 [0] [0, 1, 0, 1, 95]) ∧ (∀ i ∈ fifteen.incidents.entries, i.number ≠ 2) ∧
    runs { part with nvwp := false } .part (f 0 1) ∧ runs many .part (f 0 1) ∧ runs fifteen .part (f 0 1) ∧ part.nvwp = true ∧
    16 ≤ many.incidents.entries.length ∧ fifteen.incidents.entries.length < 16 := by decide +kernel

/-- A LOADED incident closed at and before its start, one closed already, an open local one, and a number none has. -/
theorem test_meets_IncidentsAreClosedAndRemoved :
    let s := { part with incidents := { part.incidents with entries := [⟨1, 3, 90000, none, .waive, .loaded⟩,
      ⟨2, 3, 90000, some 90001, .waive, .loaded⟩, ⟨3, 3, 90000, none, .waive, .fromLine⟩] } }
    (∀ k ∈ [1, 2, 3, 4], ∀ t ∈ [89999, 90000], runs s .part (request 0x0F 0x1C (be 2 k ++ be 4 t))) ∧
    (∀ k ∈ [1, 2, 3, 4], runs s .part (request 0x0F 0x1D (be 2 k))) := by decide +kernel

theorem test_meets_IncidentReadReturnsTheList : runs part .part (request 0x0F 0x1E []) := by decide +kernel

/-- Offers at an idle lane that are kept: none, one, and one at each side of an ENTRY and of a BOTH lane; a part that is not READY. -/
theorem test_meets_ResetsActOnLanes_offers :
    let o (side : Side) (new : Bool) : Offer := ⟨side, .card 9, new⟩
    let s (m : DirMode) (w : List Offer) := withLane (fun l => { l with config := { l.config with mode := m }, waiting := w })
    let kept (m : DirMode) (w : List Offer) := (((s m w).lane 0).waiting.filter (fun o => o.inReset)).map
      (fun o => { o with inReset := false })
    (∀ m ∈ [DirMode.entry, .exit, .both], ∀ w ∈ [[], [o .s true], [o .p true, o .s true]],
      ((s m w).lane 0).engine.phase = .idle ∧ (s m w).ready = true ∧ ((s m w).lane 0).config.mode = m) ∧
    kept .both [o .s false] = [] ∧ kept .both [o .s false, o .p true] = [o .p false] ∧
    kept .entry [o .p true, o .s true] = [o .p false, o .s false] ∧ (o .p false).side ≠ (o .s false).side ∧
    { s .both [o .s true] with keys := Vector.replicate 4 none }.ready = false := by decide +kernel

/-- An idle lane and one in FINISHING; RESET PART with none under way, with one, and with an operation held, RUNNING and ENDED. -/
theorem test_meets_ResetsActOnLanes :
    let busy := withEngine (fun _ => { engineAt .finishing .nothing with duties := [.push] })
    let op (ended : Bool) := { part with proc := { part.proc with tracker := some ⟨9, 0x19, ended⟩ } }
    runs part (.lane 0) (request 0 0x2E []) ∧ (part.lane 0).engine.phase = .idle ∧
    runs busy (.lane 0) (request 0 0x2E []) ∧ (busy.lane 0).engine.phase = .finishing ∧
    runs part .part (request 0x0F 0x20 []) ∧ (∀ n, (part.lane n).resetting ≠ some .part) ∧
    (∀ b, runs (op b) .part (request 0x0F 0x20 [])) ∧
    (let s := busy.updLane 0 (fun l => { l with resetting := some .part })
     runs s .part (request 0x0F 0x20 []) ∧ (s.lane 0).resetting = some .part) ∧
    (∀ x ∈ [Phase.admitting, .reading, .checking, .resolving, .writing],
      ((withEngine (fun _ => engineAt x .nothing)).lane 0).engine.phase = x ∧
      runs (withEngine (fun _ => engineAt x .nothing)) (.lane 0) (request 0 0x2E [])) ∧
    (let s := withGate (fun g => { g with queue := [grant 5, grant 6] })
     (s.lane 0).engine.phase = .idle ∧ s.journal.gapCount = 0 ∧ s.journal.count + 2 + 1 ≤ 32752 ∧ s.journal.next + 2 + 1 ≤ 4294967280) ∧
    (let s := ((withEngine (fun _ => { engineAt .writing .nothing with slot := some 2 })).setSlot 2 (.reserved torn)).setClaim 0 (some 5)
     (s.lane 0).engine.phase = .writing ∧ (s.lane 0).engine.slot = some 2 ∧ s.slot 2 = .reserved torn ∧ s.claim 0 = some 5 ∧
     s.clock.valid = true ∧ s.clock.time + s.window ≤ Config.max32 ∧ { s with clock := ⟨0, false, 0, 0⟩ }.clock.valid = false) := by
  decide +kernel

/-- Each test of INITIALISE STORE, a free and a held tracker, the four clearing steps, a retiring table, and the end. -/
theorem test_meets_InitialiseStoreClearsInSteps :
    let f := request 0x0F 0x21 []
    let s := { part with journal := { part.journal with records := [] } }
    let held := { s with proc := { s.proc with tracker := some ⟨9, 0x19, true⟩ } }
    let step (k : Nat) := { s with proc := { s.proc with tracker := some ⟨9, 0x21, false⟩, initStage := k } }
    let open2 := s.setSlot 2 (.opened torn false none none)
    runs { s with nvwp := false } .part f ∧ runs part .part f ∧ part.journal.count ≠ 0 ∧ s.journal.count = 0 ∧ s.nvwp = true ∧
    runs open2 .part f ∧ open2.slot 2 = .opened torn false none none ∧ (∀ j, j < 2 → open2.slot j = .free) ∧
    (∀ j, s.slot j = .free) ∧ runs { s with emergency := { s.emergency with taken := true } } .part f ∧ s.emergency.taken = false ∧
    runs held .part f ∧ held.proc.tracker ≠ none ∧ runs s .part f ∧ s.proc.tracker = none ∧ s.ready = true ∧
    (∀ k ∈ [0, 1, 2, 3, 4], (step k).initialising = true ∧ (step k).proc.initStage = k ∧ (step k).powered = true) ∧
    (step 2).fare.retiring = none ∧ { (step 2).fare with retiring := some table }.retiring ≠ none ∧
    { (step 4).fare with active := none }.active = none := by decide +kernel

/-- CONFIGURE LANE at both ends of every range and past them; LANE SERVICE by value, service flag, gate state and readiness. -/
theorem test_meets_LanesAreConfigured :
    (∀ x ∈ [[0, 0, 2, 5, 5], [2, 3, 30, 50, 50], [3, 0, 2, 5, 5], [0, 4, 2, 5, 5], [0, 0, 1, 5, 5], [0, 0, 31, 5, 5],
        [0, 0, 2, 4, 5], [0, 0, 2, 51, 5], [0, 0, 2, 5, 4], [0, 0, 2, 5, 51]],
      runs part (.lane 0) (request 0 0x28 (x.map (BitVec.ofNat 8)))) ∧
    runs { part with nvwp := false } (.lane 0) (request 0 0x29 [0]) ∧
    (∀ b ∈ [0#8, 1#8, 2#8], runs part (.lane 0) (request 0 0x29 [b])) ∧ (part.lane 0).config.service = true ∧
    (part.lane 0).gate.state ≠ .fault ∧ (part.lane 0).gate.state ≠ .outOfService ∧
    (∀ x ∈ [GateState.fault, .outOfService],
      runs (withGate (fun g => { g with state := x })) (.lane 0) (request 0 0x29 [0]) ∧
      (let s := withLane (fun l => { l with gate := { l.gate with state := x }, config := LaneConfig.delivered })
       runs s (.lane 0) (request 0 0x29 [1]) ∧ (s.lane 0).config.service = false ∧ (s.lane 0).gate.state = x ∧ s.ready = true)) ∧
    runs State.reset (.lane 0) (request 0 0x29 [1]) ∧ State.reset.ready = false := by decide +kernel

theorem test_meets_StaffHoldsAndReleases :
    (∀ x ∈ [GateState.fault, .outOfService, .closed, .heldOpen], ∀ b ∈ [true, false],
      let s := withGate (fun g => { g with state := x, staffHold := b })
      runs s (.lane 0) (request 0 0x2A []) ∧ runs s (.lane 0) (request 0 0x2B [])) ∧
    runs (withGate (fun g => { g with state := .heldOpen, staffHold := true, queue := [grant 5] })) (.lane 0) (request 0 0x2B []) ∧
    runs (withGate (fun g => { g with state := .heldOpen, staffHold := true, emergency := true })) (.lane 0) (request 0 0x2B []) := by
  decide +kernel

/-- Directions 0, 1 and 2; a shut gate, the emergency, the other lock, one grant, one grant and a place, two grants, held open. -/
theorem test_meets_StaffGrantsPassage :
    (∀ b ∈ [0#8, 1#8, 2#8], runs part (.lane 0) (request 0 0x2C [b])) ∧
    (∀ g ∈ [{ closedGate with state := .fault }, { closedGate with emergency := true }, { closedGate with lock := .p },
        { closedGate with queue := [grant 5] }, { closedGate with queue := [grant 5], place := true },
        { closedGate with queue := [grant 5, grant 6] }, { closedGate with state := .heldOpen }],
      runs (withGate (fun _ => g)) (.lane 0) (request 0 0x2C [0])) := by decide +kernel

/-- The last append before the reserve, the first in it, the last sequence and the one past it, and a GAP record owed. -/
theorem test_meets_JournalDecidesAppends :
    let tear : RecordBody := .tear ⟨.landed, 5, 10, 11, 150, 0, .entry⟩
    ¬ (32752 ≤ lateJournal.count ∨ 4294967280 ≤ 4294967279) ∧ lateJournal.gapCount = 0 ∧ 4294967280 ≤ lateJournal.next ∧
    lateJournal.next ≤ 4294967295 ∧ lateJournal.count < 32768 ∧ tear.cardWrite = true ∧
    RecordBody.emergencyStart.cardWrite = false ∧
    (let j := { part.journal with gapCount := 2, firstDrop := some 5, lastDrop := some 6 }
     j.gapCount ≠ 0 ∧ j.firstDrop = some 5 ∧ j.lastDrop = some 6 ∧ ¬ (32752 ≤ j.count ∨ 4294967280 ≤ j.next)) := by decide +kernel

/-- A GAP record owed with two places before the reserve of sequence numbers, and with one. -/
theorem test_meets_JournalDecidesAppends_gap :
    let j (next : Nat) : Journal := { lateJournal with next := next, gapCount := 2, firstDrop := some 5, lastDrop := some 6 }
    (∀ k ∈ [4294967278, 4294967279], (j k).gapCount ≠ 0 ∧ (j k).firstDrop = some 5 ∧ (j k).lastDrop = some 6 ∧
      ¬ (32752 ≤ (j k).count ∨ 4294967280 ≤ (j k).next)) ∧
    (j 4294967278).count + 1 < 32752 ∧ (j 4294967278).next + 1 < 4294967280 ∧ ¬ (j 4294967279).next + 1 < 4294967280 := by
  decide +kernel

/-- Two grants, the count at most at its highest value, and room before the reserve for both records. -/
theorem test_meets_ForfeitureEmptiesTheQueue :
    let s := withGate (fun g => { g with queue := [grant 5, { grant 6 with identity := none }] })
    (s.lane 0).counters.forfeited + 2 ≤ 4294967295 ∧ s.journal.gapCount = 0 ∧ s.journal.count + 2 ≤ 32752 ∧
    s.journal.next + 2 ≤ 4294967280 := by decide +kernel

/-- A gate with nothing to hold its lock, and gates that hold it. -/
theorem test_meets_GateSettlesItsCommand :
    closedGate.queue = [] ∧ closedGate.place = false ∧ (lane.settle).gate.state ≠ .opened ∧ (lane.settle).gate.state ≠ .closing ∧
    ({ lane with gate := { closedGate with state := .opened } }.settle).gate.state = .opened ∧
    { closedGate with queue := [grant 5] }.queue ≠ [] ∧ { closedGate with place := true }.place = true ∧
    part.ready = true ∧ part.ready ≠ false ∧ (part.lane 0).config.service = true ∧
    ((withGate (fun g => { g with state := .outOfService })).lane 0).gate.state = .outOfService ∧
    (let s := { part with keys := Vector.replicate 4 none }
     s.ready = false ∧ s.ready ≠ true ∧ (s.lane 0).gate.state ≠ .fault ∧ (s.lane 0).gate.state ≠ .outOfService) ∧
    ((withGate (fun g => { g with state := .fault })).lane 0).gate.state = .fault := by decide +kernel

theorem test_meets_PortsFollowTheirHeads :
    part.powered = true ∧ ((part.lane 0).port .s).state = .ready ∧ ((State.reset.lane 0).port .s).state ≠ .ready ∧
    State.reset.powered = true := by decide +kernel

/-- A new card at an idle lane of a READY and of a NOT READY part, at a running lane, a repeat; MULTIPLE in its cases. -/
theorem test_meets_PresenceMakesOffers :
    let running := withEngine (fun _ => engineAt .reading .nothing)
    let away := withEngine (fun _ => { engineAt .reading .nothing with side := some .p })
    let reading := withLane (fun l => { l with portS := { readyPort with exchange := some ⟨.read, 250⟩ } })
    let shown (p : Presence) := withLane (fun l => { l with portS := { readyPort with presence := p } })
    part.powered = true ∧ ((part.lane 0).port .s).presence ≠ .card 5 ∧ ((shown (.card 5)).lane 0).portS.presence = .card 5 ∧
    ((shown .multiple).lane 0).portS.presence = .multiple ∧ ((part.lane 0).port .s).presence ≠ .multiple ∧
    (part.lane 0).engine.phase = .idle ∧ (part.lane 0).engine.side = none ∧ (part.lane 0).resetting = none ∧
    (part.lane 0).waiting = [] ∧ part.ready = true ∧ State.reset.ready = false ∧ (State.reset.lane 0).engine.phase = .idle ∧
    (running.lane 0).engine.phase ≠ .idle ∧ (running.lane 0).engine.side = some .s ∧ (away.lane 0).engine.side ≠ some .s ∧
    (away.lane 0).engine.phase ≠ .idle ∧ (reading.lane 0).portS.reading = true ∧ (away.lane 0).portS.reading = false ∧
    (away.lane 0).portS.writing = false := by decide +kernel

/-- A MULTIPLE and a new card at an idle lane of a part that is not READY, the port being READY. -/
theorem test_meets_PresenceMakesOffers_not_ready :
    let s := { part with keys := Vector.replicate 4 none }
    s.powered = true ∧ s.ready = false ∧ (s.lane 0).portS.presence ≠ .multiple ∧ (s.lane 0).portS.presence ≠ .card 5 ∧
    (s.lane 0).portS.reading = false ∧ (s.lane 0).portS.writing = false ∧ (s.lane 0).engine.side = none ∧
    (s.lane 0).engine.phase = .idle ∧ (s.lane 0).resetting = none ∧ (s.lane 0).waiting = [] := by decide +kernel

/-- A port with a READ outstanding and one without, and 64 bytes. -/
theorem test_meets_ReadsEndByTheirAnswer :
    part.powered = true ∧ (card 10 1000).length = 64 ∧ ((part.lane 0).port .s).reading = false ∧
    { readyPort with exchange := some ⟨.read, 250⟩ }.reading = true ∧ wellFormedCard (card 10 1000) = true ∧
    wellFormedCard (List.replicate 64 0) = false ∧ cardIdentity (card 10 1000) = 5 := by decide +kernel

/-- A generation with a key and one with none, and a key material of 16 bytes. -/
theorem test_meets_ReadsEndByTheirAnswer_keys :
    part.keyFor 1 = some ⟨1, List.replicate 16 0x5A⟩ ∧ part.keyFor 2 = none ∧ part.keys[3] = some ⟨1, List.replicate 16 0x5A⟩ ∧
    (List.replicate 15 0x5A#8).length = 15 := by decide +kernel

/-- A record of seven blocks and another first, third or last block in it; a record of 56 bytes and another byte at each end. -/
theorem test_meets_ReadsEndByTheirAnswer_blocks :
    let zeros (n : Nat) := List.replicate n 0x00#8
    let other : List Byte := [0, 0, 0, 0, 0, 0, 0, 1]
    (∀ k ∈ [0, 2, 6], (zeros (8 * k)).length = 8 * k ∧ (zeros (48 - 8 * k)).length + 8 * k = 48) ∧ (zeros 8).length = 8 ∧
    other.length = 8 ∧ zeros 8 ≠ other ∧ (zeros 56).length = 56 ∧ (zeros 56)[0]? ≠ some 1 ∧ (zeros 56)[55]? ≠ some 1 := by
  decide +kernel

/-- A trip field out of its range, or of no trip with a zone, makes a card ill formed. -/
theorem test_card_form :
    let c (k : Nat) (x : List Byte) := (card 10 1000).take k ++ x ++ (card 10 1000).drop (k + x.length)
    (∀ x ∈ [[0, 3, 16, 0, 0, 0, 0, 4], [0, 3, 1, 0, 0, 0, 0, 1]], wellFormedCard (c 27 x) = true) ∧
    (∀ x ∈ [[0, 3, 17, 0, 0, 0, 0, 4], [0, 3, 0, 0, 0, 0, 0, 4], [0, 3, 1, 0, 0, 0, 0, 5], [0, 3, 1, 0, 0, 0, 0, 0], [0, 0, 1],
        [255, 255, 1, 0, 0, 0, 0, 1]], wellFormedCard (c 27 x) = false) ∧
    wellFormedCard (c 0 [2]) = false ∧ wellFormedCard (c 26 [1]) = false ∧ wellFormedCard (c 24 [16, 16]) = true ∧
    wellFormedCard (c 24 [17]) = false ∧ wellFormedCard (c 25 [17]) = false ∧ wellFormedCard (c 38 [255, 255]) = false := by
  decide +kernel

/-- A WRITE outstanding with its slot RESERVED and the claim held, at a valid and an invalid time; and no WRITE. -/
theorem test_meets_WritesEndByTheirAnswer :
    let l : Lane := { lane with
      portS := { readyPort with exchange := some ⟨.write [], 250⟩ }
      engine := { engineAt .writing .nothing with slot := some 2 } }
    let s := ((part.setLane 0 l).setSlot 2 (.reserved torn)).setClaim 0 (some 5)
    s.powered = true ∧ ((s.lane 0).port .s).writing = true ∧ (s.lane 0).engine.slot = some 2 ∧ s.slot 2 = .reserved torn ∧
    (s.lane 0).engine.boundVersion = some 7 ∧ s.claim 0 = some 5 ∧ s.clock.valid = true ∧ s.clock.time + s.window ≤ Config.max32 ∧
    State.reset.clock.valid = false ∧ ((part.lane 0).port .s).writing = false := by decide +kernel

/-- The same with no bound table; the record of a transaction refused, re-granted, and granted with a charge and a new image. -/
theorem test_meets_WritesEndByTheirAnswer_records :
    let s := writing none
    let e := engineAt .finishing .nothing
    s.powered = true ∧ ((s.lane 0).port .s).writing = true ∧ (s.lane 0).engine.slot = some 2 ∧ s.slot 2 = .reserved torn ∧
    (s.lane 0).engine.boundVersion = none ∧ s.claim 0 = some 5 ∧
    e.image = some (card 10 1000) ∧ e.identity = some 5 ∧ e.direction = some .entry ∧
    { e with refusal := some .cardRemoved }.refusal = some .cardRemoved ∧ e.refusal = none ∧
    { e with grantKind := some .reGranted }.grantKind ≠ some .paid ∧
    (let g := { e with grantKind := some .paid, charge := some 150, newImage := some (card 11 850) }
     g.refusal = none ∧ g.grantKind = some .paid ∧ g.charge = some 150 ∧ g.newImage = some (card 11 850) ∧
     g.cardBody 7 = ⟨.granted, none, 5, .entry, 0, 10, some 11, 150, 1000, 850, 7, 0, 0, none⟩) := by decide +kernel

/-- An engine at its admission and at the Journal's check; every refusal's case is a field of the gate, the port or the journal. -/
theorem test_meets_AdmissionMakesItsChecks :
    let s (a : Awaiting) := withEngine (fun _ => engineAt .admitting a)
    (s .admission).powered = true ∧ ((s .admission).lane 0).engine.side = some .s ∧
    ((s .admission).lane 0).engine.awaiting = .admission ∧ ((s .journal).lane 0).engine.awaiting = .journal ∧
    ((s .journal).lane 0).engine.awaiting ≠ .admission ∧ ((s .admission).lane 0).engine.awaiting ≠ .journal ∧
    (let b := withLane (fun l => { l with
       engine := { engineAt .admitting .admission with lineTaken := true }, gate := { l.gate with lineIn := [.assertion] } })
     (b.lane 0).engine.lineTaken = true ∧ (b.lane 0).engine.lineIn.length < (b.lane 0).gate.lineIn.length ∧
     (b.lane 0).gate.emergency = false ∧ (b.lane 0).gate.lock = .free ∧ (b.lane 0).gate.queue.length < 2) := by decide +kernel

/-- The identity active, local, and neither; claimed elsewhere or nowhere; its slot OPEN or not; the claim's release. -/
theorem test_meets_ScreeningAsksListAndClaims :
    let s (a : Awaiting) := withEngine (fun _ => engineAt .checking a)
    let r := withEngine (fun _ => { engineAt .finishing .nothing with duties := [.releaseClaim] })
    (s .hotlist).powered = true ∧ ((s .hotlist).lane 0).engine.identity = some 5 ∧ ((s .hotlist).lane 0).engine.awaiting = .hotlist ∧
    5 ∉ (s .hotlist).hot.active.ids ∧ (s .hotlist).hot.locals = [] ∧ 5 ∈ [4#64, 5#64] ∧
    ((s .claim).lane 0).engine.awaiting = .claim ∧ (∀ m, (s .claim).claim m = none) ∧ ((s .claim).setClaim 1 (some 5)).claim 1 = some 5 ∧
    (∀ i, (s .claim).slot i = .free) ∧ ((s .claim).setSlot 2 (.opened torn false none none)).slot 2 = .opened torn false none none ∧
    torn.identity = 5 ∧ (r.lane 0).engine.duties = .releaseClaim :: [] ∧ (r.lane 0).engine.awaiting ≠ .hotlist ∧
    (r.lane 0).engine.awaiting ≠ .claim ∧ ((s .hotlist).lane 0).engine.duties.head? ≠ some .releaseClaim := by decide +kernel

/-- An identity that the local list alone holds. -/
theorem test_meets_ScreeningAsksListAndClaims_local :
    let s := { withEngine (fun _ => engineAt .checking .hotlist) with hot := { part.hot with locals := [⟨5, 1, 0⟩] } }
    (s.lane 0).engine.awaiting = .hotlist ∧ 5 ∉ s.hot.active.ids ∧ (∃ e ∈ s.hot.locals, e.identity = 5) := by decide +kernel

/-- A torn write with its new counter and image on the card, with its old counter, with another; counters below, at and above the seen
one; a card at its last and past its last day; every privilege; pass days; no bound table; the incident query. -/
theorem test_meets_ResolutionLeadsToTheFare :
    let e := engineAt .resolving .resolution
    let s (c : Nat) := withEngine (fun _ => { e with image := some (card c 1000) })
    let open2 (w : State) := w.setSlot 2 (.opened { torn with newImage := card 11 850 } false none none)
    let seen (w : State) := w.setEntries [⟨5, 10, 99999, 0, .entry, .passed, false, none⟩]
    let unbound := withEngine (fun _ => { e with boundVersion := none })
    (s 10).powered = true ∧ ((s 10).lane 0).engine.identity = some 5 ∧ ((s 10).lane 0).engine.direction = some .entry ∧
    ((s 10).lane 0).engine.awaiting = .resolution ∧ (open2 (s 10)).openSlot 5 = some 2 ∧
    (open2 (s 10)).slot 2 = .opened { torn with newImage := card 11 850 } false none none ∧
    cardCounter (card 11 850) = 11 ∧ cardCounter (card 10 1000) = 10 ∧ cardCounter (card 12 0) ≠ 10 ∧ cardCounter (card 12 0) ≠ 11 ∧
    (s 10).openSlot 5 = none ∧ ((seen (s 9)).seenLookup 5).map (·.counter) = some 10 ∧ cardCounter (card 9 0) < 10 ∧
    (s 10).seenLookup 5 = none ∧ cardCounter (card 16777215 0) = 16777215 ∧
    99990 / 86400 ≤ cardExpiryDay (card 10 1000) ∧ cardExpiryDay (List.replicate 64 0) < 99990 / 86400 ∧
    (s 10).boundProduct 0 = some (table, ride) ∧ ride.privilege ≤ ((s 10).lane 0).engine.boundLevel.getD 0 ∧ 0 < 1 ∧
    cardPassTo (card 10 1000) < 99990 / 86400 ∧ unbound.boundProduct 0 = none ∧ unbound.openSlot 5 = none ∧
    (let q := withEngine (fun _ => { e with phase := .checking, awaiting := .incident })
     (q.lane 0).engine.awaiting = .incident ∧ q.boundProduct 0 = some (table, ride)) := by decide +kernel

/-- The schedule of R50's table, and a moment in its first interval, in its last, at a start, and below the first start. -/
theorem test_meets_ResolutionLeadsToTheFare_bands :
    let bands : List (Nat × Band) := [(25200, .peak), (34200, .offpeak), (59400, .peak), (68400, .offpeak)]
    bands = [] ++ (25200, .peak) :: [(34200, .offpeak), (59400, .peak), (68400, .offpeak)] ∧ 25200 ≤ 29645 % 86400 ∧
    (∀ x ∈ [(34200, Band.offpeak), (59400, .peak), (68400, .offpeak)], 29645 % 86400 < x.1) ∧
    bands = [(25200, .peak), (34200, .offpeak), (59400, .peak)] ++ (68400, .offpeak) :: [] ∧ 68400 ≤ 68400 % 86400 ∧
    bands = [(25200, .peak), (34200, .offpeak), (59400, .peak)] ++ [(68400, .offpeak)] ∧ (∀ x ∈ bands, 10800 % 86400 < x.1) := by
  decide +kernel

/-- A card with a trip from station 3, zone 1, open or closed, at time 99,000, last out at a station at that time, 50 charged. -/
def tripCard (isOpen : Bool) (last : Nat) : List Byte :=
  (card 10 1000).take 19 ++ be 1 2 ++ [0, 0, 0xFF, 0xFF, 1, 2] ++ [if isOpen then 1 else 0] ++ be 2 3 ++ be 1 1 ++ be 4 99000 ++ be 1 1 ++
  be 3 50 ++ be 2 last ++ be 4 99000 ++ List.replicate 20 0

/-- An open trip with an UNUSED entry just under the re-entry window and just over it, at its station within the passback window and
past it; a closed trip whose last exit lies at another station, within the transfer window and past it, and one whose last exit is here. -/
theorem test_meets_ResolutionLeadsToTheFare_trips :
    let f : FareTable := { table with station := 3, passback := 20, reentry := 20 }
    let p : Product := { ride with transferWindow := 20 }
    let seen : SeenEntry := ⟨5, 10, 99000, 0, .entry, .unused, false, none⟩
    let t (isOpen : Bool) (last : Nat) := Trip.ofImage (tripCard isOpen last)
    (t true 0).isOpen = true ∧ (t false 4).isOpen = false ∧ f.reentry ≠ 0 ∧ 100200 - seen.time ≤ 60 * f.reentry ∧
    ¬ 100201 - seen.time ≤ 60 * f.reentry ∧ seen.outcome = .unused ∧ seen.direction = .entry ∧
    (t true 0).originStation = f.station ∧ 100200 - (t true 0).originTime ≤ 60 * f.passback ∧
    ¬ 100201 - (t true 0).originTime ≤ 60 * f.passback ∧
    (let g : FareTable := { f with station := 9 }
     (t false 4).lastStation ≠ 0 ∧ (t false 4).lastStation ≠ g.station ∧ (t false 4).originStation ≠ g.station ∧
     p.transferWindow ≠ 0 ∧ 100200 - (t false 4).lastTime ≤ 60 * p.transferWindow ∧ (t false 4).legs < 4 ∧
     ¬ 100201 - (t false 4).lastTime ≤ 60 * p.transferWindow) ∧
    (t false 3).lastStation = f.station ∧ { seen with direction := .exit }.direction = .exit ∧
    cardPassLow (tripCard true 0) ≠ 0 ∧ cardPassHigh (tripCard true 0) ≠ 0 ∧ cardPassLow (tripCard true 0) ≤ (t true 0).originZone ∧
    (t true 0).originZone ≤ cardPassHigh (tripCard true 0) ∧ ¬ 3 ≤ cardPassHigh (tripCard true 0) ∧
    ¬ (p.scheme = .staff ∨ p.scheme = .free ∨ p.scheme = .rideCount) ∧ { p with scheme := .periodPass }.scheme = .periodPass ∧
    cardRides (card 10 1000) = 0 ∧ { p with scheme := .rideCount }.scheme = .rideCount ∧
    cardBalance (tripCard true 0) - (1001 : Int) < -((p.floor : Nat) : Int) ∧
    -((p.floor : Nat) : Int) ≤ cardBalance (tripCard true 0) - (1000 : Int) := by decide +kernel

/-- Incidents that cover a trip of station 3 begun at 5: WAIVE, MINIMUM alone, and none of them. -/
theorem test_meets_ResolutionLeadsToTheFare_incidents :
    let covers (i : Incident) : Bool := decide ((i.station = 0 ∨ i.station = 3) ∧ i.start ≤ 5 ∧ 5 ≤ i.finish.getD 9)
    (∃ i ∈ endedAt3, covers i = true ∧ i.treatment = .waive) ∧
    (let list : List Incident := [⟨1, 0, 5, some 5, .minimum, .loaded⟩, ⟨2, 4, 5, none, .waive, .loaded⟩]
     (∃ i ∈ list, covers i = true) ∧ (∀ i ∈ list, covers i = true → i.treatment = .minimum)) ∧
    (∀ i ∈ [(⟨1, 0, 6, none, .waive, .loaded⟩ : Incident), ⟨2, 4, 5, none, .waive, .loaded⟩, ⟨3, 3, 1, some 4, .waive, .loaded⟩],
      covers i = false) := by decide +kernel

/-- An image of 64 bytes, the new image of an entry on it, and the limits of the fields that are read back. -/
theorem test_meets_ResolutionLeadsToTheFare_image :
    let t : Trip := ⟨true, 65535, 255, 4294967295, 255, 16777215, 65535, 4294967295⟩
    (tripCard false 4).length = 64 ∧ fieldAt (tripCard false 4) 13 3 ≠ 16777215 ∧
    (∀ b ∈ [(-8388608 : Int), 8388607], cardBalance (newBytes (tripCard false 4) b 255 t) = b) ∧
    Trip.ofImage (newBytes (tripCard false 4) 850 255 t) = t ∧
    newBytes (tripCard false 4) 850 2 ⟨true, 3, 1, 100000, 1, 0, 4, 99000⟩ =
      (card 11 850).take 19 ++ [2, 0, 0, 255, 255, 1, 2, 1] ++ be 2 3 ++ [1] ++ be 4 100000 ++ [1, 0, 0, 0] ++ be 2 4 ++ be 4 99000 ++
        List.replicate 12 0 := by decide +kernel

/-- A gate that is shut and one that is not, a full Recovery Table, the lowest free slot 1, a card whose generation has a key and one
whose generation has none. -/
theorem test_meets_ReservationStartsTheWrite :
    let s := withEngine (fun _ => { engineAt .checking .reservation with newImage := some (card 11 850) })
    let one := s.setSlot 0 (.reserved torn)
    s.powered = true ∧ (s.lane 0).engine.side = some .s ∧ (s.lane 0).engine.identity = some 5 ∧
    (s.lane 0).engine.image = some (card 10 1000) ∧ (s.lane 0).engine.direction = some .entry ∧
    (s.lane 0).engine.newImage = some (card 11 850) ∧ (s.lane 0).engine.awaiting = .reservation ∧ (s.lane 0).gate.state = .closed ∧
    one.slot 1 = .free ∧ (∀ j, j < 1 → one.slot j ≠ .free) ∧
    (∀ i, { s with recovery := Vector.replicate 8 (.reserved torn) }.slot i ≠ .free) ∧
    (s.keyFor (cardGeneration (card 10 1000))).isSome = true ∧ s.keyFor 9 = none := by decide +kernel

/-- No key for the generation, with a bound table and with none; a port that answers LOST-BEFORE itself for each of its reasons, and one
that sends the WRITE. -/
theorem test_meets_ReservationStartsTheWrite_freed :
    let s (bound : Option Nat) (p : Port) := withLane (fun l => { l with portS := p, engine := { engineAt .checking .reservation with
      newImage := some (card 11 850), boundVersion := bound } })
    let bare (b : Option Nat) := { s b readyPort with keys := Vector.replicate 4 none }
    (∀ b ∈ [none, some 7], ((bare b).lane 0).engine.boundVersion = b ∧ (bare b).slot 0 = .free ∧
      (bare b).keyFor (cardGeneration (card 10 1000)) = none ∧ ((bare b).lane 0).engine.awaiting = .reservation) ∧
    (∀ p ∈ [{ readyPort with state := .fault }, { readyPort with gone := true }, { readyPort with dropped := true }],
      ((s none p).lane 0).portS = p ∧ (p.state ≠ .ready ∨ p.gone = true ∨ p.dropped = true) ∧
      ((s none p).keyFor (cardGeneration (card 10 1000))).isSome = true) ∧
    readyPort.state = .ready ∧ readyPort.gone = false ∧ readyPort.dropped = false := by decide +kernel

/-- Each step of FINISHING as the engine's next, alone and with more to do; a seen entry, and none. -/
theorem test_meets_FinishingMakesItsSteps :
    let s (d : Duty) (rest : List Duty) := withEngine (fun _ => { engineAt .finishing .nothing with
      grantKind := some .paid, duties := d :: rest })
    (∀ d ∈ [Duty.localAddition, .cardRecord, .seenUpdate, .push], ∀ rest ∈ [[], [Duty.releaseClaim]],
      ((s d rest).lane 0).engine.duties = d :: rest ∧ ((s d rest).lane 0).engine.identity = some 5 ∧
      ((s d rest).lane 0).engine.direction = some .entry ∧ ((s d rest).lane 0).engine.boundVersion = some 7 ∧
      (((s d rest).lane 0).engine.seenChange 0).counter = some 11 ∧ (s d rest).powered = true) ∧
    ((s .seenUpdate []).setEntries [⟨5, 10, 99999, 0, .entry, .passed, false, none⟩]).seenLookup 5 =
      some ⟨5, 10, 99999, 0, .entry, .passed, false, none⟩ ∧
    (s .seenUpdate []).seen.entries = [] ∧ (s .push []).seen.entries.length < 8192 ∧ ((s .push []).lane 0).gate.state = .closed ∧
    ((s .push []).lane 0).gate.emergency = false ∧ { closedGate with state := .fault }.state = .fault := by decide +kernel

/-- An entry too old with no mark, at the retention, and marked; counters given and unchanged; a table of 8,192 other entries. -/
theorem test_meets_FinishingMakesItsSteps_seen :
    let s (r : Option RefusalCode) := withEngine (fun _ => { engineAt .finishing .nothing with refusal := r, duties := [.seenUpdate] })
    let e (time : Nat) (mark : Option SlotId) : SeenEntry := ⟨5, 10, time, 0, .entry, .passed, false, mark⟩
    let other : SeenEntry := ⟨6, 1, 99999, 0, .exit, .passed, true, none⟩
    let full := List.replicate 8192 other
    ((s none).lane 0).engine.duties = .seenUpdate :: [] ∧ ((s none).lane 0).engine.identity = some 5 ∧ (s none).powered = true ∧
    (s none).older (e 85599 none) = true ∧ (s none).older (e 85600 none) = false ∧ (e 85599 (some 2)).tearPending ≠ none ∧
    (((s none).lane 0).engine.seenChange 0).counter = some 10 ∧
    (((s (some .counterRegression)).lane 0).engine.seenChange 0).counter = none ∧
    full.filter (fun y => y.identity != 5) = [] ++ other :: List.replicate 8191 other ∧ other.tearPending = none ∧
    8192 ≤ full.length := by
  refine ⟨by decide +kernel, by decide +kernel, by decide +kernel, by decide +kernel, by decide +kernel, by decide +kernel,
    by decide +kernel, by decide +kernel, ?_, rfl, Nat.le_of_eq List.length_replicate.symm⟩
  rw [List.filter_eq_self.2 (by intro x hx; rw [List.eq_of_mem_replicate hx]; rfl)]
  rfl

/-- The end of a transaction with a grant queued and without, a waiting reset, offers at one and both sides, no part READY; a retiring
table bound and unbound, the clearing step of INITIALISE STORE waiting for it. -/
theorem test_meets_FinishingMakesItsSteps_end :
    let o (side : Side) : Offer := ⟨side, .card 9, false⟩
    let s (g : Bool) (k : Option ResetKind) (w : List Offer) := withLane (fun l => { l with
      engine := { engineAt .finishing .nothing with grantQueued := g }, resetting := k, waiting := w })
    let r (v : Option Nat) := { withEngine (fun _ => { engineAt .finishing .nothing with boundVersion := v }) with
      fare := ⟨some table, .none, some { table with version := 6 }⟩ }
    let clearing := { r (some 7) with proc := { part.proc with tracker := some ⟨9, 0x21, false⟩, initStage := 2 } }
    (∀ g, ((s g none []).lane 0).engine.side = some .s ∧ ((s g none []).lane 0).engine.grantQueued = g) ∧
    ((s true (some .part) []).lane 0).resetting = some .part ∧ ((s true none [o .p, o .s]).lane 0).waiting.head? = some (o .p) ∧
    ((s true none [o .s]).lane 0).waiting = [o .s] ∧ { s true none [o .s] with keys := Vector.replicate 4 none }.ready = false ∧
    (s true none []).fare.retiring = none ∧ ((r (some 6)).lane 0).engine.boundVersion = some 6 ∧
    (∀ n, ((r (some 7)).lane n).engine.boundVersion ≠ some 6) ∧ (r (some 7)).initialising = false ∧
    clearing.initialising = true ∧ clearing.proc.initStage = 2 ∧ clearing.fare.active = some table ∧
    (clearing.lane 0).engine.boundVersion = some 7 ∧ { clearing.fare with active := none }.active = none := by decide +kernel

/-- Each ending of a transaction that the seen update tells apart. -/
theorem test_meets_FinishingMakesItsSteps_change :
    let e := engineAt .finishing .nothing
    let x : Landed := ⟨.exit, 12⟩
    let refused (r : RefusalCode) (l : Option Landed) := { e with refusal := some r, landed := l }
    let granted (k : GrantKind) (l : Option Landed) := { e with grantKind := some k, landed := l }
    e.image = some (card 10 1000) ∧ e.identity = some 5 ∧ e.direction = some .entry ∧ e.refusal = none ∧ e.emergency = false ∧
    (refused .tearConflict none).seenChange 0 = ⟨5, 0, .entry, .refused, none, false⟩ ∧
    (refused .hotlisted none).seenChange 0 = ⟨5, 0, .entry, .refused, some 10, false⟩ ∧
    (refused .wrongDirection (some x)).seenChange 0 = ⟨5, 0, .exit, .unused, some 12, false⟩ ∧
    (granted .paid none).seenChange 0 = ⟨5, 0, .entry, .granted, some 11, false⟩ ∧
    ({ granted .paid none with emergency := true }).seenChange 0 = ⟨5, 0, .entry, .unused, some 11, false⟩ ∧
    (granted .recovered (some x)).seenChange 0 = ⟨5, 0, .entry, .reGranted, some 12, false⟩ ∧
    (granted .reGranted none).seenChange 0 = ⟨5, 0, .entry, .reGranted, some 10, false⟩ := by decide +kernel

/-- No update; one for an entry of its lane and direction, and one that fits none; a slot whose time is now, and one a second early. -/
theorem test_meets_TablesAreKeptUp :
    let e : SeenEntry := ⟨5, 10, 99999, 0, .entry, .granted, false, none⟩
    let s (n : LaneId) := { part with seen := ⟨[e], [⟨true, 5, n, .entry, 99000⟩], true⟩ }
    let t (x : Nat) := part.setSlot 2 (.opened torn false (some 1) (some x))
    part.powered = true ∧ part.seen.inbox = [] ∧ (s 0).seen.inbox = ⟨true, 5, 0, .entry, 99000⟩ :: [] ∧ (s 0).seenLookup 5 = some e ∧
    e.lane = 0 ∧ e.direction = .entry ∧ (s 1).seen.inbox = ⟨true, 5, 1, .entry, 99000⟩ :: [] ∧ e.lane ≠ 1 ∧ (s 1).seenLookup 5 = some e ∧
    (t 100000).slot 2 = .opened torn false (some 1) (some 100000) ∧ (t 100000).slotDue 2 = true ∧
    (t 100001).slotDue 2 = false ∧
    (let many := (t 100000).setSlot 5 (.opened torn true none (some 3))
     [0, 1, 2, 3, 4, 5, 6, 7].filter many.slotDue = [2, 5] ∧ many.journal.gapCount = 0 ∧ many.journal.count + 2 ≤ 32768 ∧
     many.journal.next + 2 ≤ 4294967296) ∧
    (let list (k : Nat) : List LocalEntry := (List.range k).map (fun i => ⟨BitVec.ofNat 64 (i + 10), 1, 0⟩)
     (10 ∈ (list 1).map (·.identity)) ∧ (∀ x ∈ list 64, x.identity ≠ 5) ∧ 5 ∉ part.hot.active.ids ∧ (list 63).length < 64 ∧
     64 ≤ (list 64).length ∧ (list 64).head? = some ⟨10, 1, 0⟩) := by decide +kernel

theorem test_meets_GateTimersAndActuatorAct :
    part.powered = true ∧ (part.lane 0).gate.openTimer = none ∧ (part.lane 0).gate.motion = none ∧
    ((withGate (fun g => { g with openTimer := some 0 })).lane 0).gate.openTimer ≠ none ∧
    ((withGate (fun g => { g with motion := some 0 })).lane 0).gate.motion ≠ none := by decide +kernel

/-- A beam that changes and one that does not; a closing gate in motion. -/
theorem test_meets_BeamsMoveTheMonitor :
    part.powered = true ∧ (part.lane 0).inputs.beamS = false ∧ (part.lane 0).inputs.beamS ≠ true ∧
    ((withGate (fun g => { g with motion := some 1 })).lane 0).gate.command = .closed ∧
    ((withGate (fun g => { g with motion := some 1 })).lane 0).gate.motion ≠ none ∧
    (let l := { lane with gate := { closedGate with state := .closing, command := .opened }, inputs := ⟨false, true, true, false⟩ }
     { l.inputs with beamP := false }.beamS = false ∧ l.inputs.beamP ≠ false ∧ l.gate.state = .closing) := by decide +kernel

/-- Every line of the table: the emergency, a held gate with and without the grant, a grant with an occupancy at and past the limit,
each closed state, and an open gate with an opposite grant and with none. -/
theorem test_meets_PassagesAreClassified :
    let p (k : Nat) : Passage := ⟨.entry, k⟩
    let s (g : Gate) := withGate (fun _ => { g with passages := [p 1800] })
    let q : Gate := { closedGate with queue := [grant 5] }
    part.powered = true ∧
    (∀ g ∈ [{ closedGate with emergency := true }, { closedGate with state := .heldOpen }, { q with state := .heldOpen },
        { q with state := .opened }, closedGate, { closedGate with state := .fault }, { closedGate with state := .outOfService },
        { closedGate with state := .opened }, { closedGate with state := .closing },
        { closedGate with state := .opened, queue := [{ grant 5 with direction := .exit }] }],
      ((s g).lane 0).gate.passages = p 1800 :: []) ∧
    (grant 5).direction = (p 0).direction ∧ { grant 5 with direction := .exit }.direction ≠ (p 0).direction ∧
    (p 1800).occupancy ≤ lane.config.tailgate * 100 ∧ lane.config.tailgate * 100 < (p 1801).occupancy := by decide +kernel

/-- A settled line that is low and not taken, one high and taken, and lines that have not settled or have nothing to take. -/
theorem test_meets_EmergencyLineIsTaken :
    let e (low taken : Bool) (t : Option Nat) : EmergencyInput := ⟨low, taken, t, none, false⟩
    part.powered = true ∧ (e true false (some 0)).settling ≠ none ∧ (e true false (some 0)).rawLow = true ∧
    (e true false (some 0)).taken = false ∧ (e false true (some 0)).rawLow = false ∧ (e false true (some 0)).taken = true ∧
    (e true false none).settling = none := by decide +kernel

/-- A change handed to each receiver; an engine in each phase; a valid and an invalid time, an open local incident and none. -/
theorem test_meets_ReceiversTakeTheLine :
    let g (c : LineChange) := withGate (fun g => { g with lineIn := [c] })
    let e (x : Phase) (c : LineChange) := withEngine (fun _ => { engineAt x .nothing with lineIn := [c] })
    let i (c : LineChange) := { part with incidents := { part.incidents with lineIn := [c] } }
    part.powered = true ∧
    (∀ c ∈ [LineChange.assertion, .release], ((g c).lane 0).gate.lineIn = c :: [] ∧ (i c).incidents.lineIn = c :: [] ∧
      (∀ x ∈ [Phase.idle, .finishing, .writing, .admitting, .reading, .checking, .resolving],
        ((e x c).lane 0).engine.lineIn = c :: [] ∧ ((e x c).lane 0).engine.phase = x)) ∧
    State.reset.clock.valid = false ∧ part.clock.valid = true ∧ (i .assertion).incidents.entries = [] ∧
    (⟨1, 3, 5, none, .waive, .fromLine⟩ : Incident).finish = none ∧
    (∀ es ∈ [fullList 15, fullList 16, endedAt3],
      let s := { i .assertion with incidents := { (i .assertion).incidents with entries := es } }
      s.incidents.lineIn = .assertion :: [] ∧ s.clock.valid = true ∧ s.powered = true) ∧
    (let a (x : Phase) (c : Option Exchange) := (withLane (fun l => { l with
       engine := engineAt x .nothing, portS := { readyPort with exchange := c } })).setSlot 2
         (.opened { torn with newImage := card 11 850 } false none none)
     ((a .reading (some ⟨.read, 250⟩)).lane 0).engine.side = some .s ∧
     ((a .reading (some ⟨.read, 250⟩)).lane 0).portS.exchange = some ⟨.read, 250⟩ ∧ ((a .checking none).lane 0).portS.exchange = none ∧
     ((a .resolving none).lane 0).engine.phase = .resolving ∧ (a .resolving none).openSlot 5 = some 2 ∧
     (part.setLane 0 lane).openSlot 5 = none ∧ cardCounter (card 11 850) = torn.newCounter ∧ cardCounter (card 10 0) = torn.oldCounter ∧
     torn.oldCounter ≠ torn.newCounter ∧ cardCounter (card 12 0) ≠ torn.oldCounter ∧ cardCounter (card 12 0) ≠ torn.newCounter) := by
  decide +kernel

/-- A RESERVED slot whose identity has a seen entry, one whose identity has none, none RESERVED, and room in the table. -/
theorem test_meets_PowerKeepsTheNonvolatile :
    let e (id : Identity) : SeenEntry := ⟨id, 10, 99999, 0, .entry, .passed, false, none⟩
    let s := (part.setSlot 2 (.reserved torn)).setEntries [e 6, e 5]
    s.slot 2 = .reserved torn ∧ (∀ j, j ≠ 2 → s.slot j = .free) ∧ s.seen.entries.length + 8 ≤ 8192 ∧
    s.seen.entries = [e 6] ++ e 5 :: [] ∧ (e 6).identity ≠ torn.identity ∧ (e 5).identity = torn.identity ∧
    (∀ x ∈ [e 6], x.identity ≠ torn.identity) ∧ (∀ i, part.slot i = .free) := by decide +kernel

end Sys2Proof.Tests
end

section
/-! FARE BEGIN case by case (R65): what it does to a Fare Store in each pending state, and the reply the host gets for it. -/

namespace Sys2Proof.Machine

theorem exec_fareBegin (nvwp : Bool) (s : State) :
    exec (.fareBegin nvwp) s = serveProtected 0x18 fareBegin nvwp s := rfl

/-- The model's version test on the active table, in the form the statements write it. -/
theorem any_version_iff (active : Option FareTable) (version : Nat) :
    active.any (fun t => t.version == version) = true ↔ active.map (·.version) = some version := by
  cases active <;> simp

theorem fareBegin_of_verifying {r : Request} {s : State} {version effective : Nat} {sections : Vector (Option (List Byte)) 6}
    (verifying : s.fare.pending = .verifying version sections effective) : fareBegin r s = (s, .busy) := by
  simp [fareBegin, verifying]

/-- Outside VERIFYING the active table's version alone decides; what a pending table in LOADING or WAITING holds does not. -/
theorem fareBegin_of_not_verifying {r : Request} {s : State}
    (idle : ∀ version sections effective, s.fare.pending ≠ .verifying version sections effective) :
    fareBegin r s =
      if s.fare.active.map (·.version) = some (r.field 4 2) then (s, .check (illegalField 4))
      else (s.setPending (.loading (r.field 4 2) (Vector.replicate 6 none)), .good []) := by
  simp only [← any_version_iff]
  cases pending : s.fare.pending with
  | verifying version sections effective => exact absurd pending (idle version sections effective)
  | none => simp only [fareBegin, pending]
  | loading => simp only [fareBegin, pending]
  | waiting => simp only [fareBegin, pending]

/-- Settles O31: a request that runs is answered by FARE BEGIN's own case, and taking it left the Fare Store as it was. -/
theorem fareBeginOpensALoad : Obligations.FareBeginOpensALoad := by
  intro base nvwp r rest s takes u version
  have fare : u.fare = s.fare := by simp [u]
  rw [exec_fareBegin, serveProtected_of_takes takes fareBegin]
  cases nvwp with
  | false => rfl
  | true =>
    refine congrArg Host.Outcome.next ?_
    change (fareBegin r u).1.answer r.tag r.target (fareBegin r u).2 = _
    simp only [s, Bool.true_eq_false, if_false]
    split
    next pending =>
      rw [fareBegin_of_verifying (fare ▸ pending)]
      rfl
    next idle =>
      rw [fareBegin_of_not_verifying (fun v x e h => idle v x e (fare ▸ h)), fare]
      split
      · rfl
      · rw [State.setPending, fare]
        rfl

end Sys2Proof.Machine
end

section
/-! HOTLIST ABANDON in each load state (R88), and what LOCAL LIST READ replies (R93). -/

namespace Sys2Proof.Machine

theorem exec_hotlistAbandon (s : State) :
    exec .hotlistAbandon s = whenPowered (serve 0x11 hotlistAbandon) s := rfl

theorem exec_localListRead (s : State) :
    exec .localListRead s = whenPowered (serve 0x12 localListRead) s := rfl

/-- Taking a request touches no part of the Hot List Store: the command finds the load and the list that the request met. -/
theorem takeRequest_hot (s : State) (r : Request) (rest : List (List Byte)) : (s.takeRequest r rest).hot = s.hot := by
  simp

theorem hotlistAbandon_of_loading {r : Request} {s : State} {version total running : Nat} {last : Option Identity}
    (loading : s.hot.load = .loading version total running last) :
    hotlistAbandon r s = (s.setHot s.hot.abandon, .good []) := by
  simp only [hotlistAbandon, loading]

theorem hotlistAbandon_of_idle {r : Request} {s : State} (idle : s.hot.load = .idle) :
    hotlistAbandon r s = (s, .check (orderError detailNoLoadOpen)) := by
  simp only [hotlistAbandon, idle]

theorem hotlistAbandon_of_verifying {r : Request} {s : State} {version total running : Nat}
    (verifying : s.hot.load = .verifying version total running) : hotlistAbandon r s = (s, .busy) := by
  simp only [hotlistAbandon, verifying]

/-- Settles O27, by the load state that the request meets. Taking the request left the Hot List Store as it was. -/
theorem hotListAbandonFollowsLoadState : Obligations.HotListAbandonFollowsLoadState := by
  intro s r rest takes u
  have hot : u.hot = s.hot := takeRequest_hot s r rest
  rw [exec_hotlistAbandon, serve_of_takes takes]
  change Host.Outcome.next ((hotlistAbandon r u).1.answer r.tag r.target (hotlistAbandon r u).2) = _
  cases load : s.hot.load with
  | idle =>
    rw [hotlistAbandon_of_idle (hot ▸ load)]
    rfl
  | loading version total running last =>
    rw [hotlistAbandon_of_loading (hot ▸ load), hot]
    rfl
  | verifying version total running =>
    rw [hotlistAbandon_of_verifying (hot ▸ load)]
    rfl

/-- The recursion numbers the entries it lays out as `zipIdx` does, so the list can be read entry by entry with its position. -/
theorem localBytes_eq_flatMap_zipIdx (k : Nat) (entries : List LocalEntry) :
    localBytes k entries = (entries.zipIdx k).flatMap (fun x =>
      be 1 x.2 ++ be 8 x.1.identity.toNat ++ be 4 x.1.time ++ be 1 x.1.lane.val) := by
  induction entries generalizing k with
  | nil => rfl
  | cons e es ih => rw [localBytes, ih, List.zipIdx_cons, List.flatMap_cons, idBytes]

/-- Settles O29: the command leaves the state as the taking of the request left it, and replies with the list it found there. -/
theorem localListIsReadWhole : Obligations.LocalListIsReadWhole := by
  intro s r rest takes
  rw [exec_localListRead, serve_of_takes takes, localListRead, takeRequest_hot, localBytes_eq_flatMap_zipIdx]
  rfl

end Sys2Proof.Machine
end

section
/-! The requests of the Incident List case by case (R144, R147 to R149): what each does to the list, and the reply it gets. -/

namespace Sys2Proof.Machine

section Protected
variable {base t : State} {nvwp : Bool} {code : Byte} {r : Request} {rest : List (List Byte)} {a : Answer}
  {run : Request → State → State × Answer}

theorem serveProtected_of_low (takes : ({ base with nvwp := nvwp } : State).takes code r rest) (low : nvwp = false) :
    serveProtected code run nvwp base =
      .next ((({ base with nvwp := nvwp } : State).takeRequest r rest).checked r storeProtected) := by
  rw [serveProtected_of_takes takes run, low]
  rfl

/-- With NVWP high the answer is the command's own: what it does to the request it took is what the step does. -/
theorem serveProtected_of_run (takes : ({ base with nvwp := nvwp } : State).takes code r rest) (high : nvwp = true)
    (runs : run r (({ base with nvwp := nvwp } : State).takeRequest r rest) = (t, a)) :
    serveProtected code run nvwp base = .next (t.answer r.tag r.target a) := by
  rw [serveProtected_of_takes takes run, if_pos high, runs]

end Protected

theorem exec_incidentAdd (nvwp : Bool) (s : State) :
    exec (.incidentAdd nvwp) s = serveProtected 0x44 incidentAdd nvwp s := rfl

theorem exec_incidentClose (nvwp : Bool) (s : State) :
    exec (.incidentClose nvwp) s = serveProtected 0x1C incidentClose nvwp s := rfl

theorem exec_incidentRemove (nvwp : Bool) (s : State) :
    exec (.incidentRemove nvwp) s = serveProtected 0x1D incidentRemove nvwp s := rfl

theorem exec_incidentRead (s : State) : exec .incidentRead s = whenPowered (serve 0x1E incidentRead) s := rfl

/-- Taking a request touches no part of the Incident List: the command finds the list that the request met. -/
theorem takeRequest_incidents (s : State) (r : Request) (rest : List (List Byte)) :
    (s.takeRequest r rest).incidents = s.incidents := by
  simp

/-- The model's test for an open local incident, in the form the statements write it. -/
theorem openLocal_iff (i : Incident) : i.openLocal = true ↔ i.origin = .fromLine ∧ i.finish = none := by
  simp [Incident.openLocal]

theorem treatment_ofCode_of_known {b : Byte} (known : b = 0 ∨ b = 1) :
    Treatment.ofCode b = some (if b = 0 then .waive else .minimum) := by
  obtain rfl | rfl := known <;> rfl

theorem treatment_ofCode_of_unknown {b : Byte} (notWaive : b ≠ 0) (notMinimum : b ≠ 1) : Treatment.ofCode b = none :=
  (if_neg notWaive).trans (if_neg notMinimum)

/-- The search for a number ends at once where no entry holds the one it begins with. -/
theorem freeNumber_of_unheld {held : List Incident} {k : Nat} (unheld : ∀ i ∈ held, i.number ≠ k) (n : Nat) :
    freeNumber held (n + 1) k = k := by
  simpa [freeNumber] using fun i hi hk => absurd hk (unheld i hi)

/-! ### INCIDENT ADD (R147) -/

section Add
variable {r : Request} {s : State}

theorem incidentAdd_of_length (wrong : r.dataLength ≠ 6) :
    incidentAdd r s = (s, .check ⟨.illegalRequest, detailLengthError, some 10, none⟩) :=
  if_pos wrong

theorem incidentAdd_of_noStation (length : r.dataLength = 6) (noStation : r.field 12 2 = 65535) :
    incidentAdd r s = (s, .check (illegalField 12)) := by
  simp [incidentAdd, length, noStation]

theorem incidentAdd_of_noTreatment (length : r.dataLength = 6) (station : r.field 12 2 ≠ 65535)
    (unknown : Treatment.ofCode (r.byte 4) = none) : incidentAdd r s = (s, .check (illegalField 4)) := by
  simp [incidentAdd, length, station, unknown]

theorem incidentAdd_of_full {t : Treatment} (length : r.dataLength = 6) (station : r.field 12 2 ≠ 65535)
    (treatment : Treatment.ofCode (r.byte 4) = some t) (full : Config.incidentCapacity ≤ s.incidents.entries.length) :
    incidentAdd r s = (s, .check ⟨.resource, detailIncidentListFull, none, none⟩) := by
  simp [incidentAdd, length, station, treatment, full]

theorem incidentAdd_of_room {t : Treatment} (length : r.dataLength = 6) (station : r.field 12 2 ≠ 65535)
    (treatment : Treatment.ofCode (r.byte 4) = some t) (room : s.incidents.entries.length < Config.incidentCapacity) :
    incidentAdd r s =
      ({ s with incidents := s.incidents.add (r.field 12 2) (r.field 14 4) t .loaded }, .good (be 2 s.incidents.next)) := by
  simp [incidentAdd, length, station, treatment, Nat.not_le.mpr room]

end Add

/-- Settles O34, by the first of the tests in R147's order that the request fails. -/
theorem incidentAddAppendsAnEntry : Obligations.IncidentAddAppendsAnEntry := by
  intro base nvwp r rest s takes u added after
  have incidents : u.incidents = s.incidents := takeRequest_incidents s r rest
  rw [exec_incidentAdd]
  refine ⟨serveProtected_of_low takes, fun high wrong => serveProtected_of_run takes high (incidentAdd_of_length wrong),
    fun high length => ⟨fun noStation => ?noStation, fun station notWaive notMinimum => ?noTreatment,
      fun station known full => ?full, fun station known room => ?room⟩⟩
  case noStation => exact serveProtected_of_run takes high (incidentAdd_of_noStation length noStation)
  case noTreatment =>
    exact serveProtected_of_run takes high
      (incidentAdd_of_noTreatment length station (treatment_ofCode_of_unknown notWaive notMinimum))
  case full =>
    have noPlace : Config.incidentCapacity ≤ u.incidents.entries.length := by
      rw [incidents]
      exact full
    exact serveProtected_of_run takes high
      (incidentAdd_of_full length station (treatment_ofCode_of_known known) noPlace)
  case room =>
    have runs := incidentAdd_of_room (s := u) length station (treatment_ofCode_of_known known) (incidents ▸ room)
    rw [incidents] at runs
    exact ⟨_, serveProtected_of_run takes high runs, fun unheld => freeNumber_of_unheld unheld 16⟩

/-! ### INCIDENT CLOSE and INCIDENT REMOVE (R148) -/

section Entry
variable {r : Request} {s : State} {i : Incident}

theorem incidentClose_of_absent (absent : s.incidents.entries.find? (fun i => i.number == r.field 4 2) = none) :
    incidentClose r s = (s, .check (illegalField 4)) := by
  simp only [incidentClose, absent]

theorem incidentClose_of_openLocal (found : s.incidents.entries.find? (fun i => i.number == r.field 4 2) = some i)
    (openLocal : i.openLocal = true) : incidentClose r s = (s, .check (orderError detailLocalIncidentOpen)) := by
  simp only [incidentClose, found, openLocal, if_true]

theorem incidentClose_of_closed (found : s.incidents.entries.find? (fun i => i.number == r.field 4 2) = some i)
    (closed : i.finish ≠ none) : incidentClose r s = (s, .check (orderError detailIncidentClosed)) := by
  simp [incidentClose, found, Incident.openLocal, closed, Option.isSome_iff_ne_none]

theorem incidentClose_of_early (found : s.incidents.entries.find? (fun i => i.number == r.field 4 2) = some i)
    (loaded : ¬ i.openLocal = true) (isOpen : i.finish = none) (early : r.field 6 4 < i.start) :
    incidentClose r s = (s, .check (illegalField 6)) := by
  simp [incidentClose, found, loaded, isOpen, early]

theorem incidentClose_of_open (found : s.incidents.entries.find? (fun i => i.number == r.field 4 2) = some i)
    (loaded : ¬ i.openLocal = true) (isOpen : i.finish = none) (inTime : ¬ r.field 6 4 < i.start) :
    incidentClose r s = (s.setIncidents (s.incidents.entries.map (fun j =>
      if j.number = r.field 4 2 then { j with finish := some (r.field 6 4) } else j)), .good []) := by
  simp [incidentClose, found, loaded, isOpen, inTime]

theorem incidentRemove_of_absent (absent : s.incidents.entries.find? (fun i => i.number == r.field 4 2) = none) :
    incidentRemove r s = (s, .check (illegalField 4)) := by
  simp only [incidentRemove, absent]

theorem incidentRemove_of_openLocal (found : s.incidents.entries.find? (fun i => i.number == r.field 4 2) = some i)
    (openLocal : i.openLocal = true) : incidentRemove r s = (s, .check (orderError detailLocalIncidentOpen)) := by
  simp only [incidentRemove, found, openLocal, if_true]

theorem incidentRemove_of_not_openLocal (found : s.incidents.entries.find? (fun i => i.number == r.field 4 2) = some i)
    (removable : ¬ i.openLocal = true) :
    incidentRemove r s =
      (s.setIncidents (s.incidents.entries.filter (fun j => decide (j.number ≠ r.field 4 2))), .good []) := by
  simp only [incidentRemove, found, if_neg removable, bne]
  simp only [beq_eq_decide, decide_not]

end Entry

/-- Settles O35: a low NVWP is answered before the list is looked at; else the entry under the number given decides both requests,
which part only where it is no open local incident. -/
theorem incidentsAreClosedAndRemoved : Obligations.IncidentsAreClosedAndRemoved := by
  intro base nvwp r rest s u number found
  have incidents : u.incidents = s.incidents := takeRequest_incidents s r rest
  have search : u.incidents.entries.find? (fun i => i.number == r.field 4 2) = found := by rw [incidents]
  by_cases low : s.nvwp = false
  · simp only [if_pos low]
    exact ⟨fun takes => serveProtected_of_low takes low, fun takes => serveProtected_of_low takes low⟩
  have high : nvwp = true := Bool.of_not_eq_false low
  simp only [if_neg low, ← openLocal_iff]
  cases present : found with
  | none =>
    have absent := search.trans present
    exact ⟨fun takes => serveProtected_of_run takes high (incidentClose_of_absent absent),
      fun takes => serveProtected_of_run takes high (incidentRemove_of_absent absent)⟩
  | some i =>
    have entry := search.trans present
    by_cases openLocal : i.openLocal = true
    · simp only [if_pos openLocal]
      exact ⟨fun takes => serveProtected_of_run takes high (incidentClose_of_openLocal entry openLocal),
        fun takes => serveProtected_of_run takes high (incidentRemove_of_openLocal entry openLocal)⟩
    simp only [if_neg openLocal]
    refine ⟨fun takes => ?close, fun takes => ?remove⟩
    case close =>
      rw [exec_incidentClose]
      split_ifs with closed early
      · exact serveProtected_of_run takes high (incidentClose_of_closed entry closed)
      · exact serveProtected_of_run takes high (incidentClose_of_early entry openLocal (not_not.mp closed) early)
      · rw [serveProtected_of_run takes high (incidentClose_of_open entry openLocal (not_not.mp closed) early),
          State.setIncidents, incidents]
        rfl
    case remove =>
      rw [exec_incidentRemove, serveProtected_of_run takes high (incidentRemove_of_not_openLocal entry openLocal),
        State.setIncidents, incidents]
      rfl

/-! ### INCIDENT READ (R149) -/

/-- An entry is laid out alike whether its end is absent, its bytes then zeros, or present. -/
theorem incident_bytes_eq (i : Incident) :
    i.bytes = be 2 i.number ++ be 2 i.station ++ be 4 i.start ++ [if i.finish.isSome then 1 else 0] ++ be 4 (i.finish.getD 0) ++
      [i.treatment.code, i.origin.code] := by
  cases finish : i.finish with
  | none =>
    rw [Incident.bytes, finish]
    rfl
  | some t =>
    rw [Incident.bytes, finish]
    rfl

/-- Settles O36: the command leaves the state as the taking of the request left it, and replies with the list it found there. -/
theorem incidentReadReturnsTheList : Obligations.IncidentReadReturnsTheList := by
  intro s r rest takes
  simp only [← incident_bytes_eq]
  rw [exec_incidentRead, serve_of_takes takes, incidentRead, takeRequest_incidents]
  rfl

end Sys2Proof.Machine
end

section
/-! READ CONDITIONS (R185) and SET NOTICE LEVELS (R184) case by case: what each does to the Notice Unit, and the reply it gets. -/

namespace Sys2Proof.Machine

theorem exec_readConditions (s : State) : exec .readConditions s = whenPowered (serve 0x06 readConditions) s := rfl

theorem exec_setNoticeLevels (nvwp : Bool) (s : State) :
    exec (.setNoticeLevels nvwp) s = serveProtected 0x40 setNoticeLevels nvwp s := rfl

/-- Taking a request touches no part of the Notice Unit: the command finds the conditions and notices that the request met. -/
theorem takeRequest_notices (s : State) (r : Request) (rest : List (List Byte)) : (s.takeRequest r rest).notices = s.notices := by
  simp

/-! ### The data block of a request that passed its tests -/

theorem lengthError_of_refusal {r : Request} (passed : r.refusal = none) : r.lengthError = none := by
  rw [Request.refusal] at passed
  split at passed
  next =>
    split at passed
    · exact passed
    · exact absurd passed nofun
  next => exact absurd passed nofun

/-- The length test of R174 ties the data length field to the bytes that stand in the data block. -/
theorem length_data_of_refusal {r : Request} (passed : r.refusal = none) (dataForm : dataClass r.code = true) :
    r.data.length = r.dataLength := by
  have fits : r.lengthError = none := lengthError_of_refusal passed
  have framed : r.body.length = 12 + r.dataLength := by
    rw [Request.lengthError, if_pos dataForm] at fits
    by_contra wrong
    exact absurd ((if_pos (.inr (.inl wrong))).symm.trans fits) nofun
  rw [Request.data, List.length_drop, framed, Nat.add_sub_cancel_left]

/-- Byte i of the data block is byte 12 + i of the body, past their common end too. -/
theorem byteAt_data (r : Request) (i : Nat) : byteAt r.data i = byteAt r.body (12 + i) := by
  simp [byteAt, Request.data, List.getD_eq_getElem?_getD]

theorem levelsOf_data (r : Request) : levelsOf r.data = Vector.ofFn (fun i => (byteAt r.body (12 + i.val)).toNat) := by
  simp only [levelsOf, byteAt_data]

/-- A search of a list for a position is a search of the positions for the byte that stands there. -/
theorem findIdx?_eq_find?_range_byteAt (p : Byte → Bool) (bs : List Byte) :
    bs.findIdx? p = (List.range bs.length).find? (fun i => p (byteAt bs i)) := by
  induction bs with
  | nil => rfl
  | cons b bs ih =>
    rw [List.findIdx?_cons, ih, List.length_cons, List.range_succ_eq_map, List.find?_cons, List.find?_map]
    cases hit : p b with
    | true => simp [byteAt, hit]
    | false =>
      simp only [byteAt, List.getD_cons_zero, hit]
      rfl

/-! ### READ CONDITIONS (R185) -/

section Read
variable {r : Request} {s : State}

theorem readConditions_of_outOfRange (outOfRange : r.field 4 1 = 0 ∨ 32 < r.field 4 1) :
    readConditions r s = (s, .check (illegalField 4)) :=
  if_pos outOfRange

theorem readConditions_of_inRange (inRange : ¬ (r.field 4 1 = 0 ∨ 32 < r.field 4 1)) :
    readConditions r s =
      ({ s with notices := { s.notices with conditions := s.notices.conditions.drop (r.field 4 1) } },
       .good (be 1 (s.notices.conditions.take (r.field 4 1)).length ++ be 1 (s.notices.conditions.drop (r.field 4 1)).length ++
         (s.notices.conditions.take (r.field 4 1)).flatMap Condition.bytes)) :=
  if_neg inRange

end Read

/-! ### SET NOTICE LEVELS (R184) -/

section Levels
variable {r : Request} {s : State}

/-- The position of the first level past 7 in the data block of a request (R184). -/
def Request.firstHighLevel (r : Request) : Option Nat :=
  (List.range 16).find? (fun i => decide (7 < (byteAt r.body (12 + i)).toNat))

/-- The command's own search, in the form the statements write it. -/
theorem findIdx?_data_eq_firstHighLevel (sixteen : r.data.length = 16) :
    r.data.findIdx? (fun b => decide (7 < b.toNat)) = r.firstHighLevel := by
  simp only [findIdx?_eq_find?_range_byteAt, sixteen, byteAt_data, Request.firstHighLevel]

theorem setNoticeLevels_of_length (wrong : r.dataLength ≠ 16) : setNoticeLevels r s = (s, .check (illegalField 10)) :=
  if_pos wrong

theorem setNoticeLevels_of_high {i : Nat} (length : r.dataLength = 16) (sixteen : r.data.length = 16)
    (high : r.firstHighLevel = some i) :
    setNoticeLevels r s = (s, .check ⟨.illegalRequest, detailOutOfRange, some 12, some i⟩) := by
  simp only [setNoticeLevels, length, findIdx?_data_eq_firstHighLevel sixteen, high, ne_eq, not_true_eq_false, if_false]

theorem setNoticeLevels_of_allowed (length : r.dataLength = 16) (sixteen : r.data.length = 16)
    (allowed : r.firstHighLevel = none) :
    setNoticeLevels r s =
      ({ s with notices := { s.notices with
          levels := levelsOf r.data
          pending := s.notices.pending.filter (fun p => (levelsOf r.data)[p.kind.index] != 0) } }, .good []) := by
  simp only [setNoticeLevels, length, findIdx?_data_eq_firstHighLevel sixteen, allowed, ne_eq, not_true_eq_false, if_false]
  rfl

end Levels

/-- Settles O24: a count in range splits the condition list that the request met, and the sixteen levels of a full data block are
stored where NVWP is high and none of them is past 7. -/
theorem conditionsAreReadAndLevelsStored : Obligations.ConditionsAreReadAndLevelsStored := by
  constructor
  case left =>
    intro s r rest takes u m taken left
    rw [exec_readConditions, serve_of_takes takes]
    split_ifs with outOfRange
    · rw [readConditions_of_outOfRange outOfRange]
      rfl
    · rw [readConditions_of_inRange outOfRange, takeRequest_notices]
      rfl
  case right =>
    intro base nvwp r rest s takes u levels
    have notices : u.notices = s.notices := takeRequest_notices s r rest
    have stored : levelsOf r.data = levels := levelsOf_data r
    rw [exec_setNoticeLevels]
    split_ifs with low wrong
    · exact serveProtected_of_low takes low
    all_goals have high : nvwp = true := Bool.of_not_eq_false low
    · exact serveProtected_of_run takes high (setNoticeLevels_of_length wrong)
    have length : r.dataLength = 16 := not_not.mp wrong
    have ⟨⟨_, _, _, _, _, code⟩, passed, _⟩ := takes
    have sixteen : r.data.length = 16 := (length_data_of_refusal passed (code ▸ rfl)).trans length
    split
    next i past => exact serveProtected_of_run takes high (setNoticeLevels_of_high length sixteen past)
    next allowed =>
      rw [serveProtected_of_run takes high (setNoticeLevels_of_allowed length sixteen allowed), stored, notices]
      rfl

end Sys2Proof.Machine
end

section
/-! SET TIME at a valid clock case by case (R190): what a refused, a forward and a backward step do, and the reply each gets. -/

namespace Sys2Proof.Machine

theorem exec_setTime (s : State) : exec .setTime s = whenPowered (serve 0x04 setTime) s := rfl

/-- Taking a request leaves the clock: SET TIME steps from the station time that the request met. -/
theorem takeRequest_clock (s : State) (r : Request) (rest : List (List Byte)) : (s.takeRequest r rest).clock = s.clock := by
  simp

section Step
variable {r : Request} {s : State} {v : Nat}

/-- A step ahead, or of 0, sets the time and ends a hold. -/
theorem stepTime_of_ahead (valid : s.clock.valid = true) (ahead : s.clock.time ≤ v) :
    s.stepTime v =
      ({ s with clock := ⟨v, true, 0, 0⟩ }.record none RecordFlags.clear (.timeStep v ((v : Int) - s.clock.time))).handTime := by
  simp only [State.stepTime, if_pos ahead, valid]

/-- A step back leaves the time and sets the hold to its size, whatever hold was running. -/
theorem stepTime_of_back (valid : s.clock.valid = true) (back : ¬ s.clock.time ≤ v) :
    s.stepTime v =
      ({ s with clock := ⟨s.clock.time, true, s.clock.time - v, 0⟩ }.record none RecordFlags.clear
        (.timeStep v ((v : Int) - s.clock.time))).handTime := by
  simp only [State.stepTime, if_neg back, valid]

theorem setTime_of_tooLarge (valid : s.clock.valid = true) (tooLarge : (r.field 4 4 : Int) - s.clock.time < -300) :
    setTime r s = (s, .check ⟨.illegalRequest, 0x17, some 4, some s.clock.time⟩) := by
  have below : r.field 4 4 + 300 < s.clock.time := by omega
  exact (if_pos valid).trans (if_pos below)

theorem setTime_of_step (valid : s.clock.valid = true) (inRange : ¬ (r.field 4 4 : Int) - s.clock.time < -300) :
    setTime r s = (s.stepTime (r.field 4 4), .good []) := by
  have notBelow : ¬ r.field 4 4 + 300 < s.clock.time := by omega
  exact (if_pos valid).trans (if_neg notBelow)

end Step

/-- Settles O21, by the size and the sign of the step from the station time that the request met. -/
theorem setTimeStepsTheClock : Obligations.SetTimeStepsTheClock := by
  intro s r rest takes valid u v t
  have clock : u.clock = s.clock := takeRequest_clock s r rest
  have time : u.clock.time = t := congrArg Clock.time clock
  have stillValid : u.clock.valid = true := (congrArg Clock.valid clock).trans valid
  rw [exec_setTime, serve_of_takes takes]
  split_ifs with tooLarge ahead
  · rw [setTime_of_tooLarge stillValid (time ▸ tooLarge), time]
    rfl
  · rw [setTime_of_step stillValid (time ▸ tooLarge), stepTime_of_ahead stillValid (time ▸ ahead), time]
    rfl
  · rw [setTime_of_step stillValid (time ▸ tooLarge), stepTime_of_back stillValid (time ▸ ahead), time]
    rfl

end Sys2Proof.Machine
end

section
/-! What every command keeps: one relation between a state and a later one, closed under the part's shared operations, from which
each invariant of the stores is read off. -/

namespace Sys2Proof.Machine

/-! ### The Seen-Card Table and its marks (R75 to R80) -/

/-- Only the entries and the slots count for the table's form. -/
theorem seenWf_congr {s t : State} (entries : t.seen.entries = s.seen.entries) (recovery : t.recovery = s.recovery)
    (h : s.seenWf) : t.seenWf := by
  simpa only [State.seenWf, State.markHolds, State.slot, entries, recovery] using h

theorem seenWf_setEntries_of_sublist {s : State} (h : s.seenWf) {es : List SeenEntry} (sub : es.Sublist s.seen.entries) :
    (s.setEntries es).seenWf := by
  obtain ⟨once, bound, marks⟩ := h
  exact ⟨(sub.map _).nodup once, sub.length_le.trans bound, fun e he => marks e (sub.subset he)⟩

/-- Entries changed in place keep their identity and hold no mark that they had not. -/
theorem seenWf_setEntries_map {s : State} (h : s.seenWf) (f : SeenEntry → SeenEntry) (same : ∀ e, (f e).identity = e.identity)
    (mark : ∀ e i, (f e).tearPending = some i → e.tearPending = some i) : (s.setEntries (s.seen.entries.map f)).seenWf := by
  obtain ⟨once, bound, marks⟩ := h
  refine ⟨?_, ?_, ?_⟩
  · have ids : (s.seen.entries.map f).map (·.identity) = s.seen.entries.map (·.identity) := by
      simp [List.map_map, Function.comp_def, same]
    simpa [ids] using once
  · simpa using bound
  · intro e he i hi
    obtain ⟨x, hx, rfl⟩ := List.mem_map.1 he
    obtain ⟨g, em, wt, ex, hs, hg⟩ := marks x hx i (mark x i hi)
    exact ⟨g, em, wt, ex, hs, hg.trans (same x).symm⟩

/-- A slot may change as long as an OPEN one stays OPEN for its identity. -/
theorem seenWf_setSlot {s : State} (h : s.seenWf) (i : SlotId) (x : Slot)
    (stays : ∀ f em wt ex, s.slot i = .opened f em wt ex → ∃ g em wt ex, x = .opened g em wt ex ∧ g.identity = f.identity) :
    (s.setSlot i x).seenWf := by
  obtain ⟨once, bound, marks⟩ := h
  refine ⟨once, bound, fun e he j hj => ?_⟩
  obtain ⟨f, em, wt, ex, hs, hf⟩ := marks e he j hj
  by_cases hij : j = i
  · subst hij
    obtain ⟨g, em, wt, ex, rfl, hg⟩ := stays f em wt ex hs
    exact ⟨g, em, wt, ex, slot_setSlot_self s j _, hg.trans hf⟩
  · exact ⟨f, em, wt, ex, (slot_setSlot_ne s hij x).trans hs, hf⟩

theorem withoutId_sublist (es : List SeenEntry) (id : Identity) : (withoutId es id).Sublist es := List.filter_sublist

theorem not_mem_withoutId (es : List SeenEntry) (id : Identity) : id ∉ (withoutId es id).map (·.identity) := by
  simp [withoutId]

theorem withoutId_length_lt {es : List SeenEntry} {e : SeenEntry} (he : e ∈ es) : (withoutId es e.identity).length < es.length := by
  refine lt_of_le_of_ne (List.length_filter_le _ _) fun eq => ?_
  simpa using List.length_filter_eq_length_iff.1 eq e he

theorem dropVictim_sublist : ∀ es : List SeenEntry, (dropVictim es).Sublist es
  | [] => List.Sublist.refl _
  | e :: es => by
    unfold dropVictim
    split
    · exact List.sublist_cons_self e es
    · exact (dropVictim_sublist es).cons_cons e

/-- An eviction makes a place unless every entry is marked. -/
theorem dropVictim_length : ∀ es : List SeenEntry, (∃ e ∈ es, e.tearPending = none) → (dropVictim es).length + 1 = es.length
  | [], h => by simp at h
  | e :: es, h => by
    unfold dropVictim
    split
    · rfl
    · next marked =>
      have later : ∃ e ∈ es, e.tearPending = none := by simpa [marked] using h
      simp [dropVictim_length es later]

/-- The marks of a table are different slots: a slot is OPEN for one identity, and an identity has one entry. -/
theorem marks_nodup {s : State} : ∀ {es : List SeenEntry}, (es.map (·.identity)).Nodup → (∀ e ∈ es, s.markHolds e) →
    (es.filterMap (·.tearPending)).Nodup
  | [], _, _ => List.nodup_nil
  | e :: es, once, marks => by
    obtain ⟨fresh, once⟩ := List.nodup_cons.1 once
    have rest := marks_nodup once (fun e he => marks e (List.mem_cons_of_mem _ he))
    cases hm : e.tearPending with
    | none => simpa [List.filterMap_cons, hm] using rest
    | some i =>
      rw [List.filterMap_cons_some hm]
      refine List.nodup_cons.2 ⟨fun again => fresh ?_, rest⟩
      obtain ⟨e', he', hm'⟩ := List.mem_filterMap.1 again
      obtain ⟨f, em, wt, ex, hs, hf⟩ := marks e List.mem_cons_self i hm
      obtain ⟨f', em', wt', ex', hs', hf'⟩ := marks e' (List.mem_cons_of_mem _ he') i hm'
      have same : f = f' := by
        rw [hs] at hs'
        exact (Slot.opened.inj hs').1
      exact List.mem_map.2 ⟨e', he', by rw [← hf', ← same, hf]⟩

/-- A full table has an entry that may be evicted, for at most eight are marked. -/
theorem exists_unmarked {s : State} {es : List SeenEntry} (once : (es.map (·.identity)).Nodup) (marks : ∀ e ∈ es, s.markHolds e)
    (full : Config.seenCapacity ≤ es.length) : ∃ e ∈ es, e.tearPending = none := by
  by_contra none
  have all : es.length = (es.filterMap (·.tearPending)).length := by
    rw [List.length_filterMap_eq_countP, eq_comm, List.countP_eq_length]
    exact fun e he => Option.isSome_iff_ne_none.2 fun h => none ⟨e, he, h⟩
  have few := (marks_nodup once marks).length_le_card
  simp only [Fintype.card_fin, Config.seenCapacity] at few full
  omega

theorem makePlace_sublist (es : List SeenEntry) : (makePlace es).Sublist es := by
  unfold makePlace
  split
  · exact List.Sublist.refl _
  · exact dropVictim_sublist es

theorem makePlace_length_lt {s : State} {es : List SeenEntry} (once : (es.map (·.identity)).Nodup)
    (marks : ∀ e ∈ es, s.markHolds e) (bound : es.length ≤ Config.seenCapacity) : (makePlace es).length < Config.seenCapacity := by
  unfold makePlace
  split
  · next room => exact room
  · next full =>
    have drop := dropVictim_length es (exists_unmarked once marks (by omega))
    omega

/-- A most recent entry is added for an identity that has none. -/
theorem seenWf_append {s : State} {es : List SeenEntry} (h : (s.setEntries es).seenWf) (e : SeenEntry)
    (fresh : e.identity ∉ es.map (·.identity)) (room : es.length < Config.seenCapacity) (mark : s.markHolds e) :
    (s.setEntries (es ++ [e])).seenWf := by
  obtain ⟨once, bound, marks⟩ := h
  refine ⟨?_, ?_, ?_⟩
  · simp only [setEntries_seen, List.map_append, List.map_cons, List.map_nil]
    exact List.nodup_append.2 ⟨once, List.nodup_singleton _, fun a ha b hb => by
      rintro rfl
      exact fresh (List.mem_singleton.1 hb ▸ ha)⟩
  · simpa [setEntries_seen] using room
  · intro x hx
    rcases List.mem_append.1 hx with hx | hx
    · exact marks x hx
    · exact List.mem_singleton.1 hx ▸ mark

theorem seenWf_newEntry {s : State} (h : s.seenWf) (e : SeenEntry) (mark : s.markHolds e) : (s.newEntry e).seenWf := by
  have without := withoutId_sublist s.seen.entries e.identity
  have sub := (makePlace_sublist (withoutId s.seen.entries e.identity)).trans without
  obtain ⟨once, bound, marks⟩ := h
  refine seenWf_append (seenWf_setEntries_of_sublist ⟨once, bound, marks⟩ sub) e ?_ ?_ mark
  · exact fun mem => not_mem_withoutId _ _ (((makePlace_sublist _).map _).subset mem)
  · exact makePlace_length_lt (s := s) ((without.map _).nodup once) (fun x hx => marks x (without.subset hx))
      (without.length_le.trans bound)

theorem seenWf_touchEntry {s : State} (h : s.seenWf) {e : SeenEntry} (e' : SeenEntry) (he : e ∈ s.seen.entries)
    (same : e'.identity = e.identity) (mark : s.markHolds e') : (s.touchEntry e').seenWf := by
  have less := withoutId_length_lt he
  have bound := h.2.1
  unfold State.touchEntry
  rw [same]
  refine seenWf_append (seenWf_setEntries_of_sublist h (withoutId_sublist _ _)) e' ?_ (by omega) mark
  rw [same]
  exact not_mem_withoutId _ _

theorem mem_of_seenEntry {s : State} {id : Identity} {e : SeenEntry} (h : s.seenEntry id = some e) :
    e ∈ s.seen.entries ∧ e.identity = id := by
  unfold State.seenEntry at h
  exact ⟨List.mem_of_find?_eq_some h, by simpa using List.find?_some h⟩

theorem mem_of_seenLookup {s : State} {id : Identity} {e : SeenEntry} (h : s.seenLookup id = some e) :
    e ∈ s.seen.entries ∧ e.identity = id := by
  unfold State.seenLookup at h
  cases found : s.seenEntry id with
  | none => simp [found] at h
  | some x =>
    obtain ⟨-, rfl⟩ : s.older x = false ∧ x = e := by simpa [found] using h
    exact mem_of_seenEntry found

theorem markHolds_of_unmarked (s : State) {e : SeenEntry} (h : e.tearPending = none) : s.markHolds e := by
  simp [State.markHolds, h]

theorem seenWf_markTear {s : State} (h : s.seenWf) (i : SlotId) (f : SlotFields)
    (opened : ∃ em wt ex, s.slot i = .opened f em wt ex) : (s.markTear i f).seenWf := by
  obtain ⟨em, wt, ex, hs⟩ := opened
  unfold State.markTear
  split
  · next e found =>
    obtain ⟨he, hid⟩ := mem_of_seenLookup found
    refine seenWf_touchEntry h _ he rfl fun j hj => ?_
    obtain rfl : i = j := Option.some.inj hj
    exact ⟨f, em, wt, ex, hs, hid.symm⟩
  · refine seenWf_newEntry h _ fun j hj => ?_
    obtain rfl : i = j := Option.some.inj hj
    exact ⟨f, em, wt, ex, hs, rfl⟩

/-- The slot that closes takes its identity's mark with it. -/
theorem seenWf_close {s : State} (h : s.seenWf) {i : SlotId} {f : SlotFields} {em : Bool} {wt ex : Option Nat}
    (hs : s.slot i = .opened f em wt ex) : ((s.setSlot i .free).unmarkTear f.identity).seenWf := by
  obtain ⟨once, bound, marks⟩ := h
  refine ⟨?_, ?_, ?_⟩
  · have ids : (s.seen.entries.map (fun e => if e.identity = f.identity then { e with tearPending := none } else e)).map
        (·.identity) = s.seen.entries.map (·.identity) := by
      rw [List.map_map]
      refine List.map_congr_left fun e _ => ?_
      dsimp only [Function.comp]
      split <;> rfl
    simpa [State.unmarkTear, ids] using once
  · simpa [State.unmarkTear] using bound
  · intro e he j hj
    simp only [State.unmarkTear, setEntries_seen, setSlot_seen] at he
    obtain ⟨x, hx, rfl⟩ := List.mem_map.1 he
    by_cases same : x.identity = f.identity
    · simp [same] at hj
    · simp only [same, if_false] at hj ⊢
      obtain ⟨g, em', wt', ex', hg, hid⟩ := marks x hx j hj
      have hij : j ≠ i := by
        rintro rfl
        rw [hs] at hg
        exact same (by rw [← hid, (Slot.opened.inj hg).1])
      exact ⟨g, em', wt', ex', (slot_setSlot_ne s hij .free).trans hg, hid⟩

end Sys2Proof.Machine
end

section
namespace Sys2Proof.Machine

/-! ### What a command keeps -/

/-- The invariants of every store pass from one state to a later one, and the queue of commands stands. -/
structure KeepsStores (s t : State) : Prop where
  queue : t.pending = s.pending
  journal : s.journal.wf → t.journal.wf
  hot : s.hot.wf → t.hot.wf
  claims : s.claimsApart → t.claimsApart
  seen : s.seenWf → t.seenWf
  clock : s.clock.wf → t.clock.wf
  notices : s.notices.wf → t.notices.wf

/-- What an operation of the part keeps: the stores' invariants, and the Link but for the COMPLETION it may place. -/
structure Keeps (s t : State) : Prop where
  stores : KeepsStores s t
  link : t.link = { s.link with completion := t.link.completion }

/-- Two states agree on what the stores' invariants speak of. -/
def SameStores (s t : State) : Prop :=
  t.pending = s.pending ∧ t.journal = s.journal ∧ t.hot = s.hot ∧ t.claims = s.claims ∧ t.seen.entries = s.seen.entries ∧
  t.recovery = s.recovery ∧ t.clock = s.clock ∧ t.notices.conditions = s.notices.conditions ∧
  t.notices.pending = s.notices.pending ∧ t.notices.levels = s.notices.levels

/-- They agree on the Link too, but for the COMPLETION. -/
def Same (s t : State) : Prop := SameStores s t ∧ t.link = { s.link with completion := t.link.completion }

theorem noticesWf_congr {u v : Notices} (conditions : v.conditions = u.conditions) (pending : v.pending = u.pending)
    (levels : v.levels = u.levels) (h : u.wf) : v.wf := by
  simpa only [Notices.wf, Notices.level, conditions, pending, levels] using h

theorem claimsApart_congr {s t : State} (claims : t.claims = s.claims) (h : s.claimsApart) : t.claimsApart := by
  simpa only [State.claimsApart, State.claim, claims] using h

variable {s t : State}

theorem KeepsStores.refl (s : State) : KeepsStores s s := ⟨rfl, id, id, id, id, id, id⟩

theorem KeepsStores.trans {u : State} (h : KeepsStores s t) (k : KeepsStores t u) : KeepsStores s u :=
  ⟨k.queue.trans h.queue, k.journal ∘ h.journal, k.hot ∘ h.hot, k.claims ∘ h.claims, k.seen ∘ h.seen, k.clock ∘ h.clock,
   k.notices ∘ h.notices⟩

theorem KeepsStores.of_same (h : SameStores s t) : KeepsStores s t := by
  obtain ⟨queue, journal, hot, claims, entries, recovery, clock, conditions, pending, levels⟩ := h
  exact ⟨queue, fun w => journal ▸ w, fun w => hot ▸ w, claimsApart_congr claims, seenWf_congr entries recovery,
    fun w => clock ▸ w, noticesWf_congr conditions pending levels⟩

theorem Keeps.refl (s : State) : Keeps s s := ⟨.refl s, rfl⟩

theorem Keeps.trans {u : State} (h : Keeps s t) (k : Keeps t u) : Keeps s u :=
  ⟨h.stores.trans k.stores, by rw [k.link, h.link]⟩

theorem Keeps.of_same (h : Same s t) : Keeps s t := ⟨.of_same h.1, h.2⟩

/-- A change that none of the invariants speaks of. -/
theorem Keeps.same {u : State} (h : Keeps s t) (same : Same t u) : Keeps s u := h.trans (.of_same same)

/-- A change of the Journal, and of what no invariant speaks of. -/
theorem Keeps.ofJournal {u : State} (h : Keeps s t) (same : Same { t with journal := u.journal } u)
    (wf : t.journal.wf → u.journal.wf) : Keeps s u :=
  h.trans ((⟨⟨rfl, wf, id, id, id, id, id⟩, rfl⟩ : Keeps t { t with journal := u.journal }).same same)

/-- A change of the seen entries or the slots. -/
theorem Keeps.ofSeen {u : State} (h : Keeps s t) (same : Same { t with seen := u.seen, recovery := u.recovery } u)
    (wf : t.seenWf → u.seenWf) : Keeps s u :=
  h.trans ((⟨⟨rfl, id, id, id, fun w => seenWf_congr rfl rfl (wf w), id, id⟩, rfl⟩ :
    Keeps t { t with seen := u.seen, recovery := u.recovery }).same same)

theorem Keeps.ite {p : Prop} [Decidable p] {a b : State} (yes : p → Keeps s a) (no : ¬ p → Keeps s b) :
    Keeps s (if p then a else b) := by
  split
  · next c => exact yes c
  · next c => exact no c

theorem Keeps.foldl {β : Type} {f : State → β → State} (each : ∀ {t} b, Keeps s t → Keeps s (f t b)) :
    ∀ (bs : List β) {t : State}, Keeps s t → Keeps s (bs.foldl f t)
  | [], _, h => h
  | b :: bs, _, h => Keeps.foldl each bs (each b h)

theorem Keeps.eachLane {f : LaneId → State → State} (h : Keeps s t) (each : ∀ n {t}, Keeps s t → Keeps s (f n t)) :
    Keeps s (t.eachLane f) := Keeps.foldl (fun n => each n) laneIds h

/-! ### Lanes, requests and the Emergency Input: no store of an invariant -/

theorem Keeps.setLane (h : Keeps s t) (n : LaneId) (l : Lane) : Keeps s (t.setLane n l) := h.same (by simp [Same, SameStores])
theorem Keeps.updLane (h : Keeps s t) (n : LaneId) (f : Lane → Lane) : Keeps s (t.updLane n f) := h.same (by simp [Same, SameStores])
theorem Keeps.updEngine (h : Keeps s t) (n : LaneId) (f : Engine → Engine) : Keeps s (t.updEngine n f) :=
  h.same (by simp [Same, SameStores])
theorem Keeps.updGate (h : Keeps s t) (n : LaneId) (f : Gate → Gate) : Keeps s (t.updGate n f) := h.same (by simp [Same, SameStores])
theorem Keeps.updCounters (h : Keeps s t) (n : LaneId) (f : Counters → Counters) : Keeps s (t.updCounters n f) :=
  h.same (by simp [Same, SameStores])
theorem Keeps.updPort (h : Keeps s t) (n : LaneId) (side : Side) (f : Port → Port) : Keeps s (t.updPort n side f) :=
  h.same (by simp [Same, SameStores])
theorem Keeps.settleGate (h : Keeps s t) (n : LaneId) : Keeps s (t.settleGate n) := h.same (by simp [Same, SameStores])
theorem Keeps.takeOffers (h : Keeps s t) (n : LaneId) : Keeps s (t.takeOffers n) := h.same (by simp [Same, SameStores])
theorem Keeps.enqueue (h : Keeps s t) (n : LaneId) (g : Grant) : Keeps s (t.enqueue n g) := h.same (by simp [Same, SameStores])
theorem Keeps.countRefusal (h : Keeps s t) (n : LaneId) (r : RefusalCode) : Keeps s (t.countRefusal n r) :=
  h.same (by simp [Same, SameStores])
theorem Keeps.markRefused (h : Keeps s t) (n : LaneId) (r : RefusalCode) : Keeps s (t.markRefused n r) :=
  h.same (by simp [Same, SameStores])
theorem Keeps.endExchange (h : Keeps s t) (n : LaneId) (side : Side) : Keeps s (t.endExchange n side) :=
  h.same (by simp [Same, SameStores])
theorem Keeps.raise (h : Keeps s t) (k : NoticeKind) (a : Target) (d : List Byte) : Keeps s (t.raise k a d) :=
  h.same (by simp [Same, SameStores])
theorem Keeps.sendGrantUpdate (h : Keeps s t) (n : LaneId) (passed : Bool) (g : Grant) : Keeps s (t.sendGrantUpdate n passed g) :=
  h.same (by simp [Same, SameStores])
theorem endLong_link (s : State) (x : Option Sense) :
    (s.endLong x).link = { s.link with completion := (s.endLong x).link.completion } := by
  unfold State.endLong
  split
  · cases x <;> rfl
  · rfl

theorem Keeps.endLong (h : Keeps s t) (x : Option Sense) : Keeps s (t.endLong x) :=
  h.same ⟨by simp [SameStores], endLong_link t x⟩
theorem Keeps.setStage (h : Keeps s t) (k : Nat) : Keeps s (t.setStage k) := h.same (by simp [Same, SameStores])
theorem Keeps.setPending (h : Keeps s t) (p : PendingTable) : Keeps s (t.setPending p) := h.same (by simp [Same, SameStores])
theorem Keeps.startLong (h : Keeps s t) (r : Request) : Keeps s (t.startLong r) := h.same (by simp [Same, SameStores])
theorem Keeps.updEmergency (h : Keeps s t) (f : EmergencyInput → EmergencyInput) : Keeps s (t.updEmergency f) :=
  h.same (by simp [Same, SameStores])
theorem Keeps.handTime (h : Keeps s t) : Keeps s t.handTime := h.same (by simp [Same, SameStores])
theorem Keeps.boundVersionOr (h : Keeps s t) (e : Engine) : Keeps s (t.boundVersionOr e).2 := h.same (by simp [Same, SameStores])
theorem Keeps.fresh (h : Keeps s t) : Keeps s t.fresh.2 := h.same (by simp [Same, SameStores])
theorem Keeps.expiryFrom (h : Keeps s t) (v : Nat) : Keeps s (t.expiryFrom v).2 := h.same (by simp [Same, SameStores])
theorem Keeps.handLine (h : Keeps s t) (c : LineChange) : Keeps s (t.handLine c) := h.same (by simp [Same, SameStores])

/-! ### The Journal (R154 to R158) -/

theorem Keeps.append (h : Keeps s t) (lane : Option LaneId) (flags : RecordFlags) (b : RecordBody) :
    Keeps s (t.append lane flags b).1 := h.ofJournal (by simp [Same, SameStores]) fun w => append_wf w lane flags b

theorem Keeps.record (h : Keeps s t) (lane : Option LaneId) (flags : RecordFlags) (b : RecordBody) :
    Keeps s (t.record lane flags b) := h.append lane flags b

/-! ### The Gate Controller -/

theorem Keeps.forfeitGrant (h : Keeps s t) (n : LaneId) (c : ForfeitCause) (g : Grant) : Keeps s (t.forfeitGrant n c g) :=
  ((h.record _ _ _).sendGrantUpdate _ _ _).updCounters _ _

theorem Keeps.forfeit (h : Keeps s t) (n : LaneId) (c : ForfeitCause) : Keeps s (t.forfeit n c) :=
  (Keeps.foldl (fun g k => k.forfeitGrant n c g) _ h).updGate _ _

theorem Keeps.enterOutOfService (h : Keeps s t) (n : LaneId) : Keeps s (t.enterOutOfService n) :=
  (((h.updGate _ _).forfeit _ _).updGate _ _).settleGate _

theorem Keeps.leaveOutOfService (h : Keeps s t) (n : LaneId) : Keeps s (t.leaveOutOfService n) := (h.updGate _ _).settleGate _

theorem Keeps.settleService (h : Keeps s t) (n : LaneId) : Keeps s (t.settleService n) := by
  unfold State.settleService
  exact .ite (fun _ => h) fun _ => .ite (fun _ => h.enterOutOfService n) fun _ => .ite (fun _ => h.leaveOutOfService n) fun _ => h

theorem Keeps.settleReadiness (h : Keeps s t) (before : Bool) : Keeps s (t.settleReadiness before) :=
  .ite (fun _ => h) fun _ => h.eachLane fun n _ k => k.settleService n

theorem Keeps.gateFault (h : Keeps s t) (n : LaneId) : Keeps s (t.gateFault n) :=
  ((((h.updGate _ _).forfeit _ _).record _ _ _).raise _ _ _).settleGate _

theorem Keeps.resetGate (h : Keeps s t) (n : LaneId) : Keeps s (t.resetGate n) := by
  unfold State.resetGate
  exact (((h.forfeit _ _).updGate _ _).updGate _ _).updLane _ _

/-! ### The Fare Store -/

theorem Keeps.considerActivation (h : Keeps s t) : Keeps s t.considerActivation := by
  unfold State.considerActivation
  split
  · exact (((h.same (by simp [Same, SameStores])).record _ _ _).raise _ _ _).settleReadiness _
  · exact h

theorem Keeps.clearFare (h : Keeps s t) : Keeps s t.clearFare := (h.same (by simp [Same, SameStores])).settleReadiness _

theorem Keeps.releaseBinding (h : Keeps s t) : Keeps s t.releaseBinding := by
  unfold State.releaseBinding
  split
  · refine .ite (fun _ => h) fun _ => ?_
    have released : Keeps s { t with fare := { t.fare with retiring := none } } := h.same (by simp [Same, SameStores])
    exact (Keeps.ite (fun _ => released.clearFare) fun _ => released).considerActivation
  · exact h

/-! ### The end of a transaction (R39) -/

theorem Keeps.finishReset (h : Keeps s t) (n : LaneId) : Keeps s (t.finishReset n) := by
  unfold State.finishReset
  exact (((h.resetGate n).updLane _ _).record _ _ _).updLane _ _

theorem Keeps.endTransaction (h : Keeps s t) (n : LaneId) : Keeps s (t.endTransaction n) := by
  unfold State.endTransaction
  refine Keeps.takeOffers (.ite (fun _ => Keeps.finishReset ?_ n) fun _ => ?_) n
  all_goals
    refine Keeps.releaseBinding (Keeps.settleGate (Keeps.updLane ?_ _ _) _)
    split
    · exact h.updPort _ _ _
    · exact h

theorem Keeps.finishing (h : Keeps s t) (n : LaneId) (ds : List Duty) : Keeps s (t.finishing n ds) :=
  .ite (fun _ => (h.updEngine _ _).endTransaction _) fun _ => h.updEngine _ _

theorem Keeps.dutyDone (h : Keeps s t) (n : LaneId) : Keeps s (t.dutyDone n) :=
  .ite (fun _ => (h.updEngine _ _).endTransaction _) fun _ => h.updEngine _ _

theorem Keeps.refuse (h : Keeps s t) (n : LaneId) (r : RefusalCode) (ds : List Duty) : Keeps s (t.refuse n r ds) :=
  (h.markRefused _ _).finishing _ _

theorem Keeps.refuseCard (h : Keeps s t) (n : LaneId) (r : RefusalCode) : Keeps s (t.refuseCard n r) := h.refuse _ _ _

theorem Keeps.refuseClone (h : Keeps s t) (n : LaneId) (r : RefusalCode) : Keeps s (t.refuseClone n r) :=
  (h.updEngine _ _).refuse _ _ _

theorem Keeps.readFails (h : Keeps s t) (n : LaneId) (r : RefusalCode) : Keeps s (t.readFails n r) := h.refuse _ _ _

theorem Keeps.appendCard (h : Keeps s t) (n : LaneId) : Keeps s (t.appendCard n) := by
  unfold State.appendCard
  exact ((h.boundVersionOr _).append _ _ _).updEngine _ _

/-! ### The Recovery Table and the Seen-Card Table -/

/-- A slot that is not OPEN may be given any content. -/
theorem Keeps.setSlot_of_closed (h : Keeps s t) {i : SlotId} (closed : ∀ f em wt ex, t.slot i ≠ .opened f em wt ex) (x : Slot) :
    Keeps s (t.setSlot i x) :=
  h.ofSeen (by simp [Same, SameStores]) fun w => seenWf_setSlot w i x fun f em wt ex o => absurd o (closed f em wt ex)

theorem Keeps.freeReserved (h : Keeps s t) (i : SlotId) : Keeps s (t.freeReserved i) := by
  unfold State.freeReserved
  split
  · next f hs => exact h.setSlot_of_closed (by simp [hs]) _
  · exact h

/-- A slot that was not OPEN is opened and its identity marked. -/
theorem Keeps.openMarked (h : Keeps s t) {i : SlotId} (closed : ∀ f em wt ex, t.slot i ≠ .opened f em wt ex) (f : SlotFields)
    (em : Bool) (wt ex : Option Nat) : Keeps s ((t.setSlot i (.opened f em wt ex)).markTear i f) :=
  (h.setSlot_of_closed closed _).ofSeen (by simp [Same, SameStores]) fun w =>
    seenWf_markTear w i f ⟨em, wt, ex, slot_setSlot_self _ _ _⟩

theorem Keeps.openReserved (h : Keeps s t) (i : SlotId) (em : Bool) : Keeps s (t.openReserved i em) := by
  unfold State.openReserved
  split
  · next f hs =>
    refine .ite (fun _ => ?_) fun _ => ?_
    · have slot : (t.expiryFrom t.clock.time).2.slot i = .reserved f := by simpa [State.slot] using hs
      have closed : ∀ g em wt ex, (t.expiryFrom t.clock.time).2.slot i ≠ .opened g em wt ex := by simp [slot]
      exact (h.expiryFrom _).openMarked closed _ _ _ _
    · exact h.openMarked (by simp [hs]) _ _ _ _
  · exact h

theorem Keeps.raiseSeenCounter (h : Keeps s t) (id : Identity) (c : Nat) : Keeps s (t.raiseSeenCounter id c) :=
  h.ofSeen (by simp [Same, SameStores]) fun w => by
    refine seenWf_setEntries_map w _ (fun e => ?_) fun e i => ?_
    · split <;> rfl
    · split <;> exact fun h => h

theorem Keeps.closeSlot (h : Keeps s t) (i : SlotId) (o : TearOutcome) (n : LaneId) : Keeps s (t.closeSlot i o n).1 := by
  unfold State.closeSlot
  split
  · next f em wt ex hs =>
    dsimp only
    have closed : ∀ c flags b, Keeps s ((((t.append c flags b).1).setSlot i .free).unmarkTear f.identity) := fun c flags b =>
      (h.append c flags b).ofSeen (by simp [Same, SameStores]) fun w =>
        seenWf_close w (em := em) (wt := wt) (ex := ex) (by simpa [State.slot] using hs)
    exact .ite (fun _ => (closed _ _ _).raiseSeenCounter _ _) fun _ => closed _ _ _
  · exact h

theorem Keeps.newEntry (h : Keeps s t) {e : SeenEntry} (unmarked : e.tearPending = none) : Keeps s (t.newEntry e) :=
  h.ofSeen (by simp [Same, SameStores]) fun w => seenWf_newEntry w e (markHolds_of_unmarked t unmarked)

theorem Keeps.touchEntry (h : Keeps s t) {e : SeenEntry} (e' : SeenEntry) (he : e ∈ t.seen.entries)
    (same : e'.identity = e.identity) (mark : e'.tearPending = e.tearPending) : Keeps s (t.touchEntry e') :=
  h.ofSeen (by simp [Same, SameStores]) fun w => seenWf_touchEntry w e' he same (by
    have marks := w.2.2 e he
    simpa only [State.markHolds, same, mark] using marks)

theorem Keeps.takeSeenChange (h : Keeps s t) (u : SeenChange) : Keeps s (t.takeSeenChange u) := by
  have made : Keeps s (t.entryFrom u) := by
    unfold State.entryFrom
    split
    · exact h.newEntry rfl
    · exact h.fresh.newEntry rfl
  unfold State.takeSeenChange
  split
  · exact made
  · next e found => exact .ite (fun _ => made) fun _ => h.touchEntry _ (mem_of_seenEntry found).1 rfl rfl

theorem Keeps.takeGrantUpdate (h : Keeps s t) (u : GrantUpdate) : Keeps s (t.takeGrantUpdate u) := by
  unfold State.takeGrantUpdate
  split
  · next e found => exact .ite (fun _ => h.touchEntry _ (mem_of_seenLookup found).1 rfl rfl) fun _ => h
  · exact h

theorem Keeps.filterEntries (h : Keeps s t) (p : SeenEntry → Bool) : Keeps s (t.setEntries (t.seen.entries.filter p)) :=
  h.ofSeen (by simp [Same, SameStores]) fun w => seenWf_setEntries_of_sublist w List.filter_sublist

theorem Keeps.clearSuspect (h : Keeps s t) (id : Identity) : Keeps s (t.clearSuspect id) :=
  h.ofSeen (by simp [Same, SameStores]) fun w => by
    refine seenWf_setEntries_map w _ (fun e => ?_) fun e i => ?_
    · split <;> rfl
    · split <;> exact fun h => h

/-! ### Writes, tears and resolutions -/

theorem Keeps.recordFreeing (h : Keeps s t) (n : LaneId) : Keeps s (t.recordFreeing n) := by
  unfold State.recordFreeing
  refine Keeps.updEngine ?_ _ _
  split
  · exact (h.appendCard n).freeReserved _
  · exact h.appendCard n

theorem Keeps.refuseFreeing (h : Keeps s t) (n : LaneId) (r : RefusalCode) : Keeps s (t.refuseFreeing n r) :=
  ((h.markRefused _ _).recordFreeing _).finishing _ _

theorem Keeps.tear (h : Keeps s t) (n : LaneId) : Keeps s (t.tear n) := by
  unfold State.tear
  refine Keeps.updEngine ?_ _ _
  split
  · exact h.openReserved _ _
  · exact h

theorem Keeps.lostDuring (h : Keeps s t) (n : LaneId) : Keeps s (t.lostDuring n) := (h.tear n).finishing _ _

theorem Keeps.writeDone (h : Keeps s t) (n : LaneId) : Keeps s (t.writeDone n) := (h.recordFreeing n).finishing _ _

theorem Keeps.portFault (h : Keeps s t) (n : LaneId) (side : Side) : Keeps s (t.portFault n side) := by
  have faulted := ((h.updLane n (fun l => (l.withdraw side).updPort side (fun p =>
    { p with state := .fault, presence := .none, exchange := none, dropped := true, pollTimer := Config.faultPollPeriod }))).record
      (some n) RecordFlags.clear (.lane (.fault (.head side)))).raise .headFault (.lane n) [sideCode side]
  exact .ite (fun _ => faulted.readFails _ _) fun _ => .ite (fun _ => faulted.lostDuring _) fun _ => faulted

theorem Keeps.resolve (h : Keeps s t) (n : LaneId) : Keeps s (t.resolve n).1 := by
  unfold State.resolve
  dsimp only
  split
  · split
    · dsimp only
      exact (h.closeSlot _ _ _).updEngine _ _
    · exact h
  · exact h

theorem Keeps.abandon (h : Keeps s t) (n : LaneId) (r : RefusalCode) : Keeps s (t.abandon n r) := by
  unfold State.abandon
  dsimp only
  refine Keeps.refuse ?_ _ _ _
  have resolved : Keeps s (if (t.lane n).engine.phase = .resolving then (t.resolve n).1 else t) :=
    .ite (fun _ => h.resolve n) fun _ => h
  split
  · exact .ite (fun _ => resolved.endExchange _ _) fun _ => resolved
  · exact resolved

theorem Keeps.resetEngine (h : Keeps s t) (n : LaneId) : Keeps s (t.resetEngine n) := by
  unfold State.resetEngine
  dsimp only
  split
  case h_1 => exact (h.finishReset n).takeOffers n
  case h_2 => exact h
  case h_3 =>
    refine Keeps.lostDuring ?_ n
    split
    · exact h.endExchange _ _
    · exact h
  all_goals exact h.abandon n _

theorem Keeps.resetLane (h : Keeps s t) (n : LaneId) (k : ResetKind) : Keeps s (t.resetLane n k) :=
  (h.updLane _ _).resetEngine n

end Sys2Proof.Machine
end

section
/-! The invariants of the Hot List Store, the Claim Table, the Notice Unit, the Station Clock and the Journal under the operations
that write them (R72, R82 to R92, R162, R163, R181 to R190). -/

namespace Sys2Proof.Machine

/-! ### Ascending identities (R82) -/

theorem ascending_iff_isChain : ∀ ids : List Identity, ascending ids = true ↔ ids.IsChain (fun a b => a.toNat < b.toNat)
  | [] => by simp [ascending]
  | [a] => by simp [ascending]
  | a :: b :: ids => by simp [ascending, List.isChain_cons_cons, ascending_iff_isChain (b :: ids)]

/-- An ascending list takes a further identity when that lies above its last. -/
theorem ascending_concat (ids : List Identity) (x : Identity) :
    ascending (ids ++ [x]) = true ↔ ascending ids = true ∧ ∀ l ∈ ids.getLast?, l.toNat < x.toNat := by
  simp [ascending_iff_isChain, List.isChain_append]

/-- What a segment stores continues the standby bank in order and within the total (R85). -/
theorem storeIdentities_ok {total : Nat} : ∀ (xs : List Identity) (position : Nat) (bank stored : List Identity) (running : Nat)
    (last : Option Identity) {out : List Identity} {count : Nat} {newest : Option Identity},
    storeIdentities total xs position stored running last = .ok (out, count, newest) →
    ascending (bank ++ stored) = true → running = (bank ++ stored).length → running ≤ total → last = (bank ++ stored).getLast? →
    ascending (bank ++ out) = true ∧ count = (bank ++ out).length ∧ count ≤ total ∧ newest = (bank ++ out).getLast?
  | [], _, bank, stored, running, last, out, count, newest, ok, order, length, bound, newestStored => by
    obtain ⟨rfl, rfl, rfl⟩ : stored = out ∧ running = count ∧ last = newest := by simpa [storeIdentities] using ok
    exact ⟨order, length, bound, newestStored⟩
  | x :: xs, position, bank, stored, running, last, out, count, newest, ok, order, length, bound, newestStored => by
    unfold storeIdentities at ok
    split at ok
    · exact absurd ok (by simp)
    next above =>
      split at ok
      · exact absurd ok (by simp)
      next room =>
        have later : ∀ l ∈ (bank ++ stored).getLast?, l.toNat < x.toNat := by
          rw [← newestStored]
          intro l hl
          simpa [Option.mem_def.1 hl] using above
        have assoc : bank ++ (stored ++ [x]) = (bank ++ stored) ++ [x] := (List.append_assoc _ _ _).symm
        refine storeIdentities_ok xs (position + 1) bank (stored ++ [x]) (running + 1) (some x) ok ?_ ?_ (by omega) ?_
        · rw [assoc]
          exact (ascending_concat _ _).2 ⟨order, later⟩
        · rw [assoc, List.length_append, ← length]
          rfl
        · rw [assoc, List.getLast?_concat]

theorem nodup_map_concat {α β : Type} {key : α → β} {l : List α} {x : α} (once : (l.map key).Nodup) (fresh : key x ∉ l.map key) :
    ((l ++ [x]).map key).Nodup := by
  rw [List.map_append, List.map_singleton, ← List.concat_eq_append]
  exact once.concat fresh

/-! ### The Hot List Store (R82 to R92) -/

theorem Bank.wf_empty (version : Option Nat) : (Bank.mk version []).wf := ⟨rfl, Nat.zero_le _⟩

theorem HotStore.wf_abandon {h : HotStore} (w : h.wf) : h.abandon.wf := by
  obtain ⟨active, _, _, locals⟩ := w
  exact ⟨active, Bank.wf_empty none, trivial, locals⟩

theorem HotStore.wf_begin {h : HotStore} (w : h.wf) {version total : Nat} (bound : total ≤ Config.bankCapacity) :
    { h with standby := ⟨none, []⟩, complete := false, load := .loading version total 0 none : HotStore }.wf := by
  obtain ⟨active, _, _, locals⟩ := w
  exact ⟨active, Bank.wf_empty none, ⟨rfl, Nat.zero_le _, bound, rfl⟩, locals⟩

theorem HotStore.wf_clear : HotStore.wf ⟨⟨none, []⟩, ⟨none, []⟩, false, .idle, []⟩ :=
  ⟨Bank.wf_empty none, Bank.wf_empty none, trivial, List.nodup_nil, by simp, Nat.zero_le _⟩

theorem HotStore.wf_powerUp {h : HotStore} (w : h.wf) : h.powerUp.wf := by
  obtain ⟨active, standby, _, locals⟩ := w
  refine ⟨active, ?_, trivial, locals⟩
  unfold HotStore.powerUp
  dsimp only
  split
  · exact standby
  · exact Bank.wf_empty none

theorem Bank.not_mem_of_holds {b : Bank} {id : Identity} (h : b.holds id = false) : id ∉ b.ids := by
  simpa [Bank.holds] using h

theorem HotStore.wf_swap {h : HotStore} (w : h.wf) (version : Nat) : (h.swap version).wf := by
  obtain ⟨active, standby, _, once, _, bound⟩ := w
  have sub : (h.locals.filter (fun e => !((Bank.mk (some version) h.standby.ids).holds e.identity))).Sublist h.locals :=
    List.filter_sublist
  refine ⟨standby, active, trivial, (sub.map _).nodup once, fun e he => ?_, sub.length_le.trans bound⟩
  exact Bank.not_mem_of_holds (b := ⟨some version, h.standby.ids⟩) (by simpa using (List.mem_filter.1 he).2)

/-- Fewer local entries keep the form. -/
theorem HotStore.wf_locals_of_sublist {h : HotStore} (w : h.wf) {es : List LocalEntry} (sub : es.Sublist h.locals) :
    { h with locals := es }.wf := by
  obtain ⟨active, standby, load, once, apart, bound⟩ := w
  exact ⟨active, standby, load, (sub.map _).nodup once, fun e he => apart e (sub.subset he), sub.length_le.trans bound⟩

/-- A new local entry keeps the form where neither list holds its identity and there is a place. -/
theorem HotStore.wf_addLocal {h : HotStore} (w : h.wf) (e : LocalEntry) (fresh : e.identity ∉ h.locals.map (·.identity))
    (apart : e.identity ∉ h.active.ids) (room : h.locals.length < Config.localCapacity) :
    { h with locals := h.locals ++ [e] }.wf := by
  obtain ⟨active, standby, load, once, others, _⟩ := w
  refine ⟨active, standby, load, ?_, ?_, by simpa using room⟩
  · exact nodup_map_concat once fresh
  · intro x hx
    rcases List.mem_append.1 hx with hx | hx
    · exact others x hx
    · exact List.mem_singleton.1 hx ▸ apart

/-! ### Conditions and notices (R181, R182) -/

theorem saturate_eq_min {top n : Nat} (h : n ≤ top) : saturate top n = min top (n + 1) := by
  unfold saturate
  split <;> omega

/-- Changes made at one pair leave a list without it. -/
theorem map_at_pair_of_absent {α : Type} {kind : α → NoticeKind} {target : α → Target} {k : NoticeKind} {a : Target} (f : α → α)
    {l : List α} (absent : (k, a) ∉ l.map (fun c => (kind c, target c))) :
    l.map (fun c => if kind c = k ∧ target c = a then f c else c) = l := by
  have each : ∀ c ∈ l, (if kind c = k ∧ target c = a then f c else c) = id c := fun c hc =>
    if_neg fun ⟨hk, ha⟩ => absent (List.mem_map.2 ⟨c, hc, by rw [hk, ha]⟩)
  rw [List.map_congr_left each, List.map_id]

/-- A pair that has a condition has it counted again in its place. -/
theorem latch_of_mem {k : NoticeKind} {a : Target} {t : Nat} : ∀ {cs : List Condition},
    (cs.map (fun c => (c.kind, c.target))).Nodup → (k, a) ∈ cs.map (fun c => (c.kind, c.target)) →
    latch k a t cs = cs.map (fun c => if c.kind = k ∧ c.target = a then { c with count := saturate 255 c.count, last := t } else c)
  | [], _, mem => by simp at mem
  | c :: cs, once, mem => by
    obtain ⟨fresh, once⟩ := List.nodup_cons.1 once
    unfold latch
    split
    · next here =>
      rw [List.map_cons, if_pos here, map_at_pair_of_absent _ (here.1 ▸ here.2 ▸ fresh)]
    · next elsewhere =>
      have later : (k, a) ∈ cs.map (fun c => (c.kind, c.target)) :=
        (List.mem_cons.1 mem).resolve_left fun h => elsewhere ⟨(Prod.mk.inj h).1.symm, (Prod.mk.inj h).2.symm⟩
      rw [List.map_cons, if_neg elsewhere, latch_of_mem once later]

/-- A pair without a condition is latched at the end. -/
theorem latch_of_not_mem {k : NoticeKind} {a : Target} {t : Nat} : ∀ {cs : List Condition},
    (k, a) ∉ cs.map (fun c => (c.kind, c.target)) → latch k a t cs = cs ++ [⟨k, a, 1, t, t⟩]
  | [], _ => rfl
  | c :: cs, absent => by
    obtain ⟨elsewhere, absent⟩ := not_or.1 (mt List.mem_cons.2 absent)
    unfold latch
    rw [if_neg fun ⟨hk, ha⟩ => elsewhere (by rw [← hk, ← ha]), latch_of_not_mem absent, List.cons_append]

/-- A pair that has a pending notice has it refreshed in its place. -/
theorem place_of_mem {e : Event} {t : Nat} : ∀ {ps : List PendingNotice},
    (ps.map (fun p => (p.kind, p.target))).Nodup → (e.kind, e.target) ∈ ps.map (fun p => (p.kind, p.target)) →
    place e t ps = ps.map (fun p =>
      if p.kind = e.kind ∧ p.target = e.target then { p with count := saturate 255 p.count, last := t, data := e.data } else p)
  | [], _, mem => by simp at mem
  | p :: ps, once, mem => by
    obtain ⟨fresh, once⟩ := List.nodup_cons.1 once
    unfold place
    split
    · next here =>
      rw [List.map_cons, if_pos here, map_at_pair_of_absent _ (here.1 ▸ here.2 ▸ fresh)]
    · next elsewhere =>
      have later : (e.kind, e.target) ∈ ps.map (fun p => (p.kind, p.target)) :=
        (List.mem_cons.1 mem).resolve_left fun h => elsewhere ⟨(Prod.mk.inj h).1.symm, (Prod.mk.inj h).2.symm⟩
      rw [List.map_cons, if_neg elsewhere, place_of_mem once later]

/-- A pair without a pending notice has one placed at the end. -/
theorem place_of_not_mem {e : Event} {t : Nat} : ∀ {ps : List PendingNotice},
    (e.kind, e.target) ∉ ps.map (fun p => (p.kind, p.target)) →
    place e t ps = ps ++ [⟨e.kind, e.target, 1, t, t, e.data⟩]
  | [], _ => rfl
  | p :: ps, absent => by
    obtain ⟨elsewhere, absent⟩ := not_or.1 (mt List.mem_cons.2 absent)
    unfold place
    rw [if_neg fun ⟨hk, ha⟩ => elsewhere (by rw [← hk, ← ha]), place_of_not_mem absent, List.cons_append]

theorem saturate_range {n : Nat} (h : 1 ≤ n ∧ n ≤ 255) : 1 ≤ saturate 255 n ∧ saturate 255 n ≤ 255 := by
  unfold saturate
  split <;> omega

theorem latch_keeps {k : NoticeKind} {a : Target} {t : Nat} {cs : List Condition}
    (once : (cs.map (fun c => (c.kind, c.target))).Nodup) (counts : ∀ c ∈ cs, 1 ≤ c.count ∧ c.count ≤ 255) :
    ((latch k a t cs).map (fun c => (c.kind, c.target))).Nodup ∧ ∀ c ∈ latch k a t cs, 1 ≤ c.count ∧ c.count ≤ 255 := by
  by_cases mem : (k, a) ∈ cs.map (fun c => (c.kind, c.target))
  · rw [latch_of_mem once mem]
    refine ⟨?_, ?_⟩
    · rw [List.map_map]
      refine (List.map_congr_left fun c _ => ?_) ▸ once
      dsimp only [Function.comp]
      split <;> rfl
    · intro c hc
      obtain ⟨x, hx, rfl⟩ := List.mem_map.1 hc
      split
      · exact saturate_range (counts x hx)
      · exact counts x hx
  · rw [latch_of_not_mem mem]
    refine ⟨nodup_map_concat once mem, fun c hc => ?_⟩
    rcases List.mem_append.1 hc with hc | hc
    · exact counts c hc
    · obtain rfl := List.mem_singleton.1 hc
      exact ⟨Nat.le_refl 1, Nat.le_of_ble_eq_true rfl⟩

theorem place_keeps {e : Event} {t : Nat} {ps : List PendingNotice} {level : NoticeKind → Nat}
    (once : (ps.map (fun p => (p.kind, p.target))).Nodup) (sends : level e.kind ≠ 0)
    (counts : ∀ p ∈ ps, 1 ≤ p.count ∧ p.count ≤ 255 ∧ level p.kind ≠ 0) :
    ((place e t ps).map (fun p => (p.kind, p.target))).Nodup ∧
    ∀ p ∈ place e t ps, 1 ≤ p.count ∧ p.count ≤ 255 ∧ level p.kind ≠ 0 := by
  by_cases mem : (e.kind, e.target) ∈ ps.map (fun p => (p.kind, p.target))
  · rw [place_of_mem once mem]
    refine ⟨?_, ?_⟩
    · rw [List.map_map]
      refine (List.map_congr_left fun p _ => ?_) ▸ once
      dsimp only [Function.comp]
      split <;> rfl
    · intro p hp
      obtain ⟨x, hx, rfl⟩ := List.mem_map.1 hp
      obtain ⟨low, high, sent⟩ := counts x hx
      split
      · exact ⟨(saturate_range ⟨low, high⟩).1, (saturate_range ⟨low, high⟩).2, sent⟩
      · exact ⟨low, high, sent⟩
  · rw [place_of_not_mem mem]
    refine ⟨nodup_map_concat once mem, fun p hp => ?_⟩
    rcases List.mem_append.1 hp with hp | hp
    · exact counts p hp
    · obtain rfl := List.mem_singleton.1 hp
      exact ⟨Nat.le_refl 1, Nat.le_of_ble_eq_true rfl, sends⟩

theorem Notices.wf_take {u : Notices} (w : u.wf) (e : Event) (t : Nat) : (u.take e t).wf := by
  obtain ⟨onceC, onceP, countsC, countsP⟩ := w
  obtain ⟨onceC', countsC'⟩ := latch_keeps (k := e.kind) (a := e.target) (t := t) onceC countsC
  have pending : (((u.take e t).pending).map (fun p => (p.kind, p.target))).Nodup ∧
      ∀ p ∈ (u.take e t).pending, 1 ≤ p.count ∧ p.count ≤ 255 ∧ u.level p.kind ≠ 0 := by
    unfold Notices.take
    dsimp only
    split
    · exact ⟨onceP, countsP⟩
    · next sends => exact place_keeps onceP sends countsP
  exact ⟨onceC', pending.1, countsC', pending.2⟩

/-- Conditions read and notices sent or withdrawn leave a well-formed unit. -/
theorem Notices.wf_of_sublist {u v : Notices} (w : u.wf) (conditions : v.conditions.Sublist u.conditions)
    (pending : v.pending.Sublist u.pending) (levels : ∀ p ∈ v.pending, v.level p.kind ≠ 0) : v.wf := by
  obtain ⟨onceC, onceP, countsC, countsP⟩ := w
  exact ⟨(conditions.map _).nodup onceC, (pending.map _).nodup onceP, fun c hc => countsC c (conditions.subset hc),
    fun p hp => ⟨(countsP p (pending.subset hp)).1, (countsP p (pending.subset hp)).2.1, levels p hp⟩⟩

theorem Notices.wf_cleared (u : Notices) : { u with conditions := [], pending := [] : Notices }.wf := by
  simp [Notices.wf]

/-! ### The records released (R163) -/

theorem Journal.wf_release {j : Journal} (w : j.wf) {q : Nat} (written : q ≤ j.newest) : (j.release q).wf := by
  obtain ⟨seqs, next, times, last, capacity, top, first⟩ := w
  have count : (j.release q).count = j.count - (q + 1 - j.oldest) := by simp [Journal.release, Journal.count]
  unfold Journal.newest at written
  have seqs' : (j.release q).records.map (·.seq) =
      List.range' (j.oldest + (q + 1 - j.oldest)) (j.count - (q + 1 - j.oldest)) := by
    simp only [Journal.release, List.map_drop, seqs, List.drop_range', Nat.mul_one]
  have oldest : (j.release q).oldest = j.oldest + (q + 1 - j.oldest) := by
    cases left : (j.release q).records with
    | nil =>
      have none : (j.release q).count = 0 := by simp [Journal.count, left]
      have empty : (j.release q).oldest = j.next := by simp only [Journal.oldest, left]; rfl
      omega
    | cons r rs =>
      have some : (j.release q).count = rs.length + 1 := by simp [Journal.count, left]
      rw [left, List.map_cons, ← count, some, List.range'_succ] at seqs'
      simp only [Journal.oldest, left]
      exact (List.cons.inj seqs').1
  have sub : (j.release q).records.Sublist j.records := List.drop_sublist _ _
  refine ⟨?_, ?_, times.sublist (sub.map _), fun r hr => last r (sub.subset hr), ?_, top, first⟩
  · rw [seqs', oldest, count]
  · rw [oldest, count]
    change _ = j.next
    omega
  · omega

end Sys2Proof.Machine
end

section
/-! Every command keeps the invariants of the stores: the operations of each block, then the commands one by one. -/

namespace Sys2Proof.Machine

variable {s t : State}

/-! ### One store changed -/

theorem Keeps.ofHot {u : State} (h : Keeps s t) (same : Same { t with hot := u.hot } u) (wf : t.hot.wf → u.hot.wf) :
    Keeps s u :=
  h.trans ((⟨⟨rfl, id, wf, id, id, id, id⟩, rfl⟩ : Keeps t { t with hot := u.hot }).same same)

/-- As ofHot, with the store's form at the start still in hand. -/
theorem Keeps.ofHotSince {u : State} (h : Keeps s t) (same : Same { t with hot := u.hot } u)
    (wf : s.hot.wf → t.hot.wf → u.hot.wf) : Keeps s u :=
  let k : Keeps { t with hot := u.hot } u := .of_same same
  ⟨⟨k.stores.queue.trans h.stores.queue, k.stores.journal ∘ h.stores.journal, fun w => wf w (h.stores.hot w),
    k.stores.claims ∘ h.stores.claims, k.stores.seen ∘ h.stores.seen, k.stores.clock ∘ h.stores.clock,
    k.stores.notices ∘ h.stores.notices⟩, by rw [k.link, h.link]⟩

theorem Keeps.ofClock {u : State} (h : Keeps s t) (same : Same { t with clock := u.clock } u)
    (wf : t.clock.wf → u.clock.wf) : Keeps s u :=
  h.trans ((⟨⟨rfl, id, id, id, id, wf, id⟩, rfl⟩ : Keeps t { t with clock := u.clock }).same same)

theorem Keeps.ofNotices {u : State} (h : Keeps s t) (same : Same { t with notices := u.notices } u)
    (wf : t.notices.wf → u.notices.wf) : Keeps s u :=
  h.trans ((⟨⟨rfl, id, id, id, id, id, wf⟩, rfl⟩ : Keeps t { t with notices := u.notices }).same same)

theorem Keeps.ofClaims {u : State} (h : Keeps s t) (same : Same { t with claims := u.claims } u)
    (wf : t.claimsApart → u.claimsApart) : Keeps s u :=
  h.trans ((⟨⟨rfl, id, id, fun w => claimsApart_congr rfl (wf w), id, id, id⟩, rfl⟩ : Keeps t { t with claims := u.claims }).same same)

/-! ### Admission, screening and fares (02, 03, 04) -/

theorem Keeps.requestAdmission (h : Keeps s t) (n : LaneId) : Keeps s (t.requestAdmission n) := by
  unfold State.requestAdmission
  refine .ite (fun _ => ?_) fun _ => h
  split
  · split
    · exact h.refuse _ _ _
    · exact .ite (fun _ => (h.updLane _ _).refuse _ _ _) fun _ => (h.updLane _ _).updEngine _ _
  · exact h

theorem Keeps.askRead (h : Keeps s t) (n : LaneId) (side : Side) (id : Identity) : Keeps s (t.askRead n side id) :=
  have asked := h.updPort n side (fun p => { p with gone := false, dropped := false })
  .ite (fun _ => asked.readFails _ _) fun _ => .ite (fun _ => asked.readFails _ _) fun _ =>
    (asked.updPort _ _ _).updEngine _ _

theorem Keeps.askJournal (h : Keeps s t) (n : LaneId) : Keeps s (t.askJournal n) := by
  unfold State.askJournal
  refine .ite (fun _ => .ite (fun _ => ?_) fun _ => h.refuse _ _ _) fun _ => h
  split
  · dsimp only
    split
    · exact (h.updEngine _ _).askRead _ _ _
    · exact (h.updEngine _ _).refuse _ _ _
  · exact h

theorem Keeps.lookUpHotList (h : Keeps s t) (n : LaneId) : Keeps s (t.lookUpHotList n) := by
  unfold State.lookUpHotList
  exact .ite (fun _ => .ite (fun _ => (h.raise _ _ _).refuseCard _ _) fun _ => h.updEngine _ _) fun _ => h

/-- A claim that no other lane holds may be given (R72). -/
theorem claimsApart_setClaim (h : t.claimsApart) {n : LaneId} {id : Identity} (unheld : (t.holder n id).isSome = false) :
    (t.setClaim n (some id)).claimsApart := by
  have other : ∀ m, m ≠ n → t.claim m ≠ some id := by
    intro m hm held
    have seen : m ∈ laneIds := by fin_cases m <;> simp [laneIds]
    have found : t.holder n id = none := by simpa using unheld
    simpa [hm, held] using List.find?_eq_none.1 found m seen
  intro a b x ha hb
  by_cases han : a = n <;> by_cases hbn : b = n
  · rw [han, hbn]
  · subst han
    rw [claim_setClaim_self] at ha
    rw [claim_setClaim_ne t hbn] at hb
    exact absurd (ha ▸ hb) (other b hbn)
  · subst hbn
    rw [claim_setClaim_self] at hb
    rw [claim_setClaim_ne t han] at ha
    exact absurd (hb ▸ ha) (other a han)
  · rw [claim_setClaim_ne t han] at ha
    rw [claim_setClaim_ne t hbn] at hb
    exact h a b x ha hb

theorem claimsApart_release (h : t.claimsApart) (n : LaneId) : (t.setClaim n none).claimsApart := by
  have held : ∀ m id, (t.setClaim n none).claim m = some id → t.claim m = some id := by
    intro m id hm
    by_cases hmn : m = n
    · subst hmn
      simp at hm
    · rwa [claim_setClaim_ne t hmn] at hm
  exact fun a b id ha hb => h a b id (held a id ha) (held b id hb)

theorem Keeps.requestClaim (h : Keeps s t) (n : LaneId) : Keeps s (t.requestClaim n) := by
  unfold State.requestClaim
  refine .ite (fun _ => .ite (fun _ => h.refuseClone _ _) fun unheld => ?_) fun _ => h
  exact (h.ofClaims (u := t.setClaim n (some ((t.lane n).engine.identity.getD 0))) (by simp [Same, SameStores]) fun w =>
    claimsApart_setClaim w (by simpa using unheld)).updEngine _ _

theorem Keeps.takeComputed (h : Keeps s t) (n : LaneId) (f : FareTable) (p : Product) (c : Computed) :
    Keeps s (t.takeComputed n f p c) := by
  unfold State.takeComputed
  dsimp only
  split
  · exact h.refuseCard _ _
  · exact h.updEngine _ _

theorem Keeps.reGrant (h : Keeps s t) (n : LaneId) (k : GrantKind) : Keeps s (t.reGrant n k) := (h.updEngine _ _).finishing _ _

theorem Keeps.tripCheck (h : Keeps s t) (n : LaneId) (f : FareTable) (p : Product) : Keeps s (t.tripCheck n f p) := by
  unfold State.tripCheck
  dsimp only
  split
  · exact h.reGrant _ _
  · exact h.refuseCard _ _
  · exact h.updEngine _ _
  · exact h.takeComputed _ _ _ _

theorem Keeps.productChecks (h : Keeps s t) (n : LaneId) : Keeps s (t.productChecks n) := by
  unfold State.productChecks
  dsimp only
  refine .ite (fun _ => h.refuseCard _ _) fun _ => ?_
  split
  · exact h.refuseCard _ _
  · split
    · exact h.refuseCard _ _
    · exact h.tripCheck _ _ _

theorem Keeps.screenCounter (h : Keeps s t) (n : LaneId) : Keeps s (t.screenCounter n) :=
  .ite (fun _ => h.refuseClone _ _) fun _ => .ite (fun _ => h.refuseCard _ _) fun _ => h.productChecks _

theorem Keeps.requestResolution (h : Keeps s t) (n : LaneId) : Keeps s (t.requestResolution n) := by
  unfold State.requestResolution
  refine .ite (fun _ => ?_) fun _ => h
  have resolved := h.resolve n
  dsimp only
  split
  · exact .ite (fun _ => resolved.reGrant _ _) fun _ => resolved.refuseCard _ _
  · exact resolved.refuseClone _ _
  · exact resolved.screenCounter _

theorem Keeps.askIncident (h : Keeps s t) (n : LaneId) : Keeps s (t.askIncident n) := by
  unfold State.askIncident
  refine .ite (fun _ => ?_) fun _ => h
  split
  · exact h.takeComputed _ _ _ _
  · exact h.refuseCard _ _

theorem Keeps.startWrite (h : Keeps s t) (n : LaneId) {i : SlotId} (closed : ∀ f em wt ex, t.slot i ≠ .opened f em wt ex) :
    Keeps s (t.startWrite n i) := by
  unfold State.startWrite
  dsimp only
  split
  · exact h.refuseFreeing _ _
  · have reserved : ∀ (f : Engine → Engine) (x : Slot), Keeps s ((t.updEngine n f).setSlot i x) := fun f x =>
      (h.updEngine n f).setSlot_of_closed closed x
    split
    · exact .ite (fun _ => (reserved _ _).refuseFreeing _ _) fun _ => (reserved _ _).updPort _ _ _
    · exact reserved _ _

theorem slot_of_freeSlot {i : SlotId} (h : t.freeSlot = some i) : t.slot i = .free := by
  simpa using List.find?_some h

theorem Keeps.requestReservation (h : Keeps s t) (n : LaneId) : Keeps s (t.requestReservation n) := by
  unfold State.requestReservation
  refine .ite (fun _ => .ite (fun _ => h.refuseCard _ _) fun _ => ?_) fun _ => h
  split
  · exact h.refuseCard _ _
  · next i free =>
    have reserved := h.setSlot_of_closed (i := i) (by simp [slot_of_freeSlot free]) (.reserved ((t.lane n).engine.slotFields n))
    refine (reserved.updEngine _ _).startWrite n fun f em wt ex => ?_
    have slot : ((t.setSlot i (.reserved ((t.lane n).engine.slotFields n))).updEngine n
        (fun e => { e with phase := .writing, awaiting := .nothing, slot := some i })).slot i =
        .reserved ((t.lane n).engine.slotFields n) := slot_setSlot_self t i _
    simp [slot]

/-! ### FINISHING (R39) -/

theorem Keeps.duty (h : Keeps s t) (n : LaneId) (d : Duty) {f : State → State} (made : Keeps s (f t)) : Keeps s (t.duty n d f) :=
  .ite (fun _ => made.dutyDone n) fun _ => h

theorem Keeps.releaseClaim (h : Keeps s t) (n : LaneId) : Keeps s (t.setClaim n none) :=
  h.ofClaims (by simp [Same, SameStores]) fun w => claimsApart_release w n

/-- A full local list gives up its oldest entry before an addition (R91). -/
def State.evictLocal (s : State) : State :=
  match s.hot.locals with
  | oldest :: rest =>
    if Config.localCapacity ≤ s.hot.locals.length then
      (({ s with hot := { s.hot with locals := rest } }).record none RecordFlags.clear (.listLocalEvict oldest.identity)).raise
        .localHotlistEvict .part (idBytes oldest.identity)
    else s
  | [] => s

theorem addLocal_eq (s : State) (n : LaneId) (id : Identity) :
    s.addLocal n id =
      if s.hot.active.holds id || s.hot.localHolds id then s
      else
        ({ s.evictLocal with hot := { s.evictLocal.hot with
              locals := s.evictLocal.hot.locals ++ [LocalEntry.mk id s.evictLocal.clock.time n] } }).record
          (some n) RecordFlags.clear (.listLocalAdd id) := rfl

theorem evictLocal_hot (s : State) :
    s.evictLocal.hot =
      { s.hot with locals := if Config.localCapacity ≤ s.hot.locals.length then s.hot.locals.drop 1 else s.hot.locals } := by
  unfold State.evictLocal
  split
  · next oldest rest locals =>
    split
    · next full => simp [locals]
    · next room => simp
  · next empty => rw [if_neg (by simp [empty, Config.localCapacity])]

theorem Keeps.evictLocal (h : Keeps s t) : Keeps s t.evictLocal := by
  unfold State.evictLocal
  split
  · next oldest rest locals =>
    refine .ite (fun _ => Keeps.raise (Keeps.record ?_ _ _ _) _ _ _) fun _ => h
    exact h.ofHot (by simp [Same, SameStores]) fun w => HotStore.wf_locals_of_sublist w (locals ▸ List.sublist_cons_self _ _)
  · exact h

theorem Keeps.addLocal (h : Keeps s t) (n : LaneId) (id : Identity) : Keeps s (t.addLocal n id) := by
  refine h.trans ?_
  rw [addLocal_eq]
  refine .ite (fun _ => .refl t) fun absent => Keeps.record ?_ _ _ _
  obtain ⟨unlisted, unheld⟩ : t.hot.active.holds id = false ∧ t.hot.localHolds id = false := by simpa using absent
  refine (Keeps.refl t).evictLocal.ofHotSince (by simp [Same, SameStores]) fun first evicted => ?_
  obtain ⟨-, -, -, -, -, bound⟩ := first
  have fresh : id ∉ t.hot.locals.map (·.identity) := by simpa [HotStore.localHolds] using unheld
  have sub : t.evictLocal.hot.locals.Sublist t.hot.locals := by
    rw [evictLocal_hot]
    dsimp only
    split
    · exact List.drop_sublist _ _
    · exact List.Sublist.refl _
  refine HotStore.wf_addLocal evicted _ (fun mem => fresh ((sub.map _).subset mem)) ?_ ?_
  · rw [evictLocal_hot]
    exact Bank.not_mem_of_holds unlisted
  · rw [evictLocal_hot]
    dsimp only
    split
    · next full =>
      rw [List.length_drop]
      unfold Config.localCapacity at *
      omega
    · next room => exact Nat.lt_of_not_le room

theorem Keeps.cloneAlarm (h : Keeps s t) (n : LaneId) : Keeps s (t.cloneAlarm n) := (h.addLocal _ _).raise _ _ _

theorem Keeps.push (h : Keeps s t) (n : LaneId) : Keeps s (t.push n) :=
  .ite (fun _ => ((h.updGate _ _).settleGate _).sendGrantUpdate _ _ _) fun _ => ((h.updGate _ _).enqueue _ _).updEngine _ _

theorem Keeps.applyGrantUpdate (h : Keeps s t) : Keeps s t.applyGrantUpdate := by
  unfold State.applyGrantUpdate
  split
  · exact (h.same (by simp [Same, SameStores])).takeGrantUpdate _
  · exact h

end Sys2Proof.Machine
end

section
/-! Every command keeps the invariants of the stores, continued: heads, gates, the clock, the requests and power; and the statements
that rest on it. -/

namespace Sys2Proof.Machine

variable {s t : State}

/-! ### Heads (01, section 1.2) -/

theorem Keeps.headReady (h : Keeps s t) (n : LaneId) (side : Side) : Keeps s (t.headReady n side) := by
  unfold State.headReady
  dsimp only
  split
  · exact h.updPort _ _ _
  · exact h.updPort _ _ _
  · exact .ite (fun _ => (h.updPort _ _ _).lostDuring _) fun _ =>
      .ite (fun _ => (h.updLane _ _).readFails _ _) fun _ => h.updLane _ _

theorem Keeps.headFaultReport (h : Keeps s t) (n : LaneId) (side : Side) : Keeps s (t.headFaultReport n side) :=
  .ite (fun _ => h) fun _ => h.portFault _ _

theorem Keeps.headTimeout (h : Keeps s t) (n : LaneId) (side : Side) : Keeps s (t.headTimeout n side) :=
  .ite (fun _ => h) fun _ => .ite (fun _ => h.endExchange _ _) fun _ => h.portFault _ _

theorem Keeps.faultPoll (h : Keeps s t) (n : LaneId) (side : Side) : Keeps s (t.faultPoll n side) := h.same (by simp [Same, SameStores])

theorem Keeps.headPresent (h : Keeps s t) (n : LaneId) (side : Side) (id : Identity) : Keeps s (t.headPresent n side id) :=
  h.same (by simp [Same, SameStores])

theorem Keeps.headMultiple (h : Keeps s t) (n : LaneId) (side : Side) : Keeps s (t.headMultiple n side) :=
  h.same (by simp [Same, SameStores])

theorem Keeps.headGone (h : Keeps s t) (n : LaneId) (side : Side) : Keeps s (t.headGone n side) :=
  .ite (fun _ => (h.updLane _ _).readFails _ _) fun _ => h.updLane _ _

theorem Keeps.refuseUnverified (h : Keeps s t) (n : LaneId) (r : RefusalCode) (offered : Identity) :
    Keeps s (t.refuseUnverified n r offered) :=
  Keeps.refuse (Keeps.updEngine (.ite (fun _ => h.raise _ _ _) fun _ => h) _ _) _ _ _

theorem Keeps.headData (h : Keeps s t) (n : LaneId) (side : Side) (m : Image) : Keeps s (t.headData n side m) := by
  unfold State.headData
  refine .ite (fun _ => ?_) fun _ => h
  dsimp only
  split
  · exact ((h.endExchange _ _).updEngine _ _).refuseUnverified _ _ _
  · exact ((h.endExchange _ _).updEngine _ _).updEngine _ _

theorem Keeps.answerRead (h : Keeps s t) (n : LaneId) (side : Side) {f : State → State} (each : ∀ {t}, Keeps s t → Keeps s (f t)) :
    Keeps s (t.answerRead n side f) := .ite (fun _ => each (h.endExchange _ _)) fun _ => h

theorem Keeps.answerWrite (h : Keeps s t) (n : LaneId) (side : Side) {f : State → State} (each : ∀ {t}, Keeps s t → Keeps s (f t)) :
    Keeps s (t.answerWrite n side f) := .ite (fun _ => each (h.endExchange _ _)) fun _ => h

/-! ### Gates and the Passage Monitor (06) -/

theorem Keeps.openTimerExpires (h : Keeps s t) (n : LaneId) : Keeps s (t.openTimerExpires n) :=
  .ite (fun _ => (((h.updGate _ _).forfeit _ _).updGate _ _).settleGate _) fun _ => h

theorem Keeps.beamEvent (h : Keeps s t) (n : LaneId) (side : Side) (broken : Bool) (f : Lane → Lane) :
    Keeps s (t.beamEvent n side broken f) := h.same (by simp [Same, SameStores])

theorem Keeps.anomaly (h : Keeps s t) (n : LaneId) (p : Passage) (c : PassageClass) (k : NoticeKind) :
    Keeps s (t.anomaly n p c k) := (h.record _ _ _).raise _ _ _

theorem Keeps.consume (h : Keeps s t) (n : LaneId) : Keeps s (t.consume n) := by
  unfold State.consume
  split
  · exact (h.sendGrantUpdate _ _ _).updGate _ _
  · exact h

theorem Keeps.paidPassage (h : Keeps s t) (n : LaneId) (p : Passage) : Keeps s (t.paidPassage n p) :=
  .ite (fun _ => (((h.consume n).updCounters _ _).anomaly _ _ _ _).updCounters _ _) fun _ => (h.consume n).updCounters _ _

theorem Keeps.classifyPassage (h : Keeps s t) (n : LaneId) (p : Passage) : Keeps s (t.classifyPassage n p) := by
  unfold State.classifyPassage
  dsimp only
  split_ifs
  · exact h.updCounters _ _
  · exact (h.consume _).updCounters _ _
  · exact h.updCounters _ _
  · exact h.paidPassage _ _
  all_goals exact (h.anomaly _ _ _ _).updCounters _ _

theorem Keeps.takePassage (h : Keeps s t) (n : LaneId) : Keeps s (t.takePassage n) := by
  unfold State.takePassage
  split
  · exact ((h.updGate _ _).classifyPassage _ _).settleGate _
  · exact h

theorem Keeps.gateAsserts (h : Keeps s t) (n : LaneId) : Keeps s (t.gateAsserts n) :=
  ((((h.updGate _ _).forfeit _ _).updGate _ _).updCounters _ _).settleGate _

theorem Keeps.gateReleases (h : Keeps s t) (n : LaneId) : Keeps s (t.gateReleases n) :=
  ((h.record _ _ _).updGate _ _).settleGate _

theorem Keeps.gateTakes (h : Keeps s t) (n : LaneId) (c : LineChange) {f : State → State}
    (each : ∀ {t}, Keeps s t → Keeps s (f t)) : Keeps s (t.gateTakes n c f) := by
  unfold State.gateTakes
  split
  · exact .ite (fun _ => each (h.updGate _ _)) fun _ => h
  · exact h

/-! ### The emergency line (07) -/

theorem Keeps.assertionTaken (h : Keeps s t) : Keeps s t.assertionTaken :=
  .ite (fun _ => (((h.updEmergency _).handLine _).record _ _ _).raise _ _ _) fun _ => h

theorem Keeps.releaseTaken (h : Keeps s t) : Keeps s t.releaseTaken :=
  .ite (fun _ => ((((h.updEmergency _).handLine _).record _ _ _).raise _ _ _).updEmergency _) fun _ => h

theorem Keeps.engineAsserts (h : Keeps s t) (n : LaneId) : Keeps s (t.engineAsserts n) := by
  unfold State.engineAsserts
  split
  case h_1 => exact h
  case h_2 => exact h
  case h_3 => exact h.updEngine _ _
  all_goals exact (h.updEngine _ _).abandon _ _

theorem Keeps.engineTakes (h : Keeps s t) (n : LaneId) (c : LineChange) {f : State → State}
    (each : ∀ {t}, Keeps s t → Keeps s (f t)) : Keeps s (t.engineTakes n c f) := by
  unfold State.engineTakes
  split
  · exact .ite (fun _ => each (h.updEngine _ _)) fun _ => h
  · exact h

theorem Keeps.incidentTakes (h : Keeps s t) (c : LineChange) {f : State → State} (each : ∀ {t}, Keeps s t → Keeps s (f t)) :
    Keeps s (t.incidentTakes c f) := by
  unfold State.incidentTakes
  split
  · exact .ite (fun _ => each (h.same (by simp [Same, SameStores]))) fun _ => h
  · exact h

theorem Keeps.incidentAsserts (h : Keeps s t) : Keeps s t.incidentAsserts := h.same (by simp [Same, SameStores])
theorem Keeps.incidentReleases (h : Keeps s t) : Keeps s t.incidentReleases := h.same (by simp [Same, SameStores])

/-! ### Time (10) -/

theorem Keeps.second (h : Keeps s t) : Keeps s t.second := by
  have phase : Keeps s { t with clock := { t.clock with phase := 0 } } := h.ofClock (by simp [Same, SameStores]) id
  unfold State.second
  refine .ite (fun _ => phase) fun valid => .ite (fun _ => ?_) fun _ => .ite (fun room => ?_) fun _ => phase
  · refine phase.ofClock (by simp [Same, SameStores]) fun ⟨time, hold, _⟩ => ⟨time, ?_, fun invalid => absurd invalid valid⟩
    exact (Nat.sub_le _ _).trans hold
  · have advanced : Keeps s { t with clock := { t.clock with phase := 0, time := t.clock.time + 1 } } :=
      phase.ofClock (by simp [Same, SameStores]) fun ⟨_, hold, _⟩ => ⟨room, hold, fun invalid => absurd invalid valid⟩
    exact .ite (fun _ => advanced.same (by simp [Same, SameStores])) fun _ => advanced

theorem Keeps.expire (h : Keeps s t) (i : SlotId) : Keeps s (t.expire i) := by
  unfold State.expire
  refine .ite (fun _ => ?_) fun _ => h
  split
  · exact (h.closeSlot _ _ _).raise _ _ _
  · exact h

theorem Keeps.expireSlots (h : Keeps s t) : Keeps s t.expireSlots := Keeps.foldl (fun i k => k.expire i) _ h

theorem Keeps.sweep (h : Keeps s t) : Keeps s t.sweep := 
  (h.filterEntries (fun e => !(t.older e) || e.tearPending.isSome)).same (by simp [Same, SameStores, State.sweep])

/-- An OPEN slot given new times stays OPEN for its identity. -/
theorem Keeps.reopen (h : Keeps s t) {i : SlotId} {f : SlotFields} {em : Bool} {wt ex : Option Nat}
    (opened : t.slot i = .opened f em wt ex) (em' : Bool) (wt' ex' : Option Nat) : Keeps s (t.setSlot i (.opened f em' wt' ex')) :=
  h.ofSeen (by simp [Same, SameStores]) fun w => seenWf_setSlot w i _ fun g em wt ex hs =>
    ⟨f, em', wt', ex', rfl, (Slot.opened.inj (opened.symm.trans hs)).1 ▸ rfl⟩

theorem Keeps.setExpiry (h : Keeps s t) (v : Nat) (i : SlotId) : Keeps s (t.setExpiry v i) := by
  unfold State.setExpiry
  split
  · next f em wt hs =>
    have slot : (t.expiryFrom v).2.slot i = .opened f em wt none := by simpa [State.slot] using hs
    exact (h.expiryFrom v).reopen slot _ _ _
  · exact h

theorem Keeps.setExpiries (h : Keeps s t) (v : Nat) : Keeps s (t.setExpiries v) := Keeps.foldl (fun i k => k.setExpiry v i) _ h

theorem Keeps.settleIncident (h : Keeps s t) (v : Nat) : Keeps s (t.settleIncident v) := h.same (by simp [Same, SameStores])

theorem Keeps.firstTime (h : Keeps s t) {v : Nat} (bound : v ≤ Config.max32) : Keeps s (t.firstTime v) := by
  have set : Keeps s { t with clock := { time := v, valid := true, hold := 0, phase := 0 } } :=
    h.ofClock (by simp [Same, SameStores]) fun _ => ⟨bound, Nat.zero_le _, fun invalid => absurd invalid (by simp)⟩
  exact ((((set.record _ _ _).setExpiries v).settleIncident v).handTime).settleReadiness _

theorem Keeps.stepTime (h : Keeps s t) {v : Nat} (bound : v ≤ Config.max32) (valid : t.clock.valid = true)
    (near : t.clock.time ≤ v + 300) : Keeps s (t.stepTime v) := by
  unfold State.stepTime
  refine Keeps.handTime (Keeps.record (.ite (fun _ => ?_) fun _ => ?_) _ _ _)
  · exact h.ofClock (by simp [Same, SameStores]) fun _ => ⟨bound, Nat.zero_le _, fun invalid => absurd (valid.symm.trans invalid) (by simp)⟩
  · refine h.ofClock (by simp [Same, SameStores]) fun ⟨time, _, _⟩ =>
      ⟨time, ?_, fun invalid => absurd (valid.symm.trans invalid) (by simp)⟩
    change t.clock.time - v ≤ 300
    omega

/-! ### Requests -/

theorem Request.field_lt (r : Request) (k n : Nat) : r.field k n < 256 ^ n := by
  have bytes := ofBe_lt (slice r.body k n)
  have length : (slice r.body k n).length ≤ n := by simp [slice]
  exact bytes.trans_le (Nat.pow_le_pow_right (by decide) length)

theorem Keeps.setTime (h : Keeps s t) (r : Request) : Keeps s (setTime r t).1 := by
  have bound : r.field 4 4 ≤ Config.max32 := by
    have := r.field_lt 4 4
    unfold Config.max32
    omega
  unfold Sys2Proof.Machine.setTime
  dsimp only
  split_ifs with valid
  · exact h
  · dsimp only
    exact h.stepTime bound valid (by omega)
  · exact h
  · dsimp only
    exact h.firstTime bound

theorem Keeps.setParameter (h : Keeps s t) (k v : Nat) : Keeps s (t.setParameter k v) := by
  unfold State.setParameter
  split
  · exact h.same (by simp [Same, SameStores])
  · exact h.same (by simp [Same, SameStores])
  all_goals exact h.ofJournal (by simp [Same, SameStores]) fun w => w

theorem Keeps.setParameters (h : Keeps s t) (r : Request) : Keeps s (setParameters r t).1 := by
  unfold Sys2Proof.Machine.setParameters
  dsimp only
  split_ifs
  · exact h
  · exact h.setParameter _ _
  · exact h

theorem Keeps.readConditions (h : Keeps s t) (r : Request) : Keeps s (readConditions r t).1 := by
  unfold Sys2Proof.Machine.readConditions
  dsimp only
  split_ifs
  · exact h
  · exact h.ofNotices (by simp [Same, SameStores]) fun w =>
      Notices.wf_of_sublist w (List.drop_sublist _ _) (List.Sublist.refl _) fun p hp => (w.2.2.2 p hp).2.2

theorem Keeps.setNoticeLevels (h : Keeps s t) (r : Request) : Keeps s (setNoticeLevels r t).1 := by
  unfold Sys2Proof.Machine.setNoticeLevels
  split_ifs
  · exact h
  · split
    · exact h
    · refine h.ofNotices (by simp [Same, SameStores]) fun w =>
        Notices.wf_of_sublist w (List.Sublist.refl _) List.filter_sublist fun p hp => ?_
      simpa only [Notices.level, bne_iff_ne] using (List.mem_filter.1 hp).2

theorem Keeps.releaseJournal (h : Keeps s t) (r : Request) : Keeps s (releaseJournal r t).1 := by
  unfold Sys2Proof.Machine.releaseJournal
  dsimp only
  split_ifs with released unwritten
  · exact h
  · exact h
  · exact h.ofJournal (by simp [Same, SameStores]) fun w => Journal.wf_release w (Nat.not_lt.1 unwritten)

theorem Keeps.hotlistBegin (h : Keeps s t) (r : Request) : Keeps s (hotlistBegin r t).1 := by
  unfold Sys2Proof.Machine.hotlistBegin
  dsimp only
  split_ifs with large
  · exact h
  · split
    · exact h
    · exact h.ofHot (by simp [Same, SameStores]) fun w => HotStore.wf_begin w (Nat.not_lt.1 large)

theorem Keeps.abandonHot (h : Keeps s t) : Keeps s (t.setHot t.hot.abandon) :=
  h.ofHot (by simp [Same, SameStores]) HotStore.wf_abandon

theorem Keeps.takeSegment (h : Keeps s t) (r : Request) {version total running : Nat} {last : Option Identity} (mark : Bool)
    (loading : t.hot.load = .loading version total running last) :
    Keeps s (takeSegment r t version total running last mark).1 := by
  unfold Sys2Proof.Machine.takeSegment
  split
  · exact h.abandonHot
  · next stored count newest ok =>
    have stored_wf : t.hot.wf → ∃ bank : Bank, bank = { t.hot.standby with ids := t.hot.standby.ids ++ stored } ∧ bank.wf ∧
        count = bank.ids.length ∧ count ≤ total ∧ total ≤ Config.bankCapacity ∧ newest = bank.ids.getLast? := by
      rintro ⟨-, ⟨order, -⟩, load, -⟩
      rw [loading] at load
      obtain ⟨length, bound, capacity, latest⟩ := load
      obtain ⟨order', length', bound', latest'⟩ :=
        storeIdentities_ok _ 0 t.hot.standby.ids [] running last ok (by simpa using order) (by simpa using length) bound
          (by simpa using latest)
      exact ⟨_, rfl, ⟨order', by dsimp only; omega⟩, length', bound', capacity, latest'⟩
    dsimp only
    split_ifs
    · refine Keeps.startLong (h.ofHot (by simp [Same, SameStores]) fun w => ?_) r
      obtain ⟨_, rfl, bank, length, bound, capacity, _⟩ := stored_wf w
      obtain ⟨active, _, _, locals⟩ := w
      exact ⟨active, bank, ⟨length, bound, capacity⟩, locals⟩
    · exact h.abandonHot
    · refine h.ofHot (by simp [Same, SameStores]) fun w => ?_
      obtain ⟨_, rfl, bank, length, bound, capacity, latest⟩ := stored_wf w
      obtain ⟨active, _, _, locals⟩ := w
      exact ⟨active, bank, ⟨length, bound, capacity, latest⟩, locals⟩

theorem Keeps.hotlistSegment (h : Keeps s t) (r : Request) : Keeps s (hotlistSegment r t).1 := by
  unfold Sys2Proof.Machine.hotlistSegment
  dsimp only
  split
  · exact h
  split
  · exact h
  split
  · next loading =>
    split
    · exact h
    · exact h.takeSegment r _ loading
  · exact h

theorem Keeps.hotlistAbandon (h : Keeps s t) (r : Request) : Keeps s (hotlistAbandon r t).1 := by
  unfold Sys2Proof.Machine.hotlistAbandon
  split
  · exact h.abandonHot
  · exact h
  · exact h

theorem Keeps.localListRemove (h : Keeps s t) (r : Request) : Keeps s (localListRemove r t).1 := by
  unfold Sys2Proof.Machine.localListRemove
  dsimp only
  split
  · exact h
  · split_ifs
    · exact h
    · refine Keeps.clearSuspect (Keeps.record (h.ofHot (by simp [Same, SameStores]) fun w => ?_) _ _ _) _
      exact HotStore.wf_locals_of_sublist w (List.eraseIdx_sublist _ _)

theorem Keeps.endHotVerification (h : Keeps s t) (good : Bool) : Keeps s (t.endHotVerification good) := by
  unfold State.endHotVerification
  split
  · refine .ite (fun _ => ?_) fun _ => h.abandonHot.endLong _
    exact Keeps.endLong (Keeps.record (h.ofHot (by simp [Same, SameStores]) fun w => HotStore.wf_swap w _) _ _ _) _
  · exact h

theorem Keeps.fareBegin (h : Keeps s t) (r : Request) : Keeps s (fareBegin r t).1 := by
  unfold Sys2Proof.Machine.fareBegin
  dsimp only
  split
  · exact h
  · split_ifs
    · exact h
    · exact h.setPending _

theorem Keeps.fareSection (h : Keeps s t) (r : Request) : Keeps s (fareSection r t).1 := by
  unfold Sys2Proof.Machine.fareSection
  split
  · dsimp only
    split_ifs
    · exact h
    · exact h
    · exact h.setPending _
    · exact h
  · exact h

theorem Keeps.fareCommit (h : Keeps s t) (r : Request) : Keeps s (fareCommit r t).1 := by
  unfold Sys2Proof.Machine.fareCommit
  split_ifs
  · exact h
  · split
    · exact (h.setPending _).startLong _
    · exact h

theorem Keeps.endFareVerification (h : Keeps s t) : Keeps s t.endFareVerification := by
  unfold State.endFareVerification
  split
  · split
    · exact (h.setPending _).endLong _
    · exact ((h.setPending _).endLong _).considerActivation
  · exact h

theorem Keeps.incidentAdd (h : Keeps s t) (r : Request) : Keeps s (incidentAdd r t).1 := by
  unfold Sys2Proof.Machine.incidentAdd
  split
  · exact h
  split
  · exact h
  split
  · exact h
  split
  · exact h
  · exact h.same (by simp [Same, SameStores])

theorem Keeps.setIncidents (h : Keeps s t) (l : List Incident) : Keeps s (t.setIncidents l) := h.same (by simp [Same, SameStores])

theorem Keeps.incidentClose (h : Keeps s t) (r : Request) : Keeps s (incidentClose r t).1 := by
  unfold Sys2Proof.Machine.incidentClose
  dsimp only
  split
  · exact h
  · split_ifs
    · exact h
    · exact h
    · exact h
    · exact h.setIncidents _

theorem Keeps.incidentRemove (h : Keeps s t) (r : Request) : Keeps s (incidentRemove r t).1 := by
  unfold Sys2Proof.Machine.incidentRemove
  dsimp only
  split
  · exact h
  · split_ifs
    · exact h
    · exact h.setIncidents _

theorem Keeps.loadKey (h : Keeps s t) (r : Request) : Keeps s (loadKey r t).1 := by
  have set : ∀ slot k before, Keeps s ((t.setKey slot k).settleReadiness before) := fun slot k before =>
    (h.same (by simp [Same, SameStores])).settleReadiness before
  unfold Sys2Proof.Machine.loadKey
  dsimp only
  split_ifs
  · exact h
  · exact h
  · exact set _ _ _
  · exact h
  · exact set _ _ _

/-! ### Resets and INITIALISE STORE -/

theorem Keeps.abandonLong (h : Keeps s t) : Keeps s t.abandonLong.1 := by
  unfold State.abandonLong
  split
  · split_ifs
    · exact h
    · refine h.ofHot (by simp [Same, SameStores]) fun w => ?_
      unfold State.abandonOwner
      dsimp only
      split
      · exact HotStore.wf_abandon w
      · exact w
  · exact h

theorem Keeps.resetLink (h : Keeps s t) : Keeps s t.resetLink := by
  unfold State.resetLink
  exact h.abandonLong.ofNotices (by simp [Same, SameStores]) fun _ => Notices.wf_cleared _

theorem Keeps.abandonLoading (h : Keeps s t) : Keeps s t.abandonLoading := by
  unfold State.abandonLoading
  split
  · exact h.abandonHot
  · exact h

theorem Keeps.resetPart (h : Keeps s t) (r : Request) : Keeps s (resetPart r t).1 := by
  unfold Sys2Proof.Machine.resetPart
  split_ifs
  · exact h
  · dsimp only
    exact h.resetLink.abandonLoading.eachLane fun n _ k => k.resetLane n .part

theorem Keeps.initialiseStore (h : Keeps s t) (r : Request) : Keeps s (initialiseStore r t).1 := by
  unfold Sys2Proof.Machine.initialiseStore
  split
  · exact h
  · split_ifs
    · exact h
    · exact ((h.startLong r).setStage 0).settleReadiness _

theorem Keeps.clearNext (h : Keeps s t) : Keeps s t.clearNext := by
  unfold State.clearNext
  refine .ite (fun _ => ?_) fun _ => h
  split
  · exact (h.filterEntries _).setStage _
  · exact (h.ofHot (u := t.clearHot) (by simp [Same, SameStores]) fun _ => HotStore.wf_clear).setStage _
  · exact .ite (fun _ => h) fun _ => h.clearFare
  · exact (h.same (by simp [Same, SameStores])).setStage _
  · exact h

theorem Keeps.endInitialise (h : Keeps s t) (failed : Option (Fin 4)) : Keeps s (t.endInitialise failed) :=
  .ite (fun _ => ((h.endLong _).setStage 0).settleReadiness _) fun _ => h

/-! ### Requests to a lane -/

theorem Keeps.configureLane (h : Keeps s t) (n : LaneId) (r : Request) : Keeps s (configureLane n r t).1 := by
  unfold Sys2Proof.Machine.configureLane
  split
  · exact h
  · exact ((h.updLane _ _).record _ _ _).settleGate _

theorem Keeps.setService (h : Keeps s t) (n : LaneId) (on : Bool) : Keeps s (t.setService n on) :=
  .ite (fun _ => h) fun _ => ((h.updLane _ _).record _ _ _).settleService _

theorem Keeps.laneService (h : Keeps s t) (n : LaneId) (r : Request) : Keeps s (laneService n r t).1 := by
  unfold Sys2Proof.Machine.laneService
  split_ifs
  · exact h.setService _ _
  · exact h.setService _ _
  · exact h

theorem Keeps.holdOpen (h : Keeps s t) (n : LaneId) (r : Request) : Keeps s (holdOpen n r t).1 := by
  unfold Sys2Proof.Machine.holdOpen
  split_ifs
  · exact h
  · exact (h.updGate _ _).settleGate _

theorem Keeps.releaseHold (h : Keeps s t) (n : LaneId) (r : Request) : Keeps s (releaseHold n r t).1 := by
  unfold Sys2Proof.Machine.releaseHold
  split_ifs
  · exact h
  · exact (h.updLane _ _).settleGate _

theorem Keeps.grantPassage (h : Keeps s t) (n : LaneId) (r : Request) : Keeps s (grantPassage n r t).1 := by
  unfold Sys2Proof.Machine.grantPassage
  split
  · exact h
  · split
    · exact h
    · exact ((h.updGate _ _).append _ _ _).enqueue _ _

theorem Keeps.readLane (h : Keeps s t) (n : LaneId) (r : Request) : Keeps s (readLane n r t).1 := by
  unfold Sys2Proof.Machine.readLane
  split_ifs
  · exact h
  · exact h.updLane _ _
  · exact h

theorem Keeps.onLane (h : Keeps s t) {f : LaneId → Request → State → State × Answer}
    (each : ∀ n r, Keeps s (f n r t).1) (r : Request) : Keeps s (onLane f r t).1 := by
  unfold Sys2Proof.Machine.onLane
  split
  · exact each _ r
  · exact h

end Sys2Proof.Machine
end

section
/-! What a whole command keeps, link and all; and the statements about every step that rest on it. -/

namespace Sys2Proof.Machine

variable {s t : State}

/-- Every invariant of the part passes from one state to a later one, and the queue of commands stands. -/
structure Preserves (s t : State) : Prop where
  stores : KeepsStores s t
  link : s.link.wf → t.link.wf

/-- The Link's form does not speak of the COMPLETION, nor of the frame on the line. -/
theorem Link.wf_of_parts {l : Link} (h : l.wf) (rate : Nat) (completion sending : Option (List Byte)) :
    { l with rate := rate, completion := completion, sending := sending }.wf := h

theorem Keeps.preserves (h : Keeps s t) : Preserves s t :=
  ⟨h.stores, fun w => h.link ▸ Link.wf_of_parts w s.link.rate _ s.link.sending⟩

theorem Preserves.refl (s : State) : Preserves s s := (Keeps.refl s).preserves

/-! ### The receive framer (R169 to R172) -/

theorem Link.wf_discard {l : Link} (h : l.wf) : l.discard.wf := by
  obtain ⟨places, shapes, reply, overruns, size, discarded, overrun⟩ := h
  exact ⟨places, shapes, reply, overruns, size, by simp only [Link.discard, saturate]; split <;> omega, overrun⟩

theorem Link.wf_setFramer {l : Link} (h : l.wf) {x : Framer} (size : x.size ≤ Config.maxBody) : { l with framer := x }.wf := by
  obtain ⟨places, shapes, reply, overruns, _, counters⟩ := h
  exact ⟨places, shapes, reply, overruns, size, counters⟩

theorem byteAt_take {bs : List Byte} {k n : Nat} (h : k < n) : byteAt (bs.take n) k = byteAt bs k := by
  simp only [byteAt, List.getD_eq_getElem?_getD, List.getElem?_take_of_lt h]

theorem Link.wf_arrive {l : Link} (h : l.wf) {body : List Byte} (size : body.length ≤ Config.maxBody) (passes : bodyPasses body = true) :
    (l.arrive body).wf := by
  obtain ⟨places, shapes, reply, overruns, framer, discarded, overrun⟩ := h
  obtain ⟨⟨long, -⟩, request⟩ : (12 ≤ body.length ∧ _) ∧ byteAt body 0 = 1#8 := by simpa [bodyPasses] using passes
  unfold Link.arrive
  dsimp only
  split_ifs with room waits
  · refine ⟨by simpa using room, fun q hq => ?_, reply, overruns, framer, discarded, overrun⟩
    rcases List.mem_append.1 hq with hq | hq
    · exact shapes q hq
    · obtain rfl := List.mem_singleton.1 hq
      refine ⟨?_, ?_, by rw [byteAt_take (by omega), request]⟩
      all_goals
        rw [List.length_take]
        omega
  · have counted : saturate 65535 l.overrun ≤ 65535 := by unfold saturate; split <;> omega
    have waiting : (l.replies.filter (fun r => r.overrun)).length < Config.overrunPlaces := waits
    exact ⟨places, shapes, by simpa [List.filter_append] using reply,
      by simpa [Link.overruns, List.filter_append] using waiting, framer, discarded, counted⟩
  · exact ⟨places, shapes, reply, overruns, framer, discarded, by simp only [saturate]; split <;> omega⟩

theorem Link.wf_takeBody {l : Link} (h : l.wf) {body : List Byte} (size : body.length ≤ Config.maxBody) : (l.takeBody body).wf := by
  unfold Link.takeBody
  split
  · next passes => exact Link.wf_arrive h size passes
  · exact Link.wf_discard h

theorem Link.wf_extend {l : Link} (h : l.wf) (body : List Byte) (b : Byte) : (l.extend body b).wf := by
  unfold Link.extend
  split
  · next room => exact Link.wf_setFramer h (by simpa [Framer.size] using room)
  · exact Link.wf_setFramer (Link.wf_discard h) (Nat.zero_le _)

theorem Link.wf_receive {l : Link} (h : l.wf) (c : LineChar) : (l.receive c).wf := by
  have hunted : { l.discard with framer := .hunt }.wf := Link.wf_setFramer (Link.wf_discard h) (Nat.zero_le _)
  have begun : { l.discard with framer := .body [] }.wf := Link.wf_setFramer (Link.wf_discard h) (Nat.zero_le _)
  cases c with
  | framingError =>
    simp only [Link.receive, Link.framingError]
    split
    · exact h
    · exact hunted
  | char b =>
    have size : l.framer.size ≤ Config.maxBody := h.2.2.2.2.1
    simp only [Link.receive, Link.receiveByte]
    split
    · split
      · exact Link.wf_setFramer h (Nat.zero_le _)
      · exact h
    · next body framer =>
      rw [framer] at size
      split_ifs
      · exact begun
      · exact Link.wf_takeBody (Link.wf_setFramer (x := .hunt) h (Nat.zero_le _)) size
      · exact Link.wf_setFramer h size
      · exact Link.wf_extend h _ _
    · split_ifs
      · exact begun
      · exact hunted
      · exact Link.wf_extend h _ _
      · exact hunted

/-! ### Requests served (R173) and frames sent (R180) -/

/-- A frame taken while no reply of the Request Processor waits, and its reply placed. -/
theorem Link.wf_answered {l : Link} (h : l.wf) {frame : List Byte} {rest : List (List Byte)} (oldest : l.requests = frame :: rest)
    (free : l.replies.all (fun r => r.overrun) = true) (body : List Byte) (completion : Option (List Byte)) :
    { l with requests := rest, replies := l.replies ++ [Reply.mk false body], completion := completion }.wf := by
  obtain ⟨places, shapes, _, overruns, framer, discarded, overrun⟩ := h
  rw [oldest] at places shapes
  have none : l.replies.filter (fun r => !r.overrun) = [] := by simpa using free
  refine ⟨?_, fun q hq => shapes q (List.mem_cons_of_mem _ hq), ?_, ?_, framer, discarded, overrun⟩
  · exact Nat.le_of_succ_le places
  · simp [List.filter_append, none]
  · simpa [Link.overruns, List.filter_append] using overruns

theorem answer_link (s : State) (tag : Byte) (a : Target) (x : Answer) :
    (s.answer tag a x).link = { s.link with replies := s.link.replies ++ [⟨false, replyBody tag x⟩] } := by
  cases x <;> cases a <;> rfl

theorem takeRequest_link (s : State) (r : Request) (rest : List (List Byte)) :
    (s.takeRequest r rest).link = { s.link with requests := rest } := by
  unfold State.takeRequest
  split
  · rfl
  · cases r.target <;> rfl

theorem KeepsStores.answer (h : KeepsStores s t) (tag : Byte) (a : Target) (x : Answer) : KeepsStores s (t.answer tag a x) :=
  h.trans (.of_same (by simp [SameStores]))

theorem KeepsStores.takeRequest (s : State) (r : Request) (rest : List (List Byte)) : KeepsStores s (s.takeRequest r rest) :=
  .of_same (by simp [SameStores])

/-- A request that runs leaves its reply alone at the end of the list, beside what its command kept. -/
theorem runRequest_answers {r : Request} {run : Request → State → State × Answer} (ran : Keeps t (run r t).1) :
    KeepsStores t (t.runRequest r run) ∧ ∃ body completion, (t.runRequest r run).link =
      { t.link with replies := t.link.replies ++ [Reply.mk false body], completion := completion } := by
  unfold State.runRequest
  split
  · exact ⟨(KeepsStores.refl t).answer _ _ _, _, t.link.completion, answer_link _ _ _ _⟩
  · split
    · exact ⟨(KeepsStores.refl t).answer _ _ _, _, t.link.completion, answer_link _ _ _ _⟩
    · exact ⟨ran.stores.answer _ _ _, _, _, by rw [answer_link, ran.link]⟩

theorem preserves_run {frame : List Byte} {rest : List (List Byte)} (oldest : s.link.requests = frame :: rest)
    (free : s.processorFree = true) (r : Request) {run : Request → State → State × Answer} (each : ∀ r t, Keeps t (run r t).1) :
    Preserves s ((s.takeRequest r rest).runRequest r run) := by
  obtain ⟨stores, body, completion, link⟩ := runRequest_answers (each r (s.takeRequest r rest))
  refine ⟨(KeepsStores.takeRequest s r rest).trans stores, fun w => ?_⟩
  rw [link, takeRequest_link]
  exact Link.wf_answered w oldest free body completion

theorem preserves_serve {code : Byte} {run : Request → State → State × Answer} (each : ∀ r t, Keeps t (run r t).1) (s : State) :
    Preserves s (serve code run s) := by
  unfold serve
  split
  · next frame rest oldest =>
    split
    · dsimp only
      split
      · next taken => exact preserves_run oldest taken.1 _ each
      · exact .refl s
    · exact .refl s
  · exact .refl s

theorem preserves_serveUnknown (s : State) : Preserves s (serveUnknown s) := by
  unfold serveUnknown
  split
  · next frame rest oldest =>
    split
    · next free =>
      split
      · refine ⟨(KeepsStores.of_same (by simp [SameStores])).answer _ _ _, fun w => ?_⟩
        rw [answer_link]
        exact Link.wf_answered w oldest free _ s.link.completion
      · dsimp only
        split
        · exact preserves_run oldest free _ fun _ t => .refl t
        · exact .refl s
    · exact .refl s
  · exact .refl s

theorem Keeps.protectedBy {run : Request → State → State × Answer} (each : ∀ r t, Keeps t (run r t).1) (r : Request) (t : State) :
    Keeps t (protectedBy run r t).1 := by
  unfold Sys2Proof.Machine.protectedBy
  split
  · exact each r t
  · exact .refl t

theorem preserves_transmit (s : State) : Preserves s s.transmit := by
  unfold State.transmit
  split
  · exact .refl s
  split
  · next r rest waiting =>
    refine ⟨.of_same (by simp [SameStores]), fun ⟨places, shapes, reply, overruns, others⟩ => ⟨places, shapes, ?_, ?_, others⟩⟩
    all_goals
      unfold Link.overruns at *
      rw [waiting] at reply overruns
      have sub : rest.Sublist (r :: rest) := List.sublist_cons_self _ _
    · exact (sub.filter _).length_le.trans reply
    · exact (sub.filter _).length_le.trans overruns
  split
  · exact ⟨.of_same (by simp [SameStores]), fun w => w⟩
  split
  · next p _ =>
    have sent := (Keeps.refl s).ofNotices (u := { s with notices := { s.notices with pending := removeNotice p s.notices.pending } })
      (by simp [Same, SameStores]) fun w => Notices.wf_of_sublist w (List.Sublist.refl _) List.filter_sublist
          fun p hp => (w.2.2.2 p (List.mem_of_mem_filter hp)).2.2
    exact ⟨sent.stores.trans (.of_same (by simp [SameStores])), fun w => w⟩
  · exact .refl s

theorem Keeps.takeEvent (h : Keeps s t) : Keeps s t.takeEvent := by
  unfold State.takeEvent
  split
  · next e rest _ => exact h.ofNotices (by simp [Same, SameStores]) fun w =>
      Notices.wf_take (u := { t.notices with inbox := rest }) w _ _
  · exact h

theorem preserves_updLink (s : State) {f : Link → Link} (wf : s.link.wf → (f s.link).wf) : Preserves s (s.updLink f) :=
  ⟨.of_same (by simp [SameStores]), wf⟩

/-! ### Power (R46) -/

theorem keepsStores_clearVolatile (s : State) : KeepsStores s s.clearVolatile where
  queue := rfl
  journal w := w
  hot w := HotStore.wf_powerUp w
  claims _ := by simp [State.clearVolatile, State.claimsApart, State.claim]
  seen w := seenWf_congr rfl rfl w
  clock _ := ⟨Nat.zero_le _, Nat.zero_le _, fun _ => ⟨rfl, rfl⟩⟩
  notices _ := Notices.wf_cleared { s.notices with inbox := [] }

theorem Link.wf_fresh (rate : Nat) : (Link.mk rate .hunt 0 0 [] [] none none).wf := by
  simp [Link.wf, Link.overruns, Framer.size]

theorem Keeps.powerUpSlot (h : Keeps s t) (i : SlotId) : Keeps s (t.powerUpSlot i) := by
  unfold State.powerUpSlot
  split
  · exact h
  · next f hs => exact h.openMarked (by simp [hs]) _ _ _ _
  · next f em wt ex hs => exact h.reopen hs _ _ _

theorem preserves_powerOn (s : State) (slb1 slb0 nvwp : Bool) : Preserves s (s.powerOn slb1 slb0 nvwp) := by
  have started : KeepsStores s { s.clearVolatile with
      powered := true, nvwp := nvwp, link := { s.clearVolatile.link with rate := strapRate slb1 slb0 } } :=
    (keepsStores_clearVolatile s).trans (.of_same (by simp [SameStores]))
  have slots := (Keeps.foldl (fun i k => k.powerUpSlot i) slotIds ((Keeps.refl { s.clearVolatile with
      powered := true, nvwp := nvwp, link := { s.clearVolatile.link with rate := strapRate slb1 slb0 } }).record none
    RecordFlags.clear .timePowerOn)).preserves
  exact ⟨started.trans slots.stores, fun _ => slots.link (Link.wf_fresh _)⟩

/-! ### Every command -/

/-- A command that ends in a next state and preserves every invariant. -/
def Sound (s : State) (o : Host.Outcome State Fault Refusal) : Prop := ∃ t, o = .next t ∧ Preserves s t

theorem sound_next (h : Preserves s t) : Sound s (.next t) := ⟨t, rfl, h⟩

/-- A step of a powered part; one without power stands as it is. -/
theorem sound_powered (s : State) {u : State} (h : Keeps s u) : Sound s (.next (if s.powered then u else s)) :=
  sound_next (by split; exacts [h.preserves, .refl s])

theorem sound_serve {code : Byte} {run : Request → State → State × Answer} (s : State) (each : ∀ r t, Keeps t (run r t).1) :
    Sound s (whenPowered (serve code run) s) :=
  sound_next (by split; exacts [preserves_serve each s, .refl s])

theorem sound_serveProtected {code : Byte} {run : Request → State → State × Answer} (s : State) (nvwp : Bool)
    (each : ∀ r t, Keeps t (run r t).1) : Sound s (serveProtected code run nvwp s) := by
  obtain ⟨t, next, ⟨stores, link⟩⟩ := sound_serve (code := code) { s with nvwp := nvwp } (Keeps.protectedBy each)
  exact ⟨t, next, (KeepsStores.of_same (by simp [SameStores])).trans stores, link⟩

/-- Every well-formed command ends in a next state and preserves every invariant. -/
theorem sound_exec (c : Instr) (s : State) (formed : c.wellFormed = true) : Sound s (exec c s) := by
  have here := Keeps.refl s
  cases c with
  | powerOn slb1 slb0 nvwp => exact sound_next (preserves_powerOn s slb1 slb0 nvwp)
  | powerLoss =>
    exact sound_next ⟨(keepsStores_clearVolatile s).trans (.of_same (by simp [SameStores])), fun _ => Link.wf_fresh _⟩
  | receiveCharacter c =>
    exact sound_next (by split; exacts [preserves_updLink s fun w => Link.wf_receive w c, .refl s])
  | transmitFrame => exact sound_next (by split; exacts [preserves_transmit s, .refl s])
  | frameSendComplete => exact sound_next (by split; exacts [preserves_updLink s fun w => w, .refl s])
  | unknownCommand => exact sound_next (by split; exacts [preserves_serveUnknown s, .refl s])
  | testReady =>
    refine sound_serve s fun r t => ?_
    unfold testReady
    dsimp only
    split <;> exact .refl t
  | requestSense => exact sound_serve s fun r t => (Keeps.refl t).same (by simp [Same, SameStores, requestSense])
  | readStatus => exact sound_serve s fun r t => .refl t
  | setTime => exact sound_serve s fun r t => (Keeps.refl t).setTime r
  | setParameters nvwp => exact sound_serveProtected s nvwp fun r t => (Keeps.refl t).setParameters r
  | readConditions => exact sound_serve s fun r t => (Keeps.refl t).readConditions r
  | readJournal =>
    refine sound_serve s fun r t => ?_
    unfold readJournal
    dsimp only
    split_ifs <;> exact .refl t
  | releaseJournal nvwp => exact sound_serveProtected s nvwp fun r t => (Keeps.refl t).releaseJournal r
  | hotlistBegin nvwp => exact sound_serveProtected s nvwp fun r t => (Keeps.refl t).hotlistBegin r
  | hotlistSegment nvwp => exact sound_serveProtected s nvwp fun r t => (Keeps.refl t).hotlistSegment r
  | hotlistAbandon => exact sound_serve s fun r t => (Keeps.refl t).hotlistAbandon r
  | localListRead => exact sound_serve s fun r t => .refl t
  | localListRemove nvwp => exact sound_serveProtected s nvwp fun r t => (Keeps.refl t).localListRemove r
  | findCard => exact sound_serve s fun r t => .refl t
  | fareBegin nvwp => exact sound_serveProtected s nvwp fun r t => (Keeps.refl t).fareBegin r
  | fareSection nvwp => exact sound_serveProtected s nvwp fun r t => (Keeps.refl t).fareSection r
  | fareCommit nvwp => exact sound_serveProtected s nvwp fun r t => (Keeps.refl t).fareCommit r
  | incidentAdd nvwp => exact sound_serveProtected s nvwp fun r t => (Keeps.refl t).incidentAdd r
  | incidentClose nvwp => exact sound_serveProtected s nvwp fun r t => (Keeps.refl t).incidentClose r
  | incidentRemove nvwp => exact sound_serveProtected s nvwp fun r t => (Keeps.refl t).incidentRemove r
  | incidentRead => exact sound_serve s fun r t => .refl t
  | resetPart => exact sound_serve s fun r t => (Keeps.refl t).resetPart r
  | initialiseStore nvwp => exact sound_serveProtected s nvwp fun r t => (Keeps.refl t).initialiseStore r
  | initialiseStoreClear => exact sound_powered s here.clearNext
  | initialiseStoreEnd failed => exact sound_powered s (here.endInitialise failed)
  | configureLane nvwp => exact sound_serveProtected s nvwp fun r t => (Keeps.refl t).onLane (fun n r => (Keeps.refl t).configureLane n r) r
  | laneService nvwp => exact sound_serveProtected s nvwp fun r t => (Keeps.refl t).onLane (fun n r => (Keeps.refl t).laneService n r) r
  | holdOpen => exact sound_serve s fun r t => (Keeps.refl t).onLane (fun n r => (Keeps.refl t).holdOpen n r) r
  | releaseHold => exact sound_serve s fun r t => (Keeps.refl t).onLane (fun n r => (Keeps.refl t).releaseHold n r) r
  | grantPassage => exact sound_serve s fun r t => (Keeps.refl t).onLane (fun n r => (Keeps.refl t).grantPassage n r) r
  | readLane => exact sound_serve s fun r t => (Keeps.refl t).onLane (fun n r => (Keeps.refl t).readLane n r) r
  | resetLane => exact sound_serve s fun r t => (Keeps.refl t).onLane (fun n _ => (Keeps.refl t).resetLane n .lane) r
  | setNoticeLevels nvwp => exact sound_serveProtected s nvwp fun r t => (Keeps.refl t).setNoticeLevels r
  | loadKey nvwp => exact sound_serveProtected s nvwp fun r t => (Keeps.refl t).loadKey r
  | fareVerificationEnd => exact sound_powered s here.endFareVerification
  | hotlistVerificationEnd good => exact sound_powered s (here.endHotVerification good)
  | headReady n side => exact sound_powered s (here.headReady n side)
  | headFaultReport n side => exact sound_powered s (here.headFaultReport n side)
  | headAnswerTimeout n side => exact sound_powered s (here.headTimeout n side)
  | faultPoll n side => exact sound_powered s (here.faultPoll n side)
  | headPresent n side id => exact sound_powered s (here.headPresent n side id)
  | headMultiple n side => exact sound_powered s (here.headMultiple n side)
  | headGone n side => exact sound_powered s (here.headGone n side)
  | headData n side image =>
    have whole : image.length = 64 := by simpa [Instr.wellFormed] using formed
    change Sound s (execHeadData n side image s)
    unfold execHeadData
    rw [if_pos whole]
    exact sound_powered s (here.headData n side image)
  | headLost n side => exact sound_powered s (here.answerRead n side fun k => k.readFails n _)
  | headDone n side => exact sound_powered s (here.answerWrite n side fun k => k.writeDone n)
  | headLostBefore n side => exact sound_powered s (here.answerWrite n side fun k => k.refuseFreeing n _)
  | headLostDuring n side => exact sound_powered s (here.answerWrite n side fun k => k.lostDuring n)
  | admissionRequest n => exact sound_powered s (here.requestAdmission n)
  | journalAdmissionCheck n => exact sound_powered s (here.askJournal n)
  | hotlistLookup n => exact sound_powered s (here.lookUpHotList n)
  | claimRequest n => exact sound_powered s (here.requestClaim n)
  | claimRelease n => exact sound_powered s (here.duty n _ (here.releaseClaim n))
  | resolutionRequest n => exact sound_powered s (here.requestResolution n)
  | reservationRequest n => exact sound_powered s (here.requestReservation n)
  | grantPush n => exact sound_powered s (here.duty n _ (here.push n))
  | seenUpdate n => exact sound_powered s (here.duty n _ (here.takeSeenChange _))
  | passageForfeitureUpdate => exact sound_powered s here.applyGrantUpdate
  | localAddition n => exact sound_powered s (here.duty n _ (here.cloneAlarm n))
  | incidentQuery n => exact sound_powered s (here.askIncident n)
  | journalAppend n => exact sound_powered s (here.duty n _ (here.appendCard n))
  | noticeEvent => exact sound_powered s here.takeEvent
  | openTimerExpiry n => exact sound_powered s (here.openTimerExpires n)
  | motionTimerExpiry n => exact sound_powered s (.ite (fun _ => here.gateFault n) fun _ => here)
  | actuatorReport n gsa gsb =>
    exact sound_next (by split; exacts [((here.updLane _ _).settleGate n).preserves, (here.updLane _ _).preserves])
  | beamBroken n side => exact sound_next (here.beamEvent n side _ _).preserves
  | beamClear n side => exact sound_next (here.beamEvent n side _ _).preserves
  | passageCompleted n => exact sound_powered s (here.takePassage n)
  | emrgnChange low => exact sound_next (here.updEmergency _).preserves
  | emergencyAssertionTaken => exact sound_powered s here.assertionTaken
  | emergencyReleaseTaken => exact sound_powered s here.releaseTaken
  | gateTakesAssertion n => exact sound_powered s (here.gateTakes n _ fun k => k.gateAsserts n)
  | gateTakesRelease n => exact sound_powered s (here.gateTakes n _ fun k => k.gateReleases n)
  | engineTakesAssertion n => exact sound_powered s (here.engineTakes n _ fun k => k.engineAsserts n)
  | engineTakesRelease n => exact sound_powered s (here.engineTakes n _ fun k => k)
  | incidentTakesAssertion => exact sound_powered s (here.incidentTakes _ fun k => k.incidentAsserts)
  | incidentTakesRelease => exact sound_powered s (here.incidentTakes _ fun k => k.incidentReleases)
  | clockSecond => exact sound_powered s here.second
  | fareTableActivation => exact sound_powered s here.considerActivation
  | slotExpiry => exact sound_powered s here.expireSlots
  | seenSweep => exact sound_powered s (.ite (fun _ => here.sweep) fun _ => here)

/-- A command that is turned away has no next state. -/
theorem preserves_exec {c : Instr} (next : exec c s = .next t) : Preserves s t := by
  cases formed : c.wellFormed with
  | true =>
    obtain ⟨u, next', kept⟩ := sound_exec c s formed
    obtain rfl := Host.Outcome.next.inj (next.symm.trans next')
    exact kept
  | false =>
    cases c with
    | headData n side image =>
      have otherLength : image.length ≠ 64 := by simpa [Instr.wellFormed] using formed
      have refused : exec (.headData n side image) s = .refused .malformedRecord := if_neg otherLength
      exact absurd (refused.symm.trans next) (by simp)
    | _ => exact absurd formed (by simp [Instr.wellFormed])

/-- A millisecond touches no store's invariant; the queue it fills is outside them. -/
theorem step_keeps (next : step s = .next t) :
    (s.journal.wf → t.journal.wf) ∧ (s.hot.wf → t.hot.wf) ∧ (s.claimsApart → t.claimsApart) ∧ (s.seenWf → t.seenWf) ∧
    (s.link.wf → t.link.wf) ∧ (s.clock.wf → t.clock.wf) ∧ (s.notices.wf → t.notices.wf) := by
  unfold step at next
  split at next
  · next c rest _ =>
    obtain ⟨⟨_, journal, hot, claims, seen, clock, notices⟩, link⟩ := preserves_exec next
    exact ⟨journal, hot, claims, seen, link, clock, notices⟩
  · obtain rfl := Host.Outcome.next.inj next
    unfold tick
    split
    · exact ⟨id, id, id, id, id, id, id⟩
    · exact ⟨id, id, id, id, id, id, id⟩

/-! ### The statements -/

/-- Settles O1: the definition of a step. -/
theorem stepTakesTheFrontCommand : Obligations.StepTakesTheFrontCommand := fun _ _ => rfl

/-- Settles O3: the only ill-formed command is a DATA without its 64 bytes. -/
theorem wellFormedCommandsComplete : Obligations.WellFormedCommandsComplete := by
  refine ⟨fun c s formed => ?_, fun n side m s otherLength => if_neg otherLength⟩
  obtain ⟨t, next, _⟩ := sound_exec c s formed
  exact ⟨t, next⟩

/-- Settles O4. -/
theorem commandsKeepTheQueue : Obligations.CommandsKeepTheQueue := fun _ _ _ next => (preserves_exec next).stores.queue

/-- Settles O7: an append, a release and a change of a limit are all that touches the Journal. -/
theorem stepKeepsJournalOrder : Obligations.StepKeepsJournalOrder := fun _ _ wf next => (step_keeps next).1 wf

/-- Settles O8: segments continue the standby bank in order, a swap purges the local list, an addition is of an identity held
nowhere. -/
theorem stepKeepsHotListOrder : Obligations.StepKeepsHotListOrder := fun _ _ wf next => (step_keeps next).2.1 wf

/-- Settles O9: a claim is given only where no other lane holds the identity. -/
theorem stepKeepsClaimsApart : Obligations.StepKeepsClaimsApart := fun _ _ wf next => (step_keeps next).2.2.1 wf

/-- Settles O10: a mark is made with the slot that opens and taken away with the slot that closes, so that at most eight entries are
ever marked and an eviction finds its victim. -/
theorem stepKeepsSeenTable : Obligations.StepKeepsSeenTable := fun _ _ wf next => (step_keeps next).2.2.2.1 wf

/-- Settles O11: a request is served only while no reply of the Request Processor waits. -/
theorem stepKeepsLinkBounds : Obligations.StepKeepsLinkBounds := fun _ _ wf next => (step_keeps next).2.2.2.2.1 wf

/-- Settles O12: SET TIME refuses a step back of more than 300 seconds, and an event finds its pair's condition and notice. -/
theorem stepKeepsClockAndNotices : Obligations.StepKeepsClockAndNotices := fun _ _ clock notices next =>
  ⟨(step_keeps next).2.2.2.2.2.1 clock, (step_keeps next).2.2.2.2.2.2 notices⟩

end Sys2Proof.Machine
end

section
/-! One millisecond of an idle part (log 3), and the part right after its first power-on (log 12). -/

namespace Sys2Proof.Machine

theorem lane_tick (s : State) (n : LaneId) : s.millisecond.lane n = (s.lane n).tick := by
  simp [State.millisecond, State.lane]

theorem port_tick (l : Lane) (side : Side) : l.tick.port side = (l.port side).tick := by
  cases side <;> rfl

/-- Settles O2: the queue that the millisecond fills is of the state that it leaves, and the queue does not count for what is due. -/
theorem emptyQueuePassesMillisecond : Obligations.EmptyQueuePassesMillisecond := by
  intro s idle
  have stepped : step s = .next (tick s) := by simp only [step, idle]
  refine ⟨fun off => ?_, fun on => ?_⟩
  · rw [stepped, tick, if_neg (by simp [off])]
  · have lanes : ∀ n, ({ s.millisecond with pending := s.millisecond.due } : State).lane n = (s.lane n).tick := lane_tick s
    refine ⟨{ s.millisecond with pending := s.millisecond.due }, ?_, rfl, rfl, rfl, ?_, ?_, ?_, ?_, ?_⟩
    · rw [stepped, tick, if_pos on]
    · exact fun n => by rw [lanes]; rfl
    · exact fun n => by rw [lanes]; rfl
    · exact fun n side => by rw [lanes, port_tick]; rfl
    · exact fun n => by rw [lanes]; exact ⟨rfl, rfl, rfl, rfl, rfl⟩
    · cases s
      simp only at idle
      subst idle
      rfl

theorem lane_reset (n : LaneId) : State.reset.lane n = Lane.reset := by simp [State.lane, State.reset]

theorem claim_reset (n : LaneId) : State.reset.claim n = none := by simp [State.claim, State.reset]

theorem slot_reset (i : SlotId) : State.reset.slot i = .free := by simp [State.slot, State.reset]

theorem port_reset (side : Side) : Lane.reset.port side = Port.reset := by cases side <;> rfl

/-- Settles O5: each block's delivered values, and the per-lane blocks alike in every lane. -/
theorem resetHoldsDeliveredValues : Obligations.ResetHoldsDeliveredValues := by
  refine ⟨rfl, rfl, rfl, rfl, rfl, rfl, rfl, rfl, rfl, rfl, ?_, rfl, rfl, ?_, claim_reset, rfl, rfl, rfl, rfl, rfl, rfl, slot_reset,
    rfl, rfl, rfl, rfl, rfl, ?_, rfl, rfl, rfl, rfl, rfl, rfl, rfl, rfl, rfl, rfl, rfl, rfl, rfl, rfl, rfl, rfl, rfl, rfl, rfl⟩
  · exact fun n => by simp [State.sense, State.reset]
  · intro n
    rw [lane_reset]
    refine ⟨rfl, rfl, rfl, rfl, rfl, rfl, rfl, rfl, rfl, rfl, rfl, rfl, rfl, rfl, fun r => ?_, fun side => ?_⟩
    · simp [Lane.reset]
    · rw [port_reset]
      exact ⟨rfl, rfl, rfl⟩
  · exact fun k => by simp [State.reset]

/-- Settles O6: every store but the Journal is empty, and the Journal holds the TIME record of power-on alone. -/
theorem invariantsHoldAtReset : Obligations.InvariantsHoldAtReset := by
  refine ⟨?_, HotStore.wf_clear, ?_, ?_, Link.wf_fresh _, ?_, Notices.wf_cleared State.reset.notices⟩
  · simp [Journal.wf, Journal.oldest, Journal.count, State.reset, Config.journalCapacity, Config.max32]
  · exact fun m n id held => absurd held (by simp [claim_reset])
  · exact ⟨List.nodup_nil, Nat.zero_le _, fun e he => absurd he (by simp [State.reset])⟩
  · exact ⟨Nat.zero_le _, Nat.zero_le _, fun _ => ⟨rfl, rfl⟩⟩

end Sys2Proof.Machine
end

section
/-! Requests answered case by case: key slots and parameters (R15, R195), the local list (R94), the end of a hot-list verification
(R87), fare sections (R66), and the staff's requests to a gate (R122, R127). -/

namespace Sys2Proof.Machine

/-! ### How a request's step ends -/

section Answered
variable {base s t : State} {nvwp : Bool} {code : Byte} {r : Request} {rest : List (List Byte)} {a : Answer}
  {run : Request → State → State × Answer}

/-- A protected request that runs: CHECK, store protected, at a low NVWP, else what its command answers. -/
theorem serveProtected_answers (takes : ({ base with nvwp := nvwp } : State).takes code r rest)
    (ran : let u := ({ base with nvwp := nvwp } : State).takeRequest r rest
      (run r u).1.answer r.tag r.target (run r u).2 = t) :
    serveProtected code run nvwp base = .next (
      if nvwp = false then (({ base with nvwp := nvwp } : State).takeRequest r rest).checked r ⟨.notReady, 0x04, none, none⟩ else t) := by
  cases nvwp with
  | false => exact serveProtected_of_low takes rfl
  | true => exact (serveProtected_of_run takes rfl rfl).trans (congrArg Host.Outcome.next ran)

theorem serve_answers (takes : s.takes code r rest) (ran : run r (s.takeRequest r rest) = (t, a)) :
    whenPowered (serve code run) s = .next (t.answer r.tag r.target a) := by
  rw [serve_of_takes takes, ran]

/-- A request to a lane runs under the lane's number. -/
theorem onLane_of_lane {f : LaneId → Request → State → State × Answer} {n : LaneId} (target : r.target = .lane n) (u : State) :
    onLane f r u = f n r u := by
  simp only [onLane, target]

end Answered

/-- What a step of a powered part ends in, whatever the step's name. -/
theorem powered_next {s u : State} (on : s.powered = true) :
    (Host.Outcome.next (if s.powered then u else s) : Host.Outcome State Fault Refusal) = .next u := by
  rw [if_pos on]

theorem takeRequest_lane (s : State) (r : Request) (rest : List (List Byte)) (n : LaneId) :
    (s.takeRequest r rest).lane n = s.lane n := by
  simp [State.lane]

/-- Readiness hangs on the clock, the active table, the keys and the tracker (R192). -/
theorem ready_congr {s t : State} (clock : t.clock = s.clock) (fare : t.fare.active = s.fare.active) (keys : t.keys = s.keys)
    (tracker : t.proc.tracker = s.proc.tracker) : t.ready = s.ready := by
  simp only [State.ready, State.partReasons, State.initialising, clock, fare, keys, tracker]

theorem takeRequest_ready (s : State) (r : Request) (rest : List (List Byte)) : (s.takeRequest r rest).ready = s.ready :=
  ready_congr (by simp) (by simp) (by simp) (by simp)

/-! ### SET PARAMETERS (R195) -/

theorem parameterAllows_iff {k v : Nat} (named : k ≤ 4) :
    parameterAllows k v = true ↔ ¬ (v < [5, 10, 1024, 0, 0].getD k 0 ∨ [120, 1440, 32512, 32768, 32768].getD k 0 < v) := by
  interval_cases k <;> simp [parameterAllows]

/-- One parameter is stored and the others stand. -/
theorem setParameter_eq (s : State) {k : Nat} (named : k ≤ 4) (v : Nat) :
    s.setParameter k v =
      { s with
        window := if k = 0 then v else s.window
        retention := if k = 1 then v else s.retention
        journal := { s.journal with
          limit := if k = 2 then v else s.journal.limit
          thresholdA := if k = 3 then v else s.journal.thresholdA
          thresholdB := if k = 4 then v else s.journal.thresholdB } } := by
  interval_cases k <;> rfl

/-! ### LOAD KEY (R15) -/

theorem generationElsewhere_iff (s : State) (slot generation : Nat) :
    s.generationElsewhere slot generation = true ↔
      ∃ i : Fin 4, i.val ≠ slot ∧ (s.keys[i]).map (·.generation) = some generation := by
  have key : ∀ i : Fin 4, s.keys.toList.getD i.val none = s.keys[i] := fun i => by
    simp [List.getD_eq_getElem?_getD]
  have held : ∀ k : Option Key, k.any (fun k => k.generation == generation) = true ↔ k.map (·.generation) = some generation := by
    intro k
    cases k <;> simp
  simp only [State.generationElsewhere, List.any_eq_true, List.mem_range, Bool.and_eq_true, bne_iff_ne, held]
  constructor
  · rintro ⟨i, small, other, has⟩
    exact ⟨⟨i, small⟩, other, (key ⟨i, small⟩) ▸ has⟩
  · rintro ⟨i, other, has⟩
    exact ⟨i.val, i.isLt, other, (key i).symm ▸ has⟩

theorem setKey_of_lt (s : State) {slot : Nat} (h : slot < 4) (k : Option Key) :
    s.setKey slot k = { s with keys := s.keys.set slot k } := dif_pos h

/-- Settles O23: a parameter by its number and range, a key slot by its number, the data's length and the generations held. -/
theorem storedSettingsKeepTheirRanges : Obligations.StoredSettingsKeepTheirRanges := by
  refine ⟨?_, ?_⟩
  · intro base nvwp r rest s takes u k v
    refine serveProtected_answers takes ?_
    change (setParameters r u).1.answer r.tag r.target (setParameters r u).2 = _
    have stored : ({ u with
        window := if k = 0 then v else s.window
        retention := if k = 1 then v else s.retention
        journal := { s.journal with
          limit := if k = 2 then v else s.journal.limit
          thresholdA := if k = 3 then v else s.journal.thresholdA
          thresholdB := if k = 4 then v else s.journal.thresholdB } } : State) =
        { u with
        window := if k = 0 then v else u.window
        retention := if k = 1 then v else u.retention
        journal := { u.journal with
          limit := if k = 2 then v else u.journal.limit
          thresholdA := if k = 3 then v else u.journal.thresholdA
          thresholdB := if k = 4 then v else u.journal.thresholdB } } := by simp [u]
    rw [stored]
    unfold setParameters
    dsimp only
    by_cases unnamed : 4 < k
    · rw [if_pos unnamed, if_pos unnamed]
      rfl
    · have named : k ≤ 4 := Nat.not_lt.1 unnamed
      have allows : parameterAllows k v = true ↔ _ := parameterAllows_iff named
      rw [if_neg unnamed, if_neg unnamed]
      by_cases outside : v < [5, 10, 1024, 0, 0].getD k 0 ∨ [120, 1440, 32512, 32768, 32768].getD k 0 < v
      · rw [if_pos outside, if_neg fun allowed => allows.1 allowed outside]
        rfl
      · rw [if_neg outside, if_pos (allows.2 outside), setParameter_eq u named]
        rfl
  · intro base nvwp r rest s takes u
    refine serveProtected_answers takes ?_
    change (loadKey r u).1.answer r.tag r.target (loadKey r u).2 = _
    have keys : u.keys = s.keys := by simp [u]
    have ready : u.ready = s.ready := takeRequest_ready s r rest
    have elsewhere := generationElsewhere_iff u (r.field 4 1) (r.field 5 1)
    rw [keys] at elsewhere
    by_cases named : r.field 4 1 < 4
    · rw [dif_pos named]
      unfold loadKey
      dsimp only
      rw [if_neg (by omega), ready]
      simp only [setKey_of_lt _ named, keys]
      by_cases empty : r.dataLength = 0
      · have fits : ¬ (r.dataLength ≠ 0 ∧ r.dataLength ≠ 16) := fun h => h.1 empty
        rw [if_neg fits, if_pos empty, if_pos empty]
        rfl
      · rw [if_neg empty, if_neg empty]
        by_cases sixteen : r.dataLength = 16
        · have fits : ¬ (r.dataLength ≠ 0 ∧ r.dataLength ≠ 16) := fun h => h.2 sixteen
          rw [if_neg fits, if_neg (not_not.2 sixteen)]
          by_cases other : ∃ i : Fin 4, i.val ≠ r.field 4 1 ∧ (s.keys[i]).map (·.generation) = some (r.field 5 1)
          · rw [if_pos (elsewhere.2 other), if_pos other]
            rfl
          · rw [if_neg (mt elsewhere.1 other), if_neg other]
            rfl
        · rw [if_pos ⟨empty, sixteen⟩, if_pos sixteen]
          rfl
    · rw [dif_neg named]
      unfold loadKey
      dsimp only
      rw [if_pos (by omega)]
      rfl

/-! ### The local hot list (R94) -/

/-- Settles O30: by the position given, and by the low 40 bits of the identity that stands there. -/
theorem localListRemovesAnEntry : Obligations.LocalListRemovesAnEntry := by
  intro base nvwp r rest s takes u k
  refine serveProtected_answers takes ?_
  change (localListRemove r u).1.answer r.tag r.target (localListRemove r u).2 = _
  have hot : u.hot = s.hot := takeRequest_hot s r rest
  have seen : u.seen = s.seen := by simp [u]
  unfold localListRemove
  dsimp only
  rw [hot]
  cases found : s.hot.locals[k]? with
  | none => rfl
  | some e =>
    dsimp only
    split_ifs with changed
    · rfl
    · have entries : (({ u with hot := { s.hot with locals := s.hot.locals.eraseIdx k } } : State).record none RecordFlags.clear
          (.listLocalRemove e.identity)).seen = s.seen := by simp [seen]
      simp only [State.clearSuspect, State.setEntries]
      change State.answer _ _ _ _ = State.answer _ _ _ _
      rw [← entries]
      rfl

/-! ### The end of a hot-list verification (R87, R92) -/

/-- A RUNNING operation that ends well. -/
theorem endLong_good {s : State} {op : LongOp} (running : s.proc.tracker = some op) :
    s.endLong none = { s with
      proc := { s.proc with tracker := some { op with ended := true }, lastCompletion := some ⟨op.tag, op.command, .good⟩ }
      link := { s.link with completion := some [0x03, op.tag, op.command, 0x00] } } := by
  simp only [State.endLong, running]
  rfl

/-- A RUNNING operation that ends in CHECK, its sense on the part's record. -/
theorem endLong_check {s : State} {op : LongOp} (running : s.proc.tracker = some op) (x : Sense) :
    s.endLong (some x) = { s with
      proc := { s.proc with tracker := some { op with ended := true }, lastCompletion := some ⟨op.tag, op.command, .check⟩
                            partSense := some x }
      link := { s.link with completion := some [0x03, op.tag, op.command, 0x01] } } := by
  simp only [State.endLong, running]
  rfl

theorem readBack_iff (h : HotStore) (running : Nat) (good : Bool) :
    h.readBack running good = true ↔ good = true ∧ h.standby.ids.length = running ∧ ascending h.standby.ids = true := by
  simp [HotStore.readBack, and_assoc]

theorem exec_hotlistVerificationEnd {s : State} (on : s.powered = true) (good : Bool) :
    exec (.hotlistVerificationEnd good) s = .next (s.endHotVerification good) := powered_next on

/-- Settles O28: the read-back decides. -/
theorem hotListVerificationSwapsBanks : Obligations.HotListVerificationSwapsBanks := by
  intro s good version total running op on verifying tracker confirmed kept swapped recorded
  rw [exec_hotlistVerificationEnd on, State.endHotVerification, verifying]
  refine ⟨fun yes => ?_, fun no => ?_⟩
  · dsimp only
    rw [if_pos ((readBack_iff _ _ _).2 yes)]
    have running : recorded.proc.tracker = some op := by simpa [recorded, swapped] using tracker
    change Host.Outcome.next (recorded.endLong none) = _
    rw [endLong_good running]
    have proc : recorded.proc = s.proc := by simp [recorded, swapped]
    have link : recorded.link = s.link := by simp [recorded, swapped]
    rw [proc, link]
  · dsimp only
    rw [if_neg (mt (readBack_iff _ _ _).1 no), endLong_check (s := s.setHot s.hot.abandon) tracker]
    rfl

/-! ### FARE SECTION (R66) -/

theorem sectionLength_eq {k : Nat} (h : k < 6) : sectionLength ⟨k, h⟩ = [11, 288, 288, 512, 512, 97].getD k 0 := by
  interval_cases k <;> rfl

/-- Settles O32: by the pending state, the section's number, the data's length and whether it was received. -/
theorem fareSectionIsStored : Obligations.FareSectionIsStored := by
  intro base nvwp r rest s takes u
  refine serveProtected_answers takes ?_
  change (fareSection r u).1.answer r.tag r.target (fareSection r u).2 = _
  have fare : u.fare = s.fare := by simp [u]
  unfold fareSection
  rw [fare]
  cases pending : s.fare.pending with
  | loading version sections =>
    dsimp only
    split
    · next named =>
      rw [sectionLength_eq, State.setPending, fare]
      split_ifs <;> rfl
    · rfl
  | none => rfl
  | verifying => rfl
  | waiting => rfl

/-! ### HOLD OPEN and RELEASE HOLD (R122) -/

theorem shut_iff (g : Gate) : g.shut = true ↔ g.state = .outOfService ∨ g.state = .fault := by
  simp [Gate.shut, or_comm]

/-- Settles O40. -/
theorem staffHoldsAndReleases : Obligations.StaffHoldsAndReleases := by
  refine ⟨?_, ?_⟩
  · intro s n r rest takes target u g
    have lane : u.lane n = s.lane n := takeRequest_lane s r rest n
    refine (serve_of_takes takes _).trans (congrArg Host.Outcome.next ?_)
    rw [onLane_of_lane target]
    change (holdOpen n r u).1.answer r.tag r.target (holdOpen n r u).2 = _
    unfold holdOpen
    simp only [shut_iff, updGate_eq, lane]
    split_ifs <;> rfl
  · intro s n r rest takes target u g released
    have lane : u.lane n = s.lane n := takeRequest_lane s r rest n
    refine (serve_of_takes takes _).trans (congrArg Host.Outcome.next ?_)
    rw [onLane_of_lane target]
    change (releaseHold n r u).1.answer r.tag r.target (releaseHold n r u).2 = _
    unfold releaseHold
    simp only [updLane_eq, lane]
    split_ifs with unheld
    · rfl
    · have same : (s.lane n).updGate (fun g =>
          if g.emergency then { g with staffHold := false }
          else if g.queue.isEmpty then { g with staffHold := false, state := .closing }
          else { g with staffHold := false, state := .opened, openTimer := some (s.lane n).config.openMs }) =
          { s.lane n with gate := released } := by
        simp only [Lane.updGate, List.isEmpty_iff]
        rfl
      rw [same]
      rfl

/-! ### GRANT PASSAGE (R127) -/

theorem append_lane (s : State) (lane : Option LaneId) (flags : RecordFlags) (b : RecordBody) (n : LaneId) :
    (s.append lane flags b).1.lane n = s.lane n := by
  simp [State.lane]

/-- A grant enters the queue in every state; it opens the gate and starts the open timer in every state but HELD OPEN (R126). -/
theorem enqueue_eq (s : State) (n : LaneId) (g : Grant) :
    s.enqueue n g = (s.updGate n (fun x => { x with
      queue := x.queue ++ [g]
      state := if x.state = .heldOpen then .heldOpen else .opened
      openTimer := if x.state = .heldOpen then x.openTimer else some (s.lane n).config.openMs })).settleGate n := by
  unfold State.enqueue
  rw [updLane_eq, updGate_eq]
  congr 2
  by_cases held : (s.lane n).gate.state = .heldOpen <;> simp [Lane.updGate, held]

/-- Settles O41: the direction byte, then the refusals in order, then the grant. -/
theorem staffGrantsPassage : Obligations.StaffGrantsPassage := by
  intro s n r rest d takes target u g side held
  have lane : u.lane n = s.lane n := takeRequest_lane s r rest n
  have clock : u.clock = s.clock := takeRequest_clock s r rest
  have served := serve_of_takes takes (onLane grantPassage)
  rw [onLane_of_lane target] at served
  refine ⟨fun notEntry notExit => ?_, fun way => ?_⟩
  · refine served.trans (congrArg Host.Outcome.next ?_)
    have none : Direction.ofCode (r.byte 4) = none := (if_neg notEntry).trans (if_neg notExit)
    simp only [grantPassage, none]
    rfl
  · refine served.trans (congrArg Host.Outcome.next ?_)
    have known : Direction.ofCode (r.byte 4) = some d := by
      rw [way]
      cases d <;> rfl
    have sideEq : sideLock (directionSide d) = side := by cases d <;> rfl
    change (grantPassage n r u).1.answer r.tag r.target (grantPassage n r u).2 = _
    have places : (s.lane n).gate.taken = held := rfl
    simp only [grantPassage, known, lane, Gate.staffRefusal, shut_iff, sideEq, places]
    split_ifs with shut emergency opposite full
    · rfl
    · rfl
    · rfl
    · rfl
    · dsimp only [State.staffGrant]
      rw [enqueue_eq, sideEq, clock]
      have config : (((u.updGate n (fun g => { g with lock := side })).append (some n) RecordFlags.clear
          (.staffGrant d s.clock.time)).1.lane n).config = (s.lane n).config := by
        rw [append_lane, updGate_eq, lane_setLane_self, lane]
      rw [config]
      rfl

end Sys2Proof.Machine
end

section
/-! The Station Link: the framer's table (R169 to R172), a frame received whole, the arbiter (R180) and the Notice Unit (R181, R182). -/

namespace Sys2Proof.Machine

/-! ### The receive framer -/

theorem exec_receiveCharacter {s : State} (on : s.powered = true) (c : LineChar) :
    exec (.receiveCharacter c) s = .next { s with link := s.link.receive c } := powered_next on

theorem bodyPasses_iff (body : List Byte) :
    bodyPasses body = true ↔ 12 ≤ body.length ∧
      (crc16 (body.take (body.length - 2))).toNat = ofBe (body.drop (body.length - 2)) ∧ byteAt body 0 = 0x01#8 := by
  simp [bodyPasses, and_assoc]

/-- A body that ended: queued, answered OVERRUN, or discarded. -/
theorem takeBody_eq (l : Link) (body : List Byte) :
    l.takeBody body =
      if 12 ≤ body.length ∧ (crc16 (body.take (body.length - 2))).toNat = ofBe (body.drop (body.length - 2)) ∧
          byteAt body 0 = 0x01#8 then
        if l.requests.length < 4 then { l with requests := l.requests ++ [body.take (body.length - 2)] }
        else
          { l with
            overrun := if l.overrun < 65535 then l.overrun + 1 else l.overrun
            replies := if l.overruns < 8 then l.replies ++ [⟨true, [0x02, byteAt body 1, 0x04]⟩] else l.replies }
      else l.discard := by
  unfold Link.takeBody
  simp only [bodyPasses_iff]
  split
  · unfold Link.arrive
    split
    · next room => exact (if_pos room).symm
    · next full =>
      refine Eq.trans ?_ (if_neg full).symm
      by_cases waits : l.overruns < 8
      · rw [if_pos waits]
        exact if_pos waits
      · rw [if_neg waits]
        exact if_neg waits
  · rfl

theorem isDelimiter_eq (b : Byte) : isDelimiter b = [0xF5#8, 0xFA#8, 0xF0#8].contains b := by
  simp only [isDelimiter, frameStart, frameEnd, frameEscape, List.contains_cons, List.contains_nil, Bool.or_false, Bool.or_assoc]
  rfl

/-- Settles O14: by the framer's state and what arrives. -/
theorem framerFollowsItsTable : Obligations.FramerFollowsItsTable := by
  intro s c on l discard grow ended
  rw [exec_receiveCharacter on]
  have link : s.link.receive c = _ := rfl
  refine congrArg Host.Outcome.next ?_
  change ({ s with link := s.link.receive c } : State) = _
  congr 1
  cases framer : s.link.framer with
  | hunt =>
    cases c with
    | framingError => simp only [Link.receive, Link.framingError, framer, l]
    | char b =>
      simp only [Link.receive, Link.receiveByte, framer, l]
      rfl
  | body body =>
    cases c with
    | framingError =>
      simp only [Link.receive, Link.framingError, framer, l]
      rfl
    | char b =>
      simp only [Link.receive, Link.receiveByte, framer, l, takeBody_eq]
      rfl
  | escape body =>
    cases c with
    | framingError =>
      simp only [Link.receive, Link.framingError, framer, l]
      rfl
    | char b =>
      simp only [Link.receive, Link.receiveByte, framer, l, isDelimiter_eq]
      rfl

/-! ### A frame received whole (R171) -/

/-- The Link after the bytes of a run of characters. -/
theorem run_receive : ∀ (bytes : List Byte) (s : State) (waiting : List Instr), s.powered = true →
    Host.Core.run core bytes.length
        { s with pending := bytes.map (fun b => Instr.receiveCharacter (.char b)) ++ waiting } =
      .next { s with pending := waiting, link := bytes.foldl Link.receiveByte s.link }
  | [], _, _, _ => rfl
  | b :: bytes, s, waiting, on => by
    have first : step { s with pending := (b :: bytes).map (fun b => Instr.receiveCharacter (.char b)) ++ waiting } =
        .next { s with pending := bytes.map (fun b => Instr.receiveCharacter (.char b)) ++ waiting, link := s.link.receiveByte b } :=
      exec_receiveCharacter (s := { s with pending := bytes.map (fun b => Instr.receiveCharacter (.char b)) ++ waiting }) on (.char b)
    have rest := run_receive bytes { s with link := s.link.receiveByte b } waiting on
    change (match step { s with pending := (b :: bytes).map (fun b => Instr.receiveCharacter (.char b)) ++ waiting } with
      | .next s' => Host.Core.run core bytes.length s' | .fault r => .fault r | .refused r => .refused r) = _
    rw [first]
    exact rest

/-- An escaped byte is no delimiter, and exclusive-or with 20H gives it back. -/
theorem unstuff {b : Byte} (h : isDelimiter b = true) :
    b ^^^ 0x20#8 ≠ frameStart ∧ b ^^^ 0x20#8 ≠ frameEnd ∧ b ^^^ 0x20#8 ≠ frameEscape ∧ b ^^^ 0x20#8 ^^^ 0x20#8 = b := by
  revert h
  revert b
  decide

theorem not_delimiter {b : Byte} (h : isDelimiter b = false) : b ≠ frameStart ∧ b ≠ frameEnd ∧ b ≠ frameEscape := by
  simpa [isDelimiter, and_assoc] using h

/-- One byte as sent extends the body by that byte. -/
theorem receive_stuffByte (l : Link) (body : List Byte) (b : Byte) (framer : l.framer = .body body) (room : body.length < 1100) :
    (stuffByte b).foldl Link.receiveByte l = { l with framer := .body (body ++ [b]) } := by
  have extended : ∀ k : Link, k.extend body b = { k with framer := .body (body ++ [b]) } := fun k => if_pos room
  unfold stuffByte
  cases delimiter : isDelimiter b with
  | false =>
    obtain ⟨notStart, notEnd, notEscape⟩ := not_delimiter delimiter
    simp only [Bool.false_eq_true, if_false, List.foldl_cons, List.foldl_nil, Link.receiveByte, framer, if_neg notStart,
      if_neg notEnd, if_neg notEscape, extended]
  | true =>
    obtain ⟨notStart, notEnd, notEscape, back⟩ := unstuff delimiter
    have escaped : l.receiveByte frameEscape = { l with framer := .escape body } := by
      simp only [Link.receiveByte, framer]
      rfl
    have given : (Link.mk l.rate (.escape body) l.discarded l.overrun l.requests l.replies l.completion l.sending).receiveByte
        (b ^^^ 0x20#8) = { l with framer := .body (body ++ [b]) } := by
      simp only [Link.receiveByte, if_neg notStart, if_neg (not_or.2 ⟨notEnd, notEscape⟩), back, delimiter, if_true, extended]
    simp only [if_true, List.foldl_cons, List.foldl_nil, escaped, given]

/-- The bytes of a body as sent leave exactly the body in the framer. -/
theorem receive_stuffed : ∀ (bytes : List Byte) (l : Link) (body : List Byte), l.framer = .body body →
    body.length + bytes.length ≤ 1100 →
    (bytes.flatMap stuffByte).foldl Link.receiveByte l = { l with framer := .body (body ++ bytes) }
  | [], l, body, framer, _ => by simp [← framer]
  | b :: bytes, l, body, framer, room => by
    rw [List.length_cons] at room
    rw [List.flatMap_cons, List.foldl_append, receive_stuffByte l body b framer (by omega),
      receive_stuffed bytes _ (body ++ [b]) rfl (by simpa using (by omega : body.length + 1 + bytes.length ≤ 1100)),
      List.append_assoc]
    rfl

theorem ofBe_foldl (bs : List Byte) (n : Nat) :
    bs.foldl (fun acc b => acc * 256 + b.toNat) n = n * 256 ^ bs.length + ofBe bs := by
  induction bs generalizing n with
  | nil => simp [ofBe]
  | cons b bs ih =>
    have start : ofBe (b :: bs) = b.toNat * 256 ^ bs.length + ofBe bs := by
      unfold ofBe
      rw [List.foldl_cons, ih]
      simp [ofBe]
    rw [List.foldl_cons, ih, start, List.length_cons, pow_succ]
    ring

theorem ofBe_cons (b : Byte) (bs : List Byte) : ofBe (b :: bs) = b.toNat * 256 ^ bs.length + ofBe bs := by
  have h := ofBe_foldl bs b.toNat
  simpa [ofBe] using h

@[simp] theorem length_be : ∀ n v : Nat, (be n v).length = n
  | 0, _ => rfl
  | n + 1, v => by simp [be, length_be n v]

/-- n bytes give back a number modulo 256 to the n. -/
theorem ofBe_be : ∀ n v : Nat, ofBe (be n v) = v % 256 ^ n
  | 0, v => by simp [be, ofBe, Nat.mod_one]
  | n + 1, v => by
    have split := Nat.mod_mul (x := v) (a := 256 ^ n) (b := 256)
    rw [be, ofBe_cons, length_be, ofBe_be n v, BitVec.toNat_ofNat, pow_succ 256 n, split, Nat.add_comm, Nat.mul_comm (256 ^ n)]

/-- A body with its CRC passes the checks of R170. -/
theorem bodyPasses_withCrc {body : List Byte} (long : 10 ≤ body.length) (request : byteAt body 0 = 0x01#8) :
    bodyPasses (withCrc body) = true := by
  have length : (withCrc body).length = body.length + 2 := by simp [withCrc]
  have crc := (crc16 body).isLt
  refine (bodyPasses_iff _).2 ⟨by omega, ?_, ?_⟩
  · rw [length, Nat.add_sub_cancel]
    simp only [withCrc, List.take_left, List.drop_left, ofBe_be]
    exact (Nat.mod_eq_of_lt crc).symm
  · rw [← request]
    simp only [byteAt, withCrc, List.getD_eq_getElem?_getD]
    rw [List.getElem?_append_left (by omega)]

/-- Settles O13: start, the body and its CRC byte by byte, end. -/
theorem framesArriveWhole : Obligations.FramesArriveWhole := by
  intro s body waiting on long short request hunt room
  rw [run_receive _ _ _ on]
  have length : (withCrc body).length = body.length + 2 := by simp [withCrc]
  have started : s.link.receiveByte frameStart = { s.link with framer := .body [] } := by
    simp only [Link.receiveByte, hunt]
    rfl
  have whole := receive_stuffed (withCrc body) { s.link with framer := .body [] } [] rfl (by rw [length]; simpa using short)
  have ended : ({ s.link with framer := .body ([] ++ withCrc body) } : Link).receiveByte frameEnd =
      { s.link with requests := s.link.requests ++ [body] } := by
    have passes := bodyPasses_withCrc long request
    have taken : ({ s.link with framer := .hunt } : Link).takeBody (withCrc body) =
        { s.link with framer := .hunt, requests := s.link.requests ++ [(withCrc body).take ((withCrc body).length - 2)] } := by
      unfold Link.takeBody
      rw [if_pos passes]
      exact if_pos room
    have own : (withCrc body).take ((withCrc body).length - 2) = body := by
      rw [length, Nat.add_sub_cancel, withCrc, List.take_left]
    have hunting : ({ s.link with framer := .hunt, requests := s.link.requests ++ [body] } : Link) =
        { s.link with requests := s.link.requests ++ [body] } := by rw [← hunt]
    rw [own, hunting] at taken
    exact taken
  have all : (wireBytes body).foldl Link.receiveByte s.link = { s.link with requests := s.link.requests ++ [body] } := by
    unfold wireBytes
    simp only [List.foldl_append, List.foldl_cons, List.foldl_nil, started, whole, ended]
  rw [all]

/-! ### The arbiter (R180) -/

theorem exec_transmitFrame {s : State} (on : s.powered = true) : exec .transmitFrame s = .next s.transmit := powered_next on

theorem mem_of_best {u : Notices} : ∀ {ps : List PendingNotice} {q : PendingNotice}, u.best ps = some q → q ∈ ps
  | [], _, h => absurd h (by simp [Notices.best])
  | p :: ps, q, h => by
    unfold Notices.best at h
    split at h
    · next x found =>
      split at h
      · exact List.mem_cons_of_mem _ (mem_of_best (found.trans h))
      · exact Option.some.inj h ▸ List.mem_cons_self
    · exact Option.some.inj h ▸ List.mem_cons_self

/-- The earliest notice of the highest level. -/
theorem best_of_highest {u : Notices} {p : PendingNotice} {after : List PendingNotice}
    (later : ∀ q ∈ after, u.level q.kind ≤ u.level p.kind) :
    ∀ {before : List PendingNotice}, (∀ q ∈ before, u.level q.kind < u.level p.kind) → u.best (before ++ p :: after) = some p
  | [], _ => by
    rw [List.nil_append, Notices.best]
    split
    · next q found => exact if_neg (Nat.not_lt.2 (later q (mem_of_best found)))
    · rfl
  | x :: before, earlier => by
    rw [List.cons_append, Notices.best, best_of_highest later fun q hq => earlier q (List.mem_cons_of_mem _ hq)]
    exact if_pos (earlier x List.mem_cons_self)

/-- Pairs being once, the removal takes the notice alone. -/
theorem removeNotice_of_nodup {p : PendingNotice} {before after : List PendingNotice}
    (once : ((before ++ p :: after).map (fun q => (q.kind, q.target))).Nodup) :
    removeNotice p (before ++ p :: after) = before ++ after := by
  rw [List.map_append, List.map_cons, List.nodup_middle, List.nodup_cons, ← List.map_append] at once
  have other : ∀ q ∈ before ++ after, (!(q.kind == p.kind && q.target == p.target)) = true := by
    intro q hq
    rw [Bool.not_eq_true', Bool.and_eq_false_iff, beq_eq_false_iff_ne, beq_eq_false_iff_ne, ← not_and_or]
    exact fun ⟨kind, target⟩ => once.1 (List.mem_map.2 ⟨q, hq, by rw [kind, target]⟩)
  unfold removeNotice
  rw [List.filter_append, List.filter_cons_of_neg (by simp), ← List.filter_append]
  exact List.filter_eq_self.2 other

/-- Settles O15: what stands first in the order of R180. -/
theorem arbiterChoosesTheFrame : Obligations.ArbiterChoosesTheFrame := by
  intro s on
  rw [exec_transmitFrame on]
  unfold State.transmit
  refine ⟨?reply, ?completion, ?notice, ?busy, powered_next on⟩
  case reply =>
    intro r rest idle replies
    simp only [idle, replies, Option.isSome_none, Bool.false_eq_true, if_false]
    rfl
  case completion =>
    intro c idle replies completion
    simp only [idle, replies, completion, Option.isSome_none, Bool.false_eq_true, if_false]
  case notice =>
    intro before after p idle replies completion pending once earlier later
    have best : s.notices.best s.notices.pending = some p := by
      rw [pending]
      exact best_of_highest later earlier
    have left : removeNotice p s.notices.pending = before ++ after := by
      rw [pending] at once ⊢
      exact removeNotice_of_nodup once
    simp only [idle, replies, completion, best, left, Option.isSome_none, Bool.false_eq_true, if_false]
    rfl
  case busy =>
    intro busy
    rw [if_pos (Option.isSome_iff_ne_none.2 busy)]

/-! ### The Notice Unit -/

theorem exec_noticeEvent {s : State} (on : s.powered = true) : exec .noticeEvent s = .next s.takeEvent := powered_next on

theorem any_pair_iff {α : Type} (kind : α → NoticeKind) (target : α → Target) (k : NoticeKind) (a : Target) (l : List α) :
    l.any (fun c => kind c == k && target c == a) = true ↔ (k, a) ∈ l.map (fun c => (kind c, target c)) := by
  simp [List.any_eq_true, List.mem_map]

/-- Settles O16: the pair has a condition, or has none; and so for its notice. -/
theorem noticeUnitLatchesEvents : Obligations.NoticeUnitLatchesEvents := by
  intro s e rest on wf inbox now conditions pending
  obtain ⟨onceC, onceP, countsC, countsP⟩ := wf
  have latched : latch e.kind e.target s.eventTime s.notices.conditions = conditions := by
    by_cases mem : (e.kind, e.target) ∈ s.notices.conditions.map (fun c => (c.kind, c.target))
    · rw [latch_of_mem onceC mem]
      refine (List.map_congr_left fun c hc => ?_).trans (if_pos ((any_pair_iff _ _ _ _ _).2 mem)).symm
      rw [saturate_eq_min (countsC c hc).2]
      rfl
    · rw [latch_of_not_mem mem]
      exact (if_neg (mt (any_pair_iff _ _ _ _ _).1 mem)).symm
  have placed : (if s.notices.level e.kind = 0 then s.notices.pending else place e s.eventTime s.notices.pending) = pending := by
    refine ite_congr rfl (fun _ => rfl) fun _ => ?_
    by_cases mem : (e.kind, e.target) ∈ s.notices.pending.map (fun p => (p.kind, p.target))
    · rw [place_of_mem onceP mem]
      refine (List.map_congr_left fun p hp => ?_).trans (if_pos ((any_pair_iff _ _ _ _ _).2 mem)).symm
      rw [saturate_eq_min (countsP p hp).2.1]
      rfl
    · rw [place_of_not_mem mem]
      exact (if_neg (mt (any_pair_iff _ _ _ _ _).1 mem)).symm
  rw [exec_noticeEvent on, State.takeEvent, inbox, ← latched, ← placed]
  rfl

end Sys2Proof.Machine
end

section
/-! PROOF. What one append does to the whole state: the journal decides, the notices get its events, and nothing else changes. The
journal's decision and the forfeiture of a queue are settled from it. -/
namespace Sys2Proof.Machine

/-! ### One append in one equation -/

/-- The events of a stored append that raises the count to c, as the inbox gets them. -/
def Journal.crossed (j : Journal) (c : Nat) : List Event :=
  (if j.thresholdA = c then [⟨.journalThresholdA, .part, be 2 c ++ be 2 c⟩] else []) ++
  (if j.thresholdB = c then [⟨.journalThresholdB, .part, be 2 c ++ be 2 c⟩] else []) ++
  (if j.limit = c then [⟨.journalLimit, .part, be 2 c ++ be 2 c⟩] else [])

theorem crossed_eq (j : Journal) (c : Nat) :
    (crossingEvents j c).map (fun e => (⟨e.1, .part, be 2 c ++ be 2 e.2⟩ : Event)) = j.crossed c := by
  unfold crossingEvents Journal.crossed
  rw [List.map_append, List.map_append]
  congr 1
  · congr 1
    all_goals split <;> rfl
  · split <;> rfl

theorem storeRecord_eq (s : State) (lane : Option LaneId) (flags : RecordFlags) (b : RecordBody) :
    s.storeRecord lane flags b = { s with
      journal := s.journal.store s.recordTime lane flags b
      notices := { s.notices with inbox := s.notices.inbox ++ s.journal.crossed (s.journal.count + 1) } } := by
  have inbox := storeRecord_inbox s lane flags b
  rw [crossed_eq] at inbox
  have journal := storeRecord_journal s lane flags b
  obtain ⟨_, _, _, _, _, _, _, _, _, _, _, _, _, _, _, _, _, _, _, _, _⟩ := storeRecord_frame s lane flags b
  generalize s.storeRecord lane flags b = t at *
  obtain ⟨_, _, _, _, _, _, _, _, _, _, _, _, _, _, _, _, _, _, ⟨_, _, _, _⟩, _⟩ := t
  simp_all

/-- An append looks at the journal, the clock and the inbox alone, and changes the journal and the inbox alone. -/
theorem append_with {s t : State} (journal : t.journal = s.journal) (clock : t.clock = s.clock) (notices : t.notices = s.notices)
    (lane : Option LaneId) (flags : RecordFlags) (b : RecordBody) :
    t.append lane flags b =
      ({ t with journal := (s.append lane flags b).1.journal, notices := (s.append lane flags b).1.notices },
       (s.append lane flags b).2) := by
  obtain ⟨_, _, _, _, _, _, _, _, _, _, _, _, _, _, tj, _, _, tc, tn, _⟩ := t
  obtain rfl : tj = s.journal := journal
  obtain rfl : tc = s.clock := clock
  obtain rfl : tn = s.notices := notices
  simp only [State.append, State.storeGap, storeRecord_eq, State.recordTime]
  split_ifs <;> simp_all

theorem record_with {s t : State} (journal : t.journal = s.journal) (clock : t.clock = s.clock) (notices : t.notices = s.notices)
    (lane : Option LaneId) (flags : RecordFlags) (b : RecordBody) :
    t.record lane flags b =
      { t with journal := (s.record lane flags b).journal, notices := (s.record lane flags b).notices } := by
  unfold State.record
  rw [append_with journal clock notices]

/-! ### The journal's decision -/

theorem reserved_iff (j : Journal) : j.reserved = true ↔ 32752 ≤ j.count ∨ 4294967280 ≤ j.next := by
  rw [Journal.reserved, Bool.or_eq_true, decide_eq_true_eq, decide_eq_true_eq]
  exact Iff.rfl

theorem cardWrite_iff (b : RecordBody) :
    b.cardWrite = true ↔ (∃ x, b = .tear x) ∨ ∃ x, b = .card x ∧ x.counterWritten ≠ none := by
  cases b <;> simp [RecordBody.cardWrite, Option.isSome_iff_ne_none]

/-- No GAP record is owed, or the write reserve holds it back. -/
theorem storeGap_of_none {s : State} (h : s.journal.reserved = true ∨ s.journal.gapCount = 0) : s.storeGap = s := by
  unfold State.storeGap
  rw [if_neg]
  rintro ⟨out, owed⟩
  rcases h with h | h
  · simp [h] at out
  · exact owed h

theorem storeGap_of_owed {s : State} (out : s.journal.reserved = false) (owed : s.journal.gapCount ≠ 0) :
    s.storeGap = { s with
      journal := { s.journal.store s.recordTime none RecordFlags.clear
          (.gap s.journal.gapCount (s.journal.firstDrop.getD 0) (s.journal.lastDrop.getD 0)) with
        gapCount := 0, firstDrop := none, lastDrop := none }
      notices := { s.notices with inbox := s.notices.inbox ++ s.journal.crossed (s.journal.count + 1) } } := by
  unfold State.storeGap
  rw [if_pos ⟨out, owed⟩, storeRecord_eq]

theorem append_of_accepts {s : State} {b : RecordBody} (gap : s.journal.reserved = true ∨ s.journal.gapCount = 0)
    (accepts : s.journal.accepts b = true) (lane : Option LaneId) (flags : RecordFlags) :
    s.append lane flags b = ({ s with
      journal := s.journal.store s.recordTime lane { flags with gapFollows := decide (s.journal.gapCount ≠ 0) } b
      notices := { s.notices with inbox := s.notices.inbox ++ s.journal.crossed (s.journal.count + 1) } },
      some s.journal.next) := by
  unfold State.append
  rw [storeGap_of_none gap]
  dsimp only
  rw [if_pos accepts, storeRecord_eq]

theorem accepts_of_open {j : Journal} (out : j.reserved = false) (b : RecordBody) : j.accepts b = true := by
  simp [Journal.accepts, out]

/-- Out of the write reserve with no GAP record owed every record is stored. -/
theorem append_of_open {s : State} (out : s.journal.reserved = false) (settled : s.journal.gapCount = 0) (lane : Option LaneId)
    (flags : RecordFlags) (b : RecordBody) :
    s.append lane flags b = ({ s with
      journal := s.journal.store s.recordTime lane { flags with gapFollows := false } b
      notices := { s.notices with inbox := s.notices.inbox ++ s.journal.crossed (s.journal.count + 1) } },
      some s.journal.next) := by
  rw [append_of_accepts (.inr settled) (accepts_of_open out b)]
  simp [settled]

/-- Settles O42, by the write reserve, the GAP record owed and the kind of the record. -/
theorem journalDecidesAppends : Obligations.JournalDecidesAppends := by
  intro s lane flags b
  have out_iff : ¬ (32752 ≤ s.journal.count ∨ 4294967280 ≤ s.journal.next) ↔ s.journal.reserved = false := by
    rw [← reserved_iff, Bool.not_eq_true]
  refine ⟨?_, ?_, ?_, ?_⟩
  · intro out settled
    exact append_of_open (out_iff.1 out) settled lane flags b
  · intro reserve write count next
    have reserved := (reserved_iff _).2 reserve
    refine append_of_accepts (.inl reserved) ?_ lane flags
    have bounds : s.journal.count < Config.journalCapacity ∧ s.journal.next ≤ Config.max32 := ⟨count, next⟩
    simp [Journal.accepts, reserved, (cardWrite_iff b).2 write, bounds]
  · intro reserve noWrite
    have reserved := (reserved_iff _).2 reserve
    have no : b.cardWrite = false := by simpa using mt (cardWrite_iff b).1 noWrite
    unfold State.append
    rw [storeGap_of_none (.inl reserved)]
    simp only [Journal.accepts, reserved, no, if_true, Bool.false_and, Bool.false_eq_true, if_false]
    rfl
  · intro out owed first last hfirst hlast gap after
    have stored : s.storeGap = after := by
      rw [storeGap_of_owed (out_iff.1 out) owed, hfirst, hlast]
      rfl
    have same : s.append lane flags b = after.append lane flags b := by
      have idle : after.storeGap = after := storeGap_of_none (.inr rfl)
      unfold State.append
      rw [stored, idle]
    refine ⟨same, ?_⟩
    intro count next
    have length : after.journal.count = s.journal.count + 1 := by simp [after, Journal.count]
    have still : after.journal.reserved = false := by
      rw [← Bool.not_eq_true, reserved_iff, length]
      exact not_or.2 ⟨Nat.not_le.2 count, Nat.not_le.2 next⟩
    rw [same, append_of_open still rfl]
    have time : after.recordTime = s.recordTime := by
      simp only [State.recordTime, after]
      split <;> simp_all
    refine ⟨rfl, ?_⟩
    change after.journal.store after.recordTime lane _ b = _
    rw [time, Journal.store]
    congr 1
    exact List.append_assoc _ _ _

/-! ### Forfeiture -/

theorem saturate_iterate {top : Nat} : ∀ (k v : Nat), v + k ≤ top → (saturate top)^[k] v = v + k
  | 0, _, _ => rfl
  | k + 1, v, h => by
    have step : saturate top v = v + 1 := if_pos (by omega)
    rw [Function.iterate_succ_apply, step, saturate_iterate k (v + 1) (by omega)]
    omega

/-- The update a grant sends, none for a STAFF grant. -/
def Grant.update (g : Grant) (n : LaneId) (passed : Bool) (now : Nat) : Option GrantUpdate :=
  g.identity.map (fun id => ⟨passed, id, n, g.direction, now⟩)

theorem sendGrantUpdate_eq (s : State) (n : LaneId) (passed : Bool) (g : Grant) :
    s.sendGrantUpdate n passed g = { s with
      seen := { s.seen with inbox := s.seen.inbox ++ (g.update n passed s.clock.time).toList } } := by
  unfold State.sendGrantUpdate Grant.update
  cases g.identity with
  | none => simp
  | some id => rfl

/-- One grant forfeited: its record, its update and its count. -/
theorem forfeitGrant_eq (s : State) (n : LaneId) (cause : ForfeitCause) (g : Grant) :
    s.forfeitGrant n cause g =
      { (s.record (some n) { RecordFlags.clear with emergency := decide (cause = .emergency) } (.unusedGrant cause g)).setLane n
          { s.lane n with counters := { (s.lane n).counters with forfeited := saturate Config.max32 (s.lane n).counters.forfeited } } with
        seen := { s.seen with inbox := s.seen.inbox ++ (g.update n false s.clock.time).toList } } := by
  unfold State.forfeitGrant
  rw [sendGrantUpdate_eq]
  simp only [record_frame, State.updCounters, State.updLane, State.lane, State.setLane]

/-- The queue forfeited: the lane's count and the updates. -/
theorem forfeitGrants_eq (n : LaneId) (cause : ForfeitCause) : ∀ (queue : List Grant) (s : State),
    let t := queue.foldl (fun t g => t.forfeitGrant n cause g) s
    t.lanes = (s.setLane n { s.lane n with counters := { (s.lane n).counters with
      forfeited := (saturate Config.max32)^[queue.length] (s.lane n).counters.forfeited } }).lanes ∧
    t.seen = { s.seen with inbox := s.seen.inbox ++ queue.filterMap (fun g => g.update n false s.clock.time) }
  | [], s => ⟨congrArg State.lanes (setLane_lane s n).symm, by simp⟩
  | g :: queue, s => by
    obtain ⟨lanes, seen⟩ := forfeitGrants_eq n cause queue (s.forfeitGrant n cause g)
    refine ⟨lanes.trans ?_, seen.trans ?_⟩
    all_goals rw [forfeitGrant_eq]
    · simp [State.setLane, State.lane]
    · cases h : g.update n false s.clock.time <;> simp [h]

/-- The records of a queue forfeited while the journal stays out of its write reserve. -/
theorem forfeitGrants_records (n : LaneId) (cause : ForfeitCause) : ∀ (queue : List Grant) (s : State), s.journal.gapCount = 0 →
    s.journal.count + queue.length ≤ 32752 → s.journal.next + queue.length ≤ 4294967280 →
    (queue.foldl (fun t g => t.forfeitGrant n cause g) s).journal.records.map (·.body) =
      s.journal.records.map (·.body) ++ queue.map (fun g => .unusedGrant cause g)
  | [], s, _, _, _ => by simp
  | g :: queue, s, settled, count, next => by
    rw [List.length_cons] at count next
    have out : s.journal.reserved = false := by
      rw [← Bool.not_eq_true, reserved_iff]
      omega
    have journal : (s.forfeitGrant n cause g).journal = s.journal.store s.recordTime (some n)
        { RecordFlags.clear with emergency := decide (cause = .emergency), gapFollows := false } (.unusedGrant cause g) := by
      rw [forfeitGrant_eq, State.record, append_of_open out settled]
      rfl
    have length : (s.forfeitGrant n cause g).journal.count = s.journal.count + 1 := by
      rw [journal]
      simp [Journal.store, Journal.count]
    rw [List.foldl_cons, forfeitGrants_records n cause queue _ (by rw [journal]; exact settled) (by rw [length]; omega)
      (by rw [journal, Journal.store]; dsimp only; omega), journal]
    simp [Journal.store]

/-- A forfeiture: the lane's queue and count, the updates, and the journal with its events. -/
theorem forfeit_eq (s : State) (n : LaneId) (cause : ForfeitCause) :
    s.forfeit n cause = { s with
      lanes := (s.setLane n { s.lane n with
        gate := { (s.lane n).gate with queue := [] }
        counters := { (s.lane n).counters with
          forfeited := (saturate Config.max32)^[(s.lane n).gate.queue.length] (s.lane n).counters.forfeited } }).lanes
      seen := { s.seen with inbox := s.seen.inbox ++ (s.lane n).gate.queue.filterMap (fun g => g.update n false s.clock.time) }
      journal := (s.forfeit n cause).journal
      notices := (s.forfeit n cause).notices } := by
  obtain ⟨lanes, seen⟩ := forfeitGrants_eq n cause (s.lane n).gate.queue s
  have hlanes : (s.forfeit n cause).lanes = (s.setLane n { s.lane n with
        gate := { (s.lane n).gate with queue := [] }
        counters := { (s.lane n).counters with
          forfeited := (saturate Config.max32)^[(s.lane n).gate.queue.length] (s.lane n).counters.forfeited } }).lanes := by
    simp only [State.forfeit, State.updGate, State.updLane, State.setLane, State.lane] at lanes ⊢
    simp [lanes]
  have hseen : (s.forfeit n cause).seen = _ := seen
  obtain ⟨_, _, _, _, _, _, _, _, _, _, _, _, _, _, _, _, _⟩ := forfeit_frame s n cause
  generalize s.forfeit n cause = t at *
  obtain ⟨_, _, _, _, _, _, _, _, _, _, _, _, _, _, _, _, _, _, _, _⟩ := t
  simp_all

theorem forfeit_lane (s : State) (n : LaneId) (cause : ForfeitCause) :
    (s.forfeit n cause).lane n = { s.lane n with
      gate := { (s.lane n).gate with queue := [] }
      counters := { (s.lane n).counters with
        forfeited := (saturate Config.max32)^[(s.lane n).gate.queue.length] (s.lane n).counters.forfeited } } := by
  rw [forfeit_eq]
  exact lane_setLane_self _ _ _

theorem forfeit_lane_ne (s : State) {n m : LaneId} (cause : ForfeitCause) (other : m ≠ n) : (s.forfeit n cause).lane m = s.lane m := by
  rw [forfeit_eq]
  exact lane_setLane_ne _ other _

/-- Settles O43, from the equation of a forfeiture and the records of its queue. -/
theorem forfeitureEmptiesTheQueue : Obligations.ForfeitureEmptiesTheQueue := by
  intro s n cause
  refine ⟨?_, ?_, ?_, ?_, ?_, ?_, ?_⟩
  · rw [forfeit_lane]
  · intro room
    rw [forfeit_lane, saturate_iterate (top := Config.max32) _ _ room]
  · rw [forfeit_eq]
    rfl
  · rw [forfeit_lane]
  · exact fun m other => forfeit_lane_ne s cause other
  · exact fun settled count next => forfeitGrants_records n cause _ s settled count next
  · rw [forfeit_eq]

end Sys2Proof.Machine
end

section
/-! PROOF. The Gate Controller (R114 to R121, R132): what it settles after every step, its timers, the beams and the passages. -/

namespace Sys2Proof.Machine

/-! ### Settling -/

/-- The command that follows the wanted position, closing only with both beams clear (R114). -/
def Lane.nextCommand (l : Lane) : Position :=
  match l.gate.wanted with
  | .opened => .opened
  | .closed => if l.inputs.clear then .closed else l.gate.command

/-- What the motion timer becomes when the command does (R114). -/
def Lane.nextMotion (l : Lane) (p : Position) : Option Nat :=
  if p = l.gate.command then l.gate.motion
  else if l.gate.state = .fault ∨ l.inputs.report.agrees p = true then none
  else some l.config.motionMs

theorem setCommand_eq (l : Lane) (p : Position) :
    l.setCommand p = { l with gate := { l.gate with command := p, motion := l.nextMotion p } } := by
  unfold Lane.setCommand Lane.nextMotion
  by_cases same : l.gate.command = p
  · rw [if_pos same]
    simp [← same]
  · rw [if_neg same, if_neg (Ne.symm same)]
    rfl

theorem follow_eq (l : Lane) :
    l.follow = { l with gate := { l.gate with command := l.nextCommand, motion := l.nextMotion l.nextCommand } } := by
  unfold Lane.follow Lane.nextCommand
  cases l.gate.wanted with
  | opened => exact setCommand_eq l .opened
  | closed =>
    dsimp only
    split
    · exact setCommand_eq l .closed
    · simp [Lane.nextMotion]

theorem settleClosing_eq (l : Lane) :
    l.settleClosing = { l with gate := { l.gate with
      state := if l.gate.state = .closing ∧ l.gate.command = .closed ∧ l.inputs.report = .closed then .closed else l.gate.state } } := by
  unfold Lane.settleClosing
  split <;> rfl

theorem settleLock_eq (l : Lane) :
    l.settleLock = { l with gate := { l.gate with
      mode := if l.gate.releasable then l.config.mode else l.gate.mode
      lock := if l.gate.releasable then lockFor l.config.mode else l.gate.lock } } := by
  unfold Lane.settleLock
  split <;> rfl

/-- The state that settles out of CLOSING. -/
def Lane.nextState (l : Lane) : GateState :=
  if l.gate.state = .closing ∧ l.nextCommand = .closed ∧ l.inputs.report = .closed then .closed else l.gate.state

theorem settle_eq (l : Lane) :
    l.settle = { l with gate := { l.gate with
      command := l.nextCommand
      motion := l.nextMotion l.nextCommand
      state := l.nextState
      mode := if ({ l.gate with state := l.nextState } : Gate).releasable then l.config.mode else l.gate.mode
      lock := if ({ l.gate with state := l.nextState } : Gate).releasable then lockFor l.config.mode else l.gate.lock } } := by
  rw [Lane.settle, settleLock_eq, settleClosing_eq, follow_eq]
  rfl

theorem wanted_iff (g : Gate) :
    g.wanted = .opened ↔ g.state = .opened ∨ g.state = .heldOpen ∨ ((g.state = .outOfService ∨ g.state = .fault) ∧ g.emergency = true) := by
  unfold Gate.wanted
  cases g.state <;> cases g.emergency <;> simp

theorem clear_iff (i : LaneInputs) : i.clear = true ↔ i.beamS = false ∧ i.beamP = false := by simp [LaneInputs.clear]

theorem nextCommand_eq (l : Lane) :
    l.nextCommand = if l.gate.state = .opened ∨ l.gate.state = .heldOpen ∨
        ((l.gate.state = .outOfService ∨ l.gate.state = .fault) ∧ l.gate.emergency = true) then .opened
      else if l.inputs.beamS = false ∧ l.inputs.beamP = false then .closed else l.gate.command := by
  unfold Lane.nextCommand
  simp only [← wanted_iff, ← clear_iff]
  cases l.gate.wanted <;> simp

theorem report_eq (i : LaneInputs) :
    i.report = match i.gsa, i.gsb with
      | true, false => .opened
      | false, true => .closed
      | _, _ => .between := by
  unfold LaneInputs.report
  cases i.gsa <;> cases i.gsb <;> rfl

theorem agrees_iff (r : Report) (p : Position) : r.agrees p = true ↔ r = if p = .opened then .opened else .closed := by
  cases p <;> simp [Report.agrees]

theorem releasable_iff (g : Gate) :
    g.releasable = true ↔ g.queue = [] ∧ g.place = false ∧ g.state ≠ .opened ∧ g.state ≠ .closing := by
  simp [Gate.releasable, and_assoc]

theorem lockFor_eq (m : DirMode) : lockFor m = match m with | .both => .free | .entry => .s | .exit => .p := by cases m <;> rfl

theorem nextMotion_eq (l : Lane) (p : Position) :
    l.nextMotion p = if p = l.gate.command then l.gate.motion
      else if l.inputs.report = (if p = .opened then .opened else .closed) ∨ l.gate.state = .fault then none
      else some (l.config.motionTimeout * 100) := by
  simp only [Lane.nextMotion, agrees_iff, or_comm]
  rfl

/-! ### A step of every lane -/

theorem laneIds_eq : laneIds = List.finRange 8 := by decide
theorem slotIds_eq : slotIds = List.finRange 8 := by decide

/-- What the step of place n does to place n, when the steps leave the other places alone: it meets the place as it was. -/
theorem foldl_at {γ : Type} {view : State → Fin 8 → γ} {f : State → Fin 8 → State} {P : State → Prop}
    (apart : ∀ m w k, k ≠ m → view (f w m) k = view w k) (keeps : ∀ m w, P w → P (f w m)) {s : State} (start : P s) (n : Fin 8) :
    ∃ w, P w ∧ view w n = view s n ∧ view ((List.finRange 8).foldl f s) n = view (f w n) n := by
  have others : ∀ (ids : List (Fin 8)) (w : State), n ∉ ids → P w → P (ids.foldl f w) ∧ view (ids.foldl f w) n = view w n := by
    intro ids
    induction ids with
    | nil => exact fun w _ h => ⟨h, rfl⟩
    | cons m ids ih =>
      intro w absent h
      rw [List.mem_cons, not_or] at absent
      obtain ⟨hP, same⟩ := ih (f w m) absent.2 (keeps m w h)
      exact ⟨hP, same.trans (apart m w n absent.1)⟩
  obtain ⟨before, after, split⟩ := List.append_of_mem (List.mem_finRange n)
  have once : (before ++ n :: after).Nodup := split ▸ List.nodup_finRange 8
  rw [List.nodup_append, List.nodup_cons] at once
  obtain ⟨_, ⟨notAfter, _⟩, disjoint⟩ := once
  obtain ⟨hP, same⟩ := others before s (fun h => disjoint n h n List.mem_cons_self rfl) start
  refine ⟨_, hP, same, ?_⟩
  rw [split, List.foldl_append, List.foldl_cons]
  exact (others after _ notAfter (keeps n _ hP)).2

theorem eachLane_at {f : LaneId → State → State} {P : State → Prop} (apart : ∀ m w k, k ≠ m → (f m w).lane k = w.lane k)
    (keeps : ∀ m w, P w → P (f m w)) {s : State} (start : P s) (n : LaneId) :
    ∃ w, P w ∧ w.lane n = s.lane n ∧ (s.eachLane f).lane n = (f n w).lane n := by
  unfold State.eachLane
  rw [laneIds_eq]
  exact foldl_at (view := State.lane) (f := fun w m => f m w) apart keeps start n

/-- Two folds agree while what the steps share holds. -/
theorem foldl_congr_of_keeps {f g : State → LaneId → State} {P : State → Prop} (same : ∀ w n, P w → f w n = g w n)
    (keeps : ∀ w n, P w → P (g w n)) : ∀ (ids : List LaneId) {w : State}, P w → ids.foldl f w = ids.foldl g w
  | [], _, _ => rfl
  | n :: ids, w, h => by
    rw [List.foldl_cons, List.foldl_cons, same w n h]
    exact foldl_congr_of_keeps same keeps ids (keeps w n h)

/-! ### Readiness at the gates (R121, R192) -/

theorem settleGate_eq (s : State) (n : LaneId) : s.settleGate n = s.setLane n (s.lane n).settle := rfl

theorem settleGate_lane_ne (s : State) {n k : LaneId} (other : k ≠ n) : (s.settleGate n).lane k = s.lane k :=
  lane_setLane_ne _ other _

theorem settleService_lane_ne (s : State) {n k : LaneId} (other : k ≠ n) : (s.settleService n).lane k = s.lane k := by
  unfold State.settleService
  dsimp only
  split_ifs
  · rfl
  · unfold State.enterOutOfService
    rw [settleGate_lane_ne _ other, updGate_eq, lane_setLane_ne _ other, forfeit_lane_ne _ _ other, updGate_eq, lane_setLane_ne _ other]
  · unfold State.leaveOutOfService
    rw [settleGate_lane_ne _ other, updGate_eq, lane_setLane_ne _ other]
  · rfl

theorem settleService_ready (s : State) (n : LaneId) : (s.settleService n).ready = s.ready := by
  refine ready_congr ?_ ?_ ?_ ?_
  all_goals simp only [settleService_frame]

/-- Settles O44: the normal form of settling, and the eight gates one by one. -/
theorem gateSettlesItsCommand : Obligations.GateSettlesItsCommand := by
  refine ⟨?_, ?_⟩
  · intro l g wantsOpen report command matched x
    have hcommand : l.nextCommand = command := nextCommand_eq l
    have hreport : l.inputs.report = report := report_eq l.inputs
    have hx : x = _ := settle_eq l
    have hstate : x.gate.state = if g.state = .closing ∧ command = .closed ∧ report = .closed then .closed else g.state := by
      rw [hx, ← hcommand, ← hreport]
      rfl
    have hmode : x.gate.mode = if ({ l.gate with state := x.gate.state } : Gate).releasable then l.config.mode else l.gate.mode := by rw [hx]
    have hlock : x.gate.lock = if ({ l.gate with state := x.gate.state } : Gate).releasable then lockFor l.config.mode else l.gate.lock := by
      rw [hx]
    refine ⟨by rw [hx, ← hcommand], ?_, hstate, ?_, ?_, by rw [hx]⟩
    · rw [hx]
      dsimp only
      rw [nextMotion_eq, hcommand, hreport]
    · intro queue place opened closing
      have free : ({ l.gate with state := x.gate.state } : Gate).releasable = true := (releasable_iff _).2 ⟨queue, place, opened, closing⟩
      rw [hmode, hlock, if_pos free, if_pos free]
      exact ⟨rfl, lockFor_eq _⟩
    · intro held
      have taken : ¬ ({ l.gate with state := x.gate.state } : Gate).releasable = true := by
        rw [releasable_iff]
        rintro ⟨queue, place, opened, closing⟩
        rcases held with h | h | h | h
        · exact h queue
        · exact absurd (place.symm.trans h) (by decide)
        · exact opened h
        · exact closing h
      rw [hmode, hlock, if_neg taken, if_neg taken]
      exact ⟨rfl, rfl⟩
  · intro s before leaves enters moved t
    have each : ∀ w n, w.ready = s.ready → moved w n = w.settleService n := by
      intro w n same
      simp only [moved, State.settleService, same]
      cases s.ready <;> cases (w.lane n).config.service <;> cases (w.lane n).gate.state <;> rfl
    have at_lane : ∀ n, s.ready ≠ before → ∃ w : State, w.ready = s.ready ∧ w.lane n = s.lane n ∧
        t.lane n = (w.settleService n).lane n := by
      intro n changed
      have all : t = s.eachLane (fun n t => t.settleService n) := if_neg changed
      rw [all]
      exact eachLane_at (P := fun w => w.ready = s.ready) (fun m w k other => settleService_lane_ne w other)
        (fun m w h => (settleService_ready w m).trans h) rfl n
    refine ⟨fun same => if_pos same, ?_, ?_, ?_, ?_⟩
    · intro changed
      have all : t = (List.finRange 8).foldl (fun t n => t.settleService n) s := if_neg changed
      rw [all]
      exact (foldl_congr_of_keeps (P := fun w => w.ready = s.ready) each
        (fun w n h => (settleService_ready w n).trans h) _ rfl).symm
    · intro n ready unready service out
      obtain ⟨w, same, lane, result⟩ := at_lane n (by simp [ready, unready])
      have left : w.settleService n = w.leaveOutOfService n := by simp [State.settleService, lane, same, ready, service, out]
      rw [result, left, State.leaveOutOfService, settleGate_eq, lane_setLane_self, updGate_eq, lane_setLane_self, lane]
    · intro n ready unready fault out
      obtain ⟨w, same, lane, result⟩ := at_lane n (by simp [ready, unready])
      have entered : w.settleService n = w.enterOutOfService n := by simp [State.settleService, lane, same, ready, fault, out]
      rw [result, entered, State.enterOutOfService, settleGate_eq, lane_setLane_self, settle_eq, updGate_eq, lane_setLane_self,
        forfeit_lane]
      simp [Lane.nextState, updGate_eq]
    · intro n fault
      by_cases changed : s.ready = before
      · exact congrArg (State.lane · n) (if_pos changed)
      · obtain ⟨w, same, lane, result⟩ := at_lane n changed
        have stays : w.settleService n = w := by simp [State.settleService, lane, fault]
        rw [result, stays, lane]

/-! ### Timers and the actuator (R114 to R120) -/

theorem actuator_eq (l : Lane) (gsa gsb : Bool) :
    l.actuator gsa gsb = { l with
      inputs := { l.inputs with gsa := gsa, gsb := gsb }
      gate := { l.gate with
        motion := if ({ l.inputs with gsa := gsa, gsb := gsb } : LaneInputs).report.agrees l.gate.command then none
          else if l.inputs.report.agrees l.gate.command = true ∧ l.gate.motion.isNone = true ∧ l.gate.state ≠ .fault then
            some l.config.motionMs
          else l.gate.motion } } := by
  unfold Lane.actuator
  dsimp only
  split_ifs <;> rfl

theorem report_agrees (i : LaneInputs) (p : Position) :
    i.report.agrees p = match p with
      | .opened => i.gsa && !i.gsb
      | .closed => !i.gsa && i.gsb := by
  unfold LaneInputs.report
  cases p <;> cases i.gsa <;> cases i.gsb <;> rfl

/-- Settles O55: each timer when it runs and when it does not, and the report. -/
theorem gateTimersAndActuatorAct : Obligations.GateTimersAndActuatorAct := by
  intro s n gsa gsb on l g agrees motion
  have expires : exec (.openTimerExpiry n) s = .next (s.openTimerExpires n) := powered_next on
  have faults : exec (.motionTimerExpiry n) s = .next (if g.motion.isSome then s.gateFault n else s) := powered_next on
  refine ⟨?_, ?_, ?_, ?_, ?_⟩
  · intro idle
    have stopped : (s.lane n).gate.openTimer.isSome = false := Option.isSome_eq_false_iff.2 (Option.isNone_iff_eq_none.2 idle)
    rw [expires, State.openTimerExpires, stopped]
    rfl
  · intro runs
    rw [expires, State.openTimerExpires, if_pos (Option.isSome_iff_ne_none.2 runs)]
    rfl
  · intro idle
    rw [faults, idle]
    rfl
  · intro runs
    rw [faults, if_pos (Option.isSome_iff_ne_none.2 runs)]
    rfl
  · have reports : exec (.actuatorReport n gsa gsb) s = .next ((s.setLane n (l.actuator gsa gsb)).settleGate n) := by
      change Host.Outcome.next (if s.powered then _ else _) = _
      rw [if_pos on]
      rfl
    have moves : l.actuator gsa gsb = { l with inputs := { l.inputs with gsa := gsa, gsb := gsb }, gate := { g with motion := motion } } := by
      simp only [actuator_eq, report_agrees, Option.isNone_iff_eq_none, motion, agrees]
      rfl
    rw [reports, moves]

/-! ### Beams (R129 to R131) -/

theorem nextMotion_opened {l : Lane} (closed : l.gate.command = .closed) :
    l.nextMotion .opened =
      if l.gate.state = .fault ∨ (l.inputs.gsa = true ∧ l.inputs.gsb = false) then none else some (l.config.motionTimeout * 100) := by
  simp only [Lane.nextMotion, closed, report_agrees, Bool.and_eq_true, Bool.not_eq_true', reduceCtorEq, if_false]
  rfl

/-- A close in motion reversed, under any name of the condition (R115). -/
theorem reverse_fields (l : Lane) {R : Prop} [Decidable R]
    (hR : R ↔ l.gate.command = .closed ∧ l.gate.motion ≠ none ∧ l.gate.state ≠ .closed) :
    l.reverse = { l with gate := { l.gate with
      command := if R then .opened else l.gate.command
      motion := if R then
          if l.gate.state = .fault ∨ (l.inputs.gsa = true ∧ l.inputs.gsb = false) then none else some (l.config.motionTimeout * 100)
        else l.gate.motion } } := by
  unfold Lane.reverse
  simp only [Option.isSome_iff_ne_none]
  by_cases closing : R
  · rw [if_pos closing, if_pos closing, if_pos (hR.1 closing), setCommand_eq, nextMotion_opened (hR.1 closing).1]
  · rw [if_neg closing, if_neg closing, if_neg (mt hR.2 closing)]

theorem setBeam_eq (i : LaneInputs) (side : Side) (broken : Bool) :
    i.setBeam side broken = if side = .s then { i with beamS := broken } else { i with beamP := broken } := by cases side <;> rfl

theorem breakBeam_eq (l : Lane) (side : Side) :
    l.breakBeam side = ({ l with
      inputs := l.inputs.setBeam side true
      monitor := if l.monitor.resync then l.monitor else l.monitor.after side true } : Lane).reverse := by
  unfold Lane.breakBeam
  dsimp only
  split <;> rfl

/-- A beam broken, its reversal named by any condition that says so. -/
theorem breakBeam_fields (l : Lane) (side : Side) {R : Prop} [Decidable R]
    (hR : R ↔ l.gate.command = .closed ∧ l.gate.motion ≠ none ∧ l.gate.state ≠ .closed) :
    l.breakBeam side = { l with
      inputs := l.inputs.setBeam side true
      monitor := if l.monitor.resync then l.monitor else l.monitor.after side true
      gate := { l.gate with
        command := if R then .opened else l.gate.command
        motion := if R then
            if l.gate.state = .fault ∨ (l.inputs.gsa = true ∧ l.inputs.gsb = false) then none else some (l.config.motionTimeout * 100)
          else l.gate.motion } } := by
  rw [breakBeam_eq, reverse_fields (R := R)]
  · cases side <;> rfl
  · exact hR

theorem setResync_self {m : Monitor} {b : Bool} (h : m.resync = b) : { m with resync := b } = m := by rw [← h]

theorem handOver_eq (l : Lane) (side : Side) :
    l.handOver side = { l with
      gate := { l.gate with passages := l.gate.passages ++
        (l.monitor.state.completes side).toList.map (fun d => ⟨d, l.monitor.occupancy.getD 0⟩) }
      counters := { l.counters with
        balk := if l.monitor.state.balks side then saturate Config.max32 l.counters.balk else l.counters.balk } } := by
  unfold Lane.handOver
  cases l.monitor.state <;> cases side <;> simp [PassageState.completes, PassageState.balks, Lane.updGate]

theorem clearBeam_of_resync {l : Lane} (still : l.monitor.resync = true) (side : Side) :
    l.clearBeam side = { l with
      inputs := l.inputs.setBeam side false
      monitor := { l.monitor with resync := !(l.inputs.setBeam side false).clear } } := by
  unfold Lane.clearBeam
  dsimp only
  rw [if_pos still]

theorem clearBeam_of_moving {l : Lane} (moving : l.monitor.resync = false) (side : Side) :
    l.clearBeam side = { l with
      inputs := l.inputs.setBeam side false
      monitor := l.monitor.after side false
      gate := { l.gate with passages := l.gate.passages ++
        (l.monitor.state.completes side).toList.map (fun d => ⟨d, l.monitor.occupancy.getD 0⟩) }
      counters := { l.counters with
        balk := if l.monitor.state.balks side then saturate Config.max32 l.counters.balk else l.counters.balk } } := by
  unfold Lane.clearBeam
  dsimp only
  rw [moving, if_neg (by decide), handOver_eq]

/-- Settles O56: the two changes of a beam as one equation of the lane. -/
theorem beamsMoveTheMonitor : Obligations.BeamsMoveTheMonitor := by
  intro s n side broken on l g c before inputs x y passage balk monitor reverses moved
  have hbefore : l.inputs.beam side = before := by cases side <;> rfl
  have hinputs : l.inputs.setBeam side broken = inputs := setBeam_eq _ _ _
  have hnext : x.next side broken = y := by
    simp only [y]
    generalize x = z
    cases z <;> cases side <;> cases broken <;> rfl
  have hmonitor : l.monitor.resync = false → l.monitor.after side broken = monitor := by
    intro moving
    simp only [Monitor.after, monitor, moving, Bool.false_eq_true, if_false]
    rw [hnext]
  have hlane : (if broken then l.breakBeam side else l.clearBeam side) = moved := by
    cases broken with
    | true =>
      have noPassage : passage = [] := by
        simp only [passage]
        split <;> simp_all
      have noBalk : balk = false := by
        simp only [balk]
        split <;> simp_all
      have hreset : (if l.monitor.resync then l.monitor else l.monitor.after side true) = monitor := by
        cases moving : l.monitor.resync with
        | false => exact hmonitor moving
        | true =>
          simp only [monitor, moving, if_true, Bool.true_or]
          exact (setResync_self moving).symm
      rw [if_pos rfl, breakBeam_fields l side (R := reverses) (by simp only [reverses, true_and]; exact Iff.rfl), hinputs, hreset]
      simp only [moved, noPassage, noBalk, Bool.false_eq_true, false_and, and_false, if_false, ite_self, List.append_nil]
      rfl
    | false =>
      have still : ¬ reverses := fun h => Bool.noConfusion h.1
      have hpassage : (x.completes side).toList.map (fun d => (⟨d, l.monitor.occupancy.getD 0⟩ : Passage)) = passage := by
        simp only [passage]
        generalize x = z
        cases z <;> cases side <;> rfl
      have hbalk : x.balks side = balk := by
        simp only [balk]
        generalize x = z
        cases z <;> cases side <;> rfl
      rw [if_neg (by decide)]
      cases moving : l.monitor.resync with
      | true =>
        rw [clearBeam_of_resync moving, hinputs]
        simp only [moved, monitor, moving, still, if_true, if_false, List.append_nil, Bool.true_eq_false, false_and, Bool.false_or,
          LaneInputs.clear, Bool.not_and, Bool.not_not]
        rfl
      | false =>
        rw [clearBeam_of_moving moving, hinputs, hmonitor moving, hpassage, hbalk]
        simp only [moved, moving, still, if_false, Bool.false_eq_true, true_and]
        congr 2
        cases balk with
        | false => simp
        | true => simp only [true_and]; rfl
  refine ⟨?_, ?_, ?_⟩
  · intro same
    cases broken <;> exact congrArg Host.Outcome.next (if_pos (hbefore.trans same))
  · intro changed
    rw [← hlane]
    cases broken <;>
    · refine congrArg Host.Outcome.next ((if_neg (fun h => changed (hbefore.symm.trans h))).trans ((if_pos on).trans ?_))
      rw [updLane_eq, settleGate_eq, lane_setLane_self, setLane_setLane]
      rfl
  · intro changed cleared clearS clearP closing
    rw [settle_eq]
    dsimp only
    rw [nextCommand_eq, if_neg, if_pos ⟨clearS, clearP⟩]
    rcases closing with h | h <;> simp [moved, g, h]

/-! ### Completed passages (R132, R133) -/

/-- The oldest grant consumed: its update, and a queue emptied in OPEN closes. -/
theorem consume_eq {s : State} {n : LaneId} {x : Grant} {more : List Grant} (queue : (s.lane n).gate.queue = x :: more) :
    s.consume n = { s.updGate n (fun g => { g with
        queue := more
        state := if g.state = .opened ∧ more = [] then .closing else g.state
        openTimer := if g.state = .opened ∧ more = [] then none else g.openTimer }) with
      seen := { s.seen with inbox := s.seen.inbox ++ (x.update n true s.clock.time).toList } } := by
  unfold State.consume
  rw [queue]
  dsimp only
  rw [sendGrantUpdate_eq]
  have emptied : (fun g : Gate => if g.state = .opened ∧ more.isEmpty = true then
        { g with queue := more, state := .closing, openTimer := none } else { g with queue := more }) = fun g => { g with
      queue := more
      state := if g.state = .opened ∧ more = [] then .closing else g.state
      openTimer := if g.state = .opened ∧ more = [] then none else g.openTimer } := by
    funext g
    simp only [List.isEmpty_iff]
    split <;> rfl
  rw [emptied]
  rfl

theorem passageData_eq (p : Passage) : p.data = [if p.direction = .entry then 0 else 1] ++ be 2 p.occupancy := by
  unfold Passage.data
  cases p.direction <;> rfl

theorem updCounters_updCounters (s : State) (n : LaneId) (f g : Counters → Counters) :
    (s.updCounters n f).updCounters n g = s.updCounters n (g ∘ f) := by
  simp only [updCounters_eq, lane_setLane_self, setLane_setLane]
  rfl

/-- Counters change after the record and its event, or before them. -/
theorem anomaly_updCounters (s : State) (n : LaneId) (p : Passage) (cls : PassageClass) (kind : NoticeKind)
    (f : Counters → Counters) : (s.updCounters n f).anomaly n p cls kind = (s.anomaly n p cls kind).updCounters n f := by
  unfold State.anomaly
  rw [record_with (s := s) (t := s.updCounters n f) rfl rfl rfl]
  simp only [updCounters_eq, State.raise, State.setLane, State.lane, record_frame]

theorem grantIn_iff (g : Gate) (d : Direction) : g.grantIn d = true ↔ ∃ x more, g.queue = x :: more ∧ x.direction = d := by
  unfold Gate.grantIn
  cases g.queue <;> simp

/-- Settles O57, by the lines of the table. -/
theorem passagesAreClassified : Obligations.PassagesAreClassified := by
  intro s n p rest on oldest g w count granted recorded ends consumed
  have taken : ∀ t, w.classifyPassage n p = t → exec (.passageCompleted n) s = .next (t.settleGate n) := by
    rintro t rfl
    have run : exec (.passageCompleted n) s = .next (s.takePassage n) := powered_next on
    rw [run, State.takePassage, oldest]
    rfl
  have gate : (w.lane n).gate = { g with passages := rest } := by rw [lane_setLane_self]
  have config : (w.lane n).config = (s.lane n).config := by rw [lane_setLane_self]
  have hconsumed : ∀ x more, g.queue = x :: more → w.consume n = consumed x more := by
    intro x more queue
    rw [consume_eq (x := x) (more := more) (by rw [gate]; exact queue)]
    simp only [consumed, Grant.update]
    cases x.identity with
    | none =>
      simp only [Option.map_none, Option.toList_none, List.append_nil]
      rfl
    | some id => rfl
  have granted_iff : (w.lane n).gate.grantIn p.direction = true ↔ granted := by
    rw [grantIn_iff, gate]
  have hrecorded : ∀ t cls kind, State.anomaly t n p cls kind = recorded t cls kind := by
    intro t cls kind
    rw [State.anomaly, passageData_eq]
  have classified : w.classifyPassage n p =
      if g.emergency then w.updCounters n (fun c => c.emergencyPassage p.direction)
      else if g.state = .heldOpen then
        (if (w.lane n).gate.grantIn p.direction then w.consume n else w).updCounters n (fun c => { c with held := count c.held })
      else if (w.lane n).gate.grantIn p.direction then w.paidPassage n p
      else if g.state = .closed ∨ g.shut = true then
        (w.anomaly n p .forced .forcedPassage).updCounters n (fun c => { c with forced := count c.forced })
      else if g.queue.isEmpty = false then
        (w.anomaly n p .counterflow .counterflow).updCounters n (fun c => { c with counterflow := count c.counterflow })
      else (w.anomaly n p .unpaid .unpaidPassage).updCounters n (fun c => { c with unpaid := count c.unpaid }) := by
    unfold State.classifyPassage
    rw [gate]
    rfl
  refine ⟨?_, ?_, ?_, ?_, ?_⟩
  · intro emergency
    refine taken _ ?_
    rw [classified, if_pos emergency]
    unfold Counters.emergencyPassage
    cases p.direction <;> rfl
  · intro calm held
    rw [if_neg (by simp [calm]), if_pos held] at classified
    refine ⟨fun ungranted => taken _ ?_, fun x more queue same => taken _ ?_⟩
    · rw [classified, if_neg (mt granted_iff.1 ungranted)]
    · rw [classified, if_pos (granted_iff.2 ⟨x, more, queue, same⟩), hconsumed x more queue]
  · intro x more calm free queue same
    rw [if_neg (by simp [calm]), if_neg free, if_pos (granted_iff.2 ⟨x, more, queue, same⟩), State.paidPassage, config,
      hconsumed x more queue] at classified
    refine ⟨fun inTime => taken _ ?_, fun late => taken _ ?_⟩
    · rw [classified, if_neg (by rw [decide_eq_true_eq]; exact Nat.not_lt.2 inTime)]
      rfl
    · rw [classified, if_pos (by rw [decide_eq_true_eq]; exact late), anomaly_updCounters, hrecorded,
        updCounters_updCounters]
      rfl
  · intro calm ungranted shut
    refine taken _ ?_
    have free : g.state ≠ .heldOpen := by rcases shut with h | h | h <;> simp [h]
    rw [classified, if_neg (by simp [calm]), if_neg free, if_neg (mt granted_iff.1 ungranted), if_pos, hrecorded]
    rwa [shut_iff]
  · intro calm ungranted moving
    have free : g.state ≠ .heldOpen := by rcases moving with h | h <;> simp [h]
    have unshut : ¬ (g.state = .closed ∨ g.shut = true) := by
      rw [shut_iff]
      rcases moving with h | h <;> simp [h]
    rw [if_neg (by simp [calm]), if_neg free, if_neg (mt granted_iff.1 ungranted), if_neg unshut] at classified
    refine ⟨fun queue => taken _ ?_, fun queue => taken _ ?_⟩
    · rw [classified, if_pos (by simpa using queue), hrecorded]
    · rw [classified, if_neg (by simp [queue]), hrecorded]

end Sys2Proof.Machine
end

section
/-! PROOF. The emergency line at the Emergency Input (R139 to R141). -/

namespace Sys2Proof.Machine

/-- A change handed to the lane's gate and engine. -/
def Lane.handed (c : LineChange) (l : Lane) : Lane := { l with
  gate := { l.gate with lineIn := l.gate.lineIn ++ [c] }
  engine := { l.engine with lineIn := l.engine.lineIn ++ [c] } }

/-- The same step of every lane is a map over the lanes. -/
theorem eachLane_updLane (s : State) (f : Lane → Lane) :
    s.eachLane (fun n t => t.updLane n f) = { s with lanes := s.lanes.map f } := by
  have each : ∀ (ids : List LaneId) (w : State), ids.foldl (fun t n => t.updLane n f) w =
      { w with lanes := ids.foldl (fun (v : Vector Lane 8) n => v.set n.val (f v[n.val])) w.lanes } := by
    intro ids
    induction ids with
    | nil => exact fun _ => rfl
    | cons n ids ih => exact fun w => ih (w.updLane n f)
  have whole : s.eachLane (fun n t => t.updLane n f) = { s with lanes := _ } := each laneIds s
  rw [whole]
  congr 1
  ext i hi
  obtain ⟨w, _, same, result⟩ := eachLane_at (f := fun n t => t.updLane n f) (P := fun _ => True)
    (fun m w k other => lane_setLane_ne w other _) (fun _ _ _ => trivial) (s := s) trivial ⟨i, hi⟩
  rw [updLane_eq, lane_setLane_self, same] at result
  rw [Vector.getElem_map]
  exact result

theorem handLine_eq (s : State) (c : LineChange) :
    s.handLine c = { s with
      lanes := s.lanes.map (Lane.handed c)
      incidents := { s.incidents with lineIn := s.incidents.lineIn ++ [c] } } := by
  unfold State.handLine
  rw [eachLane_updLane]
  rfl

theorem record_updEmergency (s : State) (f : EmergencyInput → EmergencyInput) (lane : Option LaneId) (flags : RecordFlags)
    (b : RecordBody) : (s.updEmergency f).record lane flags b = (s.record lane flags b).updEmergency f := by
  rw [record_with (s := s) (t := s.updEmergency f) rfl rfl rfl]
  simp only [State.updEmergency, record_frame]

/-- Settles O58: the level, and the line taken when it has settled. -/
theorem emergencyLineIsTaken : Obligations.EmergencyLineIsTaken := by
  intro s low on e handed
  have settled : e.settling.isSome = true ↔ e.settling ≠ none := Option.isSome_iff_ne_none
  refine ⟨?_, ?_, ?_, ?_, ?_⟩
  · change Host.Outcome.next (s.updEmergency _) = _
    unfold State.updEmergency EmergencyInput.change
    dsimp only
    rw [if_pos on]
    split <;> rfl
  · intro runs level clear
    refine (powered_next on).trans (congrArg Host.Outcome.next ?_)
    rw [State.assertionTaken, if_pos ⟨settled.2 runs, level, clear⟩]
    dsimp only
    rw [handLine_eq]
    rfl
  · intro idle
    refine (powered_next on).trans (congrArg Host.Outcome.next ?_)
    rw [State.assertionTaken, if_neg]
    rintro ⟨runs, level, clear⟩
    rcases idle with h | h | h
    · exact settled.1 runs h
    · exact Bool.noConfusion (h.symm.trans level)
    · exact Bool.noConfusion (h.symm.trans clear)
  · intro runs level asserted
    refine (powered_next on).trans (congrArg Host.Outcome.next ?_)
    rw [State.releaseTaken, if_pos ⟨settled.2 runs, level, asserted⟩]
    dsimp only
    have cleared : handed .release { s with emergency := { e with settling := none, taken := false, assertedAt := none } } =
        ((s.updEmergency (fun e => { e with settling := none, taken := false })).handLine .release).updEmergency
          (fun e => { e with assertedAt := none }) := by
      rw [handLine_eq]
      rfl
    rw [cleared, record_updEmergency]
    rfl
  · intro idle
    refine (powered_next on).trans (congrArg Host.Outcome.next ?_)
    rw [State.releaseTaken, if_neg]
    rintro ⟨runs, level, asserted⟩
    rcases idle with h | h | h
    · exact settled.1 runs h
    · exact Bool.noConfusion (h.symm.trans level)
    · exact Bool.noConfusion (h.symm.trans asserted)

end Sys2Proof.Machine
end

section
/-! PROOF. The Request Processor (R173 to R177, R193): readiness tested, the tests that stand before every command, and REQUEST SENSE. -/

namespace Sys2Proof.Machine

/-! ### The reasons of TEST READY (R192, R193) -/

theorem firstSet_of_findIdx? : ∀ {bs : List Bool} {k : Nat}, bs.findIdx? id = some k → firstSet bs = k ∧ bs.contains true = true
  | true :: bs, k, h => by
    simp only [List.findIdx?_cons, id, if_true, Option.some.injEq] at h
    exact ⟨h, by simp⟩
  | false :: bs, k, h => by
    simp only [List.findIdx?_cons, id, Bool.false_eq_true, if_false, Option.map_eq_some_iff] at h
    obtain ⟨j, hj, rfl⟩ := h
    obtain ⟨first, has⟩ := firstSet_of_findIdx? hj
    exact ⟨by simp [firstSet, first, Nat.add_comm], by simpa using has⟩

theorem not_contains_of_findIdx? {bs : List Bool} (h : bs.findIdx? id = none) : bs.contains true = false := by
  rw [List.findIdx?_eq_none_iff] at h
  rw [← Bool.not_eq_true, List.contains_iff_mem]
  exact fun m => Bool.noConfusion (h true m)

theorem takeRequest_reasons (s : State) (r : Request) (rest : List (List Byte)) (a : Target) :
    (s.takeRequest r rest).reasons a = s.reasons a := by
  cases a <;> simp [State.reasons, State.partReasons, State.laneReasons, State.initialising, takeRequest_lane]

/-! ### The tests before every command (R174, R175) -/

/-- The codes of commands for either kind of target, for the part and for a lane, and of those that make the store-protected test. -/
def eitherNamed : List Byte := [0x01, 0x02, 0x03]
def partNamed : List Byte :=
  [0x04, 0x05, 0x06, 0x08, 0x09, 0x10, 0x11, 0x12, 0x13, 0x14, 0x18, 0x19, 0x1C, 0x1D, 0x1E, 0x20, 0x21, 0x40, 0x41, 0x42, 0x43, 0x44]
def laneNamed : List Byte := [0x28, 0x29, 0x2A, 0x2B, 0x2C, 0x2D, 0x2E]
def testsProtection : List Byte :=
  [0x05, 0x09, 0x10, 0x13, 0x18, 0x19, 0x1C, 0x1D, 0x21, 0x28, 0x29, 0x40, 0x41, 0x42, 0x43, 0x44]

/-- Every row of the table serves its code, after setting the level of NVWP where its command tests that. -/
theorem requestRow_serves (nvwp : Bool) (base : State) {c : Byte} (named : c ∈ eitherNamed ++ partNamed ++ laneNamed) :
    ∃ run, exec (requestRow nvwp c) base =
      whenPowered (serve c run) (if c ∈ testsProtection then { base with nvwp := nvwp } else base) := by
  simp only [eitherNamed, partNamed, laneNamed] at named
  fin_cases named
  all_goals exact ⟨_, rfl⟩

/-- What the code says of its target and its length. -/
theorem commandKind_of_named : ∀ c ∈ eitherNamed ++ partNamed ++ laneNamed,
    (∃ k, commandKind c = some k ∧ (k = .part ↔ c ∈ partNamed) ∧ (k = .lane ↔ c ∈ laneNamed)) ∧
    (dataClass c = true ↔ 0x40 ≤ c.toNat) := by
  have kinds : ∀ c ∈ eitherNamed ++ partNamed ++ laneNamed,
      commandKind c = some (if c ∈ partNamed then .part else if c ∈ laneNamed then .lane else .either) ∧
      ¬ (c ∈ partNamed ∧ c ∈ laneNamed) ∧ (dataClass c = true ↔ 0x40 ≤ c.toNat) := by decide
  intro c named
  obtain ⟨kind, apart, data⟩ := kinds c named
  refine ⟨⟨_, kind, ?_, ?_⟩, data⟩
  all_goals split_ifs <;> simp_all

theorem allows_iff (k : CommandKind) (a : Target) :
    k.allows a = true ↔ ¬ ((k = .part ∧ a ≠ .part) ∨ (k = .lane ∧ a = .part)) := by
  cases k <;> cases a <;> simp [CommandKind.allows]

theorem lengthError_eq {r : Request} (data : dataClass r.code = true ↔ 0x40 ≤ r.code.toNat) :
    r.lengthError =
      if (if 0x40 ≤ r.code.toNat then r.body.length ≠ 12 + r.dataLength ∨ 1024 < r.dataLength else r.body.length ≠ 10) then
        some ⟨.illegalRequest, 0x03, some (if 0x40 ≤ r.code.toNat then 10 else 3), none⟩
      else none := by
  unfold Request.lengthError
  by_cases long : 0x40 ≤ r.code.toNat
  · have same : (r.body.length < 12 ∨ r.body.length ≠ 12 + r.dataLength ∨ 1024 < r.dataLength) ↔
        (r.body.length ≠ 12 + r.dataLength ∨ 1024 < r.dataLength) := by omega
    simp only [if_pos (data.2 long), if_pos long, same]
    rfl
  · simp only [if_neg (mt data.1 long), if_neg long]
    rfl

theorem initialising_iff (s : State) :
    s.initialising = true ↔ ∃ op, s.proc.tracker = some op ∧ op.command = 0x21 ∧ op.ended = false := by
  unfold State.initialising
  cases s.proc.tracker <;> simp

theorem busyFor_iff (s : State) (r : Request) :
    s.busyFor r = true ↔ (r.code ≠ 0x02 ∧ ∃ n, r.target = .lane n ∧ (s.lane n).resetting ≠ none) ∨
      (r.code ∉ ([0x01, 0x02, 0x03] : List Byte) ∧
        ∃ op, s.proc.tracker = some op ∧ op.command = 0x21 ∧ op.ended = false) := by
  unfold State.busyFor
  rw [Bool.or_eq_true, Bool.and_eq_true, initialising_iff, Bool.not_eq_true', ← Bool.not_eq_true, List.contains_iff_mem]
  refine or_congr ?_ and_comm
  cases r.target with
  | part => simp
  | lane n => simp [Option.isSome_iff_ne_none, and_comm]

/-- A request that fronts the queue: refused by its tests, answered BUSY, or its command. -/
theorem runRequest_eq {s : State} {code : Byte} {r : Request} {rest : List (List Byte)} (fronts : s.fronts code r rest)
    (run : Request → State → State × Answer) :
    whenPowered (serve code run) s = .next (match r.refusal with
      | some x => (s.takeRequest r rest).checked r x
      | none => if s.busyFor r then (s.takeRequest r rest).busied r
        else (run r (s.takeRequest r rest)).1.answer r.tag r.target (run r (s.takeRequest r rest)).2) := by
  have fields := takeRequest_fields s r rest
  rw [whenPowered_of fronts.1, serve_of_fronts fronts, State.runRequest, busyFor_congr fields.2.1 fields.1]
  cases r.refusal with
  | some x => rfl
  | none =>
    dsimp only
    split <;> rfl

theorem takeRequest_eq (s : State) {r : Request} (rest : List (List Byte)) {c : Byte} (code : r.code = c) :
    s.takeRequest r rest = if c = 0x02 then s.popped rest else (s.popped rest).setSense r.target none := by
  subst code
  rfl

/-- Settles O17: the reasons, the frames that name nothing, and the tests of every row. -/
theorem readinessIsTested : Obligations.ReadinessIsTested := by
  refine ⟨?_, ?_, ?_, ?_⟩
  · intro s r rest takes u reasons
    have same : u.reasons r.target = reasons := by
      rw [takeRequest_reasons]
      simp only [reasons]
      cases r.target with
      | part => exact (List.append_nil _).symm
      | lane n => rfl
    refine (serve_of_takes takes testReady).trans (congrArg Host.Outcome.next ?_)
    unfold testReady
    dsimp only
    rw [same]
    cases found : reasons.findIdx? id with
    | none =>
      rw [not_contains_of_findIdx? found]
      rfl
    | some k =>
      obtain ⟨first, has⟩ := firstSet_of_findIdx? found
      rw [if_pos has, first]
      rfl
  · intro s frame rest on free oldest nobody
    refine (whenPowered_of on serveUnknown).trans (congrArg Host.Outcome.next ?_)
    simp only [serveUnknown, oldest, free, nobody, if_true]
    rfl
  · intro s r rest fronts nothing
    obtain ⟨on, free, oldest, target, whole, _⟩ := fronts
    have notSense : r.code ≠ 0x02 := by
      intro h
      rw [h] at nothing
      exact absurd nothing (by decide)
    have refused : r.refusal = some ⟨.illegalRequest, 0x02, some 3, none⟩ := by
      unfold Request.refusal
      rw [nothing]
      rfl
    refine (whenPowered_of on serveUnknown).trans (congrArg Host.Outcome.next ?_)
    simp only [serveUnknown, oldest, free, target, ← whole, nothing, if_true, State.runRequest, refused]
    rw [takeRequest_eq s rest rfl, if_neg notSense]
    rfl
  · intro base nvwp c r rest partWide ofLane testsStore s named fronts u wrongTarget wrongLength held
    have code : r.code = c := fronts.2.2.2.2.2
    obtain ⟨run, row⟩ := requestRow_serves nvwp base named
    obtain ⟨⟨k, kind, isPart, isLane⟩, data⟩ := commandKind_of_named c named
    have taken : s.takeRequest r rest = u := takeRequest_eq s rest code
    have wrong : k.allows r.target = true ↔ ¬ wrongTarget := by
      rw [allows_iff, isPart, isLane]
      exact Iff.rfl
    have busy : s.busyFor r = true ↔ held := by
      rw [busyFor_iff, code]
    have length := lengthError_eq (r := r) (by rwa [code])
    rw [code] at length
    have refusal : r.refusal = if k.allows r.target then r.lengthError else some (illegalField 2) := by
      unfold Request.refusal
      rw [code, kind]
    have outcome := row.trans (runRequest_eq fronts run)
    rw [taken] at outcome
    refine ⟨?_, ?_, ?_, ?_⟩
    · intro wrongWay
      rw [if_neg (fun h => wrong.1 h wrongWay)] at refusal
      rw [outcome, refusal]
      rfl
    · intro right long
      rw [if_pos (wrong.2 right), length, if_pos long] at refusal
      rw [outcome, refusal]
    · intro right fits stands
      rw [if_pos (wrong.2 right), length, if_neg fits] at refusal
      rw [outcome, refusal]
      dsimp only
      rw [if_pos (busy.2 stands)]
    · constructor
      · rintro ⟨_, passed, idle⟩
        rw [passed] at refusal
        have right : k.allows r.target = true := by
          by_contra h
          rw [if_neg h] at refusal
          exact absurd refusal (by simp)
        rw [if_pos right, length] at refusal
        refine ⟨wrong.1 right, fun long => ?_, fun stands => ?_⟩
        · rw [if_pos long] at refusal
          exact absurd refusal (by simp)
        · exact Bool.noConfusion (idle.symm.trans (busy.2 stands))
      · rintro ⟨right, fits, free⟩
        rw [if_pos (wrong.2 right), length, if_neg fits] at refusal
        exact ⟨fronts, refusal, by simpa using mt busy.1 free⟩

/-! ### REQUEST SENSE (R177) -/

theorem senseData_eq (x : Option Sense) :
    senseData x = match x with
      | none => [0, 0, 0, 0, 0, 0, 0, 0]
      | some x =>
        [x.key.code] ++ be 1 x.detail ++ [bitByte [x.field.isSome, x.info.isSome]] ++ be 1 (x.field.getD 0) ++ be 4 (x.info.getD 0) := by
  obtain _ | ⟨key, detail, field, info⟩ := x
  · rfl
  · have absent1 : be 1 0 = [0] := by decide
    have absent4 : be 4 0 = zeros 4 := by decide
    cases field <;> cases info <;> simp [senseData, optBytes, absent1, absent4]

/-- Settles O18: the record as it stood, and the tests that stand before it. -/
theorem requestSenseReturnsTheRecord : Obligations.RequestSenseReturnsTheRecord := by
  refine ⟨?_, ?_⟩
  · intro s r rest fronts
    have code : r.code = 0x02 := fronts.2.2.2.2.2
    have idle : r.refusal = none → s.busyFor r = false := by
      intro passed
      rw [← Bool.not_eq_true, busyFor_iff, code]
      simp
    refine (runRequest_eq fronts requestSense).trans (congrArg Host.Outcome.next ?_)
    rw [takeRequest_eq s rest code, if_pos rfl]
    cases passed : r.refusal with
    | some x => rfl
    | none =>
      dsimp only
      rw [idle passed, if_neg (by decide)]
      change (((s.popped rest).setSense r.target none).good r (senseData ((s.popped rest).sense r.target))) = _
      rw [senseData_eq]
      rfl
  · intro s frame rest on free oldest nobody sense
    refine ⟨_, (whenPowered_of on serveUnknown), ?_⟩
    have served : serveUnknown s = ((s.popped rest).setSense .part none).answer (byteAt frame 1) .part (.check (illegalField 2)) := by
      simp only [serveUnknown, oldest, free, nobody, if_true]
      rfl
    rw [served]
    exact ⟨rfl, rfl⟩

end Sys2Proof.Machine
end

section
/-! PROOF. The layouts of READ STATUS and READ LANE (11, section 11.5): the bytes as chunks, each of a known length at a known offset. -/

namespace Sys2Proof.Machine

/-! ### Bytes by chunks -/

/-- A chunk of a concatenation stands at the sum of the lengths before it. -/
theorem chunk_at : ∀ {gs : List (List Byte)} {ls : List Nat} (_ : gs.map List.length = ls) (i : Nat) {k m : Nat} {g : List Byte},
    (ls.take i).sum = k → ls[i]? = some m → gs[i]? = some g → (gs.flatten.drop k).take m = g
  | [], ls, lengths, i, k, m, g, _, _, hg => by simp at hg
  | a :: gs, ls, lengths, 0, k, m, g, hk, hm, hg => by
    subst lengths hk
    simp only [List.map_cons, List.getElem?_cons_zero, Option.some.injEq] at hm hg
    subst hm hg
    simp
  | a :: gs, ls, lengths, i + 1, k, m, g, hk, hm, hg => by
    subst lengths hk
    simp only [List.map_cons, List.getElem?_cons_succ] at hm hg
    simp only [List.map_cons, List.take_succ_cons, List.sum_cons, List.flatten_cons, List.drop_append]
    rw [List.drop_eq_nil_of_le (by omega), List.nil_append, Nat.add_sub_cancel_left]
    exact chunk_at rfl i rfl hm hg

/-- A slice of a slice. -/
theorem slice_of_slice {bs g : List Byte} {a n : Nat} (h : (bs.drop a).take n = g) {b m : Nat} (inside : b + m ≤ n) :
    (bs.drop (a + b)).take m = (g.drop b).take m := by
  rw [← h, List.drop_take, List.drop_drop, List.take_take, Nat.min_eq_left (by omega)]

/-- An item of a run of items of one length. -/
theorem item_at {α : Type} {f : α → List Byte} {n : Nat} (each : ∀ x, (f x).length = n) : ∀ (xs : List α) (k : Nat) {x : α},
    xs[k]? = some x → ((xs.flatMap f).drop (n * k)).take n = f x
  | [], _, _, h => by simp at h
  | y :: ys, 0, x, h => by
    obtain rfl : y = x := by simpa using h
    simp [← each y]
  | y :: ys, k + 1, x, h => by
    rw [List.flatMap_cons, Nat.mul_succ, Nat.add_comm, ← List.drop_drop, ← each y, List.drop_left, each y]
    exact item_at each ys k h

theorem length_flatMap_of {α : Type} {f : α → List Byte} {n : Nat} (each : ∀ x, (f x).length = n) (xs : List α) :
    (xs.flatMap f).length = n * xs.length := by
  induction xs with
  | nil => rfl
  | cons x xs ih => rw [List.flatMap_cons, List.length_append, each, ih, List.length_cons, Nat.mul_succ, Nat.add_comm]

theorem be_zero : ∀ n : Nat, be n 0 = zeros n
  | 0 => rfl
  | n + 1 => by
    rw [be, be_zero n, Nat.zero_div]
    rfl

@[simp] theorem length_zeros (n : Nat) : (zeros n).length = n := List.length_replicate

theorem optBytes_eq (n : Nat) (v : Option Nat) : optBytes n v = be n (v.getD 0) := by
  cases v with
  | none => exact (be_zero n).symm
  | some v => rfl

@[simp] theorem length_optBytes (n : Nat) (v : Option Nat) : (optBytes n v).length = n := by rw [optBytes_eq, length_be]

theorem bitByte_one (b : Bool) : bitByte [b] = if b then 1 else 0 := by cases b <;> rfl

theorem boolByte_eq (b : Bool) : boolByte b = if b then 1 else 0 := rfl

@[simp] theorem length_idBytes (id : Identity) : (idBytes id).length = 8 := length_be 8 _

@[simp] theorem length_seqBytes (v : Nat) : (seqBytes v).length = 4 := by
  unfold seqBytes
  split <;> exact length_be 4 _

/-! ### READ STATUS -/

def State.statusChunks (s : State) : List (List Byte) :=
  [s.readinessBytes, s.clock.bytes, s.keys.toList.flatMap keyBytes,
   [boolByte s.fare.active.isSome] ++ optBytes 2 (s.fare.active.map (·.version)), s.fare.pending.bytes,
   s.hot.active.bytes ++ s.hot.standby.bytes, s.hot.load.bytes ++ be 1 s.hot.locals.length, be 2 s.seen.entries.length,
   s.recovery.toList.flatMap Slot.bytes, s.journal.bytes, s.incidents.statusBytes, [boolByte s.emergency.taken],
   [Config.rawLevelCode s.emergency.rawLow], [bitByte [s.emergency.assertedAt.isSome]] ++ optBytes 4 s.emergency.assertedAt,
   be 2 s.link.discarded ++ be 2 s.link.overrun, trackerBytes s.proc.tracker, completionBytes s.proc.lastCompletion,
   s.notices.bytes, be 1 s.window ++ be 2 s.retention]

theorem statusBytes_eq (s : State) : s.statusBytes = s.statusChunks.flatten := by
  simp [State.statusBytes, State.statusChunks, FareStore.bytes, HotStore.bytes, EmergencyInput.bytes, State.linkBytes]

theorem length_keyBytes (k : Option Key) : (keyBytes k).length = 2 := by cases k <;> simp [keyBytes]

theorem length_slotBytes (x : Slot) : x.bytes.length = 16 := by cases x <;> simp [Slot.bytes]

theorem length_pendingBytes (p : PendingTable) : p.bytes.length = 8 := by cases p <;> simp [PendingTable.bytes]

theorem length_loadBytes (h : HotLoad) : h.bytes.length = 7 := by cases h <;> simp [HotLoad.bytes]

theorem length_trackerBytes (x : Option LongOp) : (trackerBytes x).length = 3 := by cases x <;> rfl

theorem length_completionBytes (x : Option LastCompletion) : (completionBytes x).length = 3 := by cases x <;> rfl

theorem statusChunks_lengths (s : State) :
    s.statusChunks.map List.length = [2, 7, 8, 3, 8, 10, 8, 2, 128, 40, 2, 1, 1, 5, 4, 3, 3, 18, 3] := by
  simp [State.statusChunks, State.readinessBytes, Clock.bytes, length_flatMap_of length_keyBytes, length_pendingBytes, Bank.bytes,
    length_loadBytes, length_flatMap_of length_slotBytes, Journal.bytes, IncidentList.statusBytes, length_trackerBytes,
    length_completionBytes, Notices.bytes, length_flatMap_of (fun v => length_be 1 v)]

theorem length_statusBytes (s : State) : s.statusBytes.length = 256 := by
  rw [statusBytes_eq, List.length_flatten, statusChunks_lengths]
  rfl

/-- The chunk at an index of the list, by its offset and length. -/
theorem status_at (s : State) (i : Nat) {k m : Nat} {g : List Byte}
    (hk : (([2, 7, 8, 3, 8, 10, 8, 2, 128, 40, 2, 1, 1, 5, 4, 3, 3, 18, 3] : List Nat).take i).sum = k)
    (hm : ([2, 7, 8, 3, 8, 10, 8, 2, 128, 40, 2, 1, 1, 5, 4, 3, 3, 18, 3] : List Nat)[i]? = some m)
    (hg : s.statusChunks[i]? = some g) : (s.statusBytes.drop k).take m = g := by
  rw [statusBytes_eq]
  exact chunk_at (statusChunks_lengths s) i hk hm hg

theorem bankBytes_eq (b : Bank) :
    b.bytes = [if b.version.isSome then 1 else 0] ++ be 2 (b.version.getD 0) ++ be 2 b.ids.length := by
  rw [Bank.bytes, optBytes_eq, boolByte_eq]

theorem slotBytes_eq (x : Slot) :
    x.bytes = match x with
      | .free => List.replicate 16 0
      | .reserved f => [1] ++ be 1 f.lane.val ++ List.replicate 14 0
      | .opened f _ _ expiry => [2] ++ be 1 f.lane.val ++ be 8 f.identity.toNat ++
          [if f.direction = .entry then 0 else 1, if expiry.isSome then 1 else 0] ++ be 4 (expiry.getD 0) := by
  cases x with
  | free => rfl
  | reserved f => rfl
  | opened f em wt expiry =>
    have way : f.direction.code = if f.direction = .entry then 0 else 1 := by cases f.direction <;> rfl
    simp only [Slot.bytes, optBytes_eq, bitByte_one, way]
    rfl

theorem journalBytes_eq (j : Journal) :
    j.bytes = be 2 j.count ++ seqBytes j.oldest ++ be 4 j.newest ++ seqBytes j.next ++
      [if decide (4294967295 < j.next) then 1 else 0] ++ be 4 j.lastTime ++ be 4 j.gapCount ++ [if j.firstDrop.isSome then 1 else 0] ++
      be 4 (j.firstDrop.getD 0) ++ be 4 (j.lastDrop.getD 0) ++ be 2 j.limit ++ be 2 j.thresholdA ++ be 2 j.thresholdB ++
      [if decide (j.count < j.limit ∧ j.next < 4294967280) then 1 else 0, if decide (4294967280 ≤ j.next) then 1 else 0] := by
  have admits : j.admits = decide (j.count < j.limit ∧ j.next < 4294967280) := by
    simp only [Journal.admits, Bool.decide_and]
    rfl
  simp only [Journal.bytes, optBytes_eq, bitByte_one, boolByte_eq, admits]
  rfl

theorem openLocal_eq (i : Incident) : i.openLocal = decide (i.origin = .fromLine ∧ i.finish = none) := by
  rw [Bool.eq_iff_iff, openLocal_iff, decide_eq_true_eq]

/-! ### READ LANE -/

def Lane.chunks (l : Lane) : List (List Byte) :=
  [l.configBytes, l.gateBytes, [l.gate.lock.code, boolByte l.gate.place] ++ be 1 l.gate.queue.length,
   grantPlace l.gate.queue 0 ++ grantPlace l.gate.queue 1, l.monitorBytes, l.engineBytes, l.portS.bytes ++ l.portP.bytes,
   l.refusals.toList.flatMap (be 4), l.counters.bytes]

theorem laneBytes_eq (l : Lane) : l.bytes = l.chunks.flatten := by
  simp [Lane.bytes, Lane.chunks, Lane.queueBytes]

@[simp] theorem length_optId (x : Option Identity) : (optId x).length = 8 := by cases x <;> simp [optId]

theorem length_grantPlace (q : List Grant) (k : Nat) : (grantPlace q k).length = 19 := by
  unfold grantPlace
  split <;> simp [Grant.bytes]

theorem laneChunks_lengths (l : Lane) : l.chunks.map List.length = [7, 10, 3, 38, 5, 2, 20, 120, 44] := by
  simp [Lane.chunks, Lane.configBytes, Lane.gateBytes, length_grantPlace, Lane.monitorBytes, Lane.engineBytes, Port.bytes,
    length_flatMap_of (fun v => length_be 4 v), Counters.bytes]

theorem length_laneBytes (l : Lane) : l.bytes.length = 249 := by
  rw [laneBytes_eq, List.length_flatten, laneChunks_lengths]
  rfl

theorem lane_at (l : Lane) (i : Nat) {k m : Nat} {g : List Byte}
    (hk : (([7, 10, 3, 38, 5, 2, 20, 120, 44] : List Nat).take i).sum = k)
    (hm : ([7, 10, 3, 38, 5, 2, 20, 120, 44] : List Nat)[i]? = some m) (hg : l.chunks[i]? = some g) :
    (l.bytes.drop k).take m = g := by
  rw [laneBytes_eq]
  exact chunk_at (laneChunks_lengths l) i hk hm hg

theorem optId_eq (x : Option Identity) : optId x = be 8 ((x.map (·.toNat)).getD 0) := by
  cases x with
  | none => exact (be_zero 8).symm
  | some id => rfl

theorem directionCode_eq (d : Direction) : d.code = if d = .entry then 0 else 1 := by cases d <;> rfl

theorem wantedCode_eq (g : Gate) :
    g.wanted.code = if g.state = .opened ∨ g.state = .heldOpen ∨ ((g.state = .outOfService ∨ g.state = .fault) ∧ g.emergency = true)
      then 1 else 0 := by
  simp only [← wanted_iff]
  cases g.wanted <;> rfl

theorem reportCode_eq (i : LaneInputs) :
    i.report.code = match i.gsa, i.gsb with
      | true, false => 0
      | false, true => 1
      | _, _ => 2 := by
  rw [report_eq]
  cases i.gsa <;> cases i.gsb <;> rfl

/-- Settles O19, chunk by chunk. -/
theorem reportsReadTheState : Obligations.ReportsReadTheState := by
  refine ⟨?_, ?_, ?_, ?_⟩
  · intro s r rest takes
    refine ⟨length_statusBytes s, (serve_of_takes takes readStatus).trans (congrArg Host.Outcome.next ?_)⟩
    have same : (s.takeRequest r rest).statusBytes = s.statusBytes := by
      simp only [State.statusBytes, State.readinessBytes, State.partReasons, State.initialising, State.linkBytes, takeRequest_link,
        takeRequest_ready, takeRequest_fields, takeRequest_frame]
    rw [← same]
    rfl
  · intro s n r rest takes target u cleared
    refine ⟨length_laneBytes _, (serve_of_takes takes (onLane readLane)).trans (congrArg Host.Outcome.next ?_)⟩
    rw [onLane_of_lane target]
    unfold readLane
    simp only [takeRequest_lane]
    split
    · rfl
    · split
      · rw [updLane_eq, takeRequest_lane]
        rfl
      · rfl
  · intro s part flag j bank
    refine ⟨?_, ?_, ?_, ?_, ?_, ?_, ?_, ?_, ?_, ?_, ?_, ?_, ?_, ?_, ?_, ?_, ?_, ?_⟩
    · exact status_at s 0 rfl rfl rfl
    · exact status_at s 1 rfl rfl rfl
    · intro k
      refine (slice_of_slice (status_at s 2 rfl rfl rfl) (by omega)).trans ?_
      have key : s.keys.toList[k.val]? = some s.keys[k] := by simp
      rw [item_at length_keyBytes _ _ key]
      cases s.keys[k] <;> rfl
    · exact (status_at s 3 rfl rfl rfl).trans (by rw [optBytes_eq]; rfl)
    · refine (status_at s 4 rfl rfl rfl).trans ?_
      cases s.fare.pending <;> rfl
    · refine (status_at s 5 rfl rfl rfl).trans ?_
      rw [bankBytes_eq, bankBytes_eq]
    · refine (status_at s 6 rfl rfl rfl).trans ?_
      cases s.hot.load <;> rfl
    · exact status_at s 7 rfl rfl rfl
    · intro i
      refine (slice_of_slice (status_at s 8 rfl rfl rfl) (by omega)).trans ?_
      have slot : s.recovery.toList[i.val]? = some (s.slot i) := by simp [State.slot]
      exact (item_at length_slotBytes _ _ slot).trans (slotBytes_eq _)
    · exact (status_at s 9 rfl rfl rfl).trans (journalBytes_eq j)
    · refine (status_at s 10 rfl rfl rfl).trans ?_
      have openings : Incident.openLocal = fun i => decide (i.origin = .fromLine ∧ i.finish = none) := funext openLocal_eq
      rw [IncidentList.statusBytes, boolByte_eq, openings]
    · exact status_at s 11 rfl rfl rfl
    · exact (status_at s 13 rfl rfl rfl).trans (by rw [optBytes_eq, bitByte_one])
    · exact status_at s 14 rfl rfl rfl
    · refine (status_at s 15 rfl rfl rfl).trans ?_
      cases s.proc.tracker <;> rfl
    · refine (status_at s 16 rfl rfl rfl).trans ?_
      obtain _ | ⟨tag, command, status⟩ := s.proc.lastCompletion
      · rfl
      · cases status <;> rfl
    · exact status_at s 17 rfl rfl rfl
    · exact status_at s 18 rfl rfl rfl
  · intro l part flag g mode identity grant status head
    have mode_eq : ∀ m : DirMode, m.code = mode m := by intro m; cases m <;> rfl
    have head_eq : ∀ p : Port, p.bytes = head p := by
      rintro ⟨state, presence, _⟩
      cases state <;> cases presence <;> rfl
    have grant_eq : ∀ k, grantPlace g.queue k = grant g.queue[k]? := by
      intro k
      unfold grantPlace
      cases g.queue[k]? with
      | none => rfl
      | some x =>
        dsimp only [grant]
        rw [Grant.bytes, optId_eq, optBytes_eq, directionCode_eq]
        cases x.kind <;> rfl
    refine ⟨?_, ?_, ?_, ?_, ?_, ?_, ?_, ?_, ?_⟩
    · refine (lane_at l 0 rfl rfl rfl).trans ?_
      rw [Lane.configBytes, mode_eq, mode_eq, boolByte_eq]
    · refine (lane_at l 1 rfl rfl rfl).trans ?_
      have command_eq : ∀ p : Position, p.code = if p = .opened then 1 else 0 := by intro p; cases p <;> rfl
      rw [Lane.gateBytes, wantedCode_eq, reportCode_eq, optBytes_eq, bitByte_one, command_eq]
      simp only [g]
      cases l.gate.state <;> rfl
    · refine (lane_at l 2 rfl rfl rfl).trans ?_
      cases g.lock <;> rfl
    · refine (lane_at l 3 rfl rfl rfl).trans ?_
      rw [grant_eq, grant_eq]
    · refine (lane_at l 4 rfl rfl rfl).trans ?_
      rw [Lane.monitorBytes, optBytes_eq, bitByte_one, boolByte_eq]
      cases l.monitor.state <;> rfl
    · refine (lane_at l 5 rfl rfl rfl).trans ?_
      rw [Lane.engineBytes]
      obtain _ | side := l.engine.side
      · cases l.engine.phase <;> rfl
      · cases l.engine.phase <;> cases side <;> rfl
    · refine (lane_at l 6 rfl rfl rfl).trans ?_
      rw [head_eq, head_eq]
    · intro k
      refine (slice_of_slice (lane_at l 7 rfl rfl rfl) (by omega)).trans ?_
      have count : l.refusals.toList[k.val]? = some l.refusals[k] := by simp
      rw [item_at (fun v => length_be 4 v) _ _ count]
    · refine (lane_at l 8 rfl rfl rfl).trans ?_
      simp [Counters.bytes]

end Sys2Proof.Machine
end

section
/-! PROOF. FIND CARD (R95): the identities in order, and what is known of each. -/

namespace Sys2Proof.Machine

/-! ### The identities -/

theorem mem_insertIdentity (x y : Identity) : ∀ ids : List Identity, y ∈ insertIdentity x ids ↔ y = x ∨ y ∈ ids
  | [] => by simp [insertIdentity]
  | z :: ids => by
    unfold insertIdentity
    split_ifs with same below
    · simp [same]
    · simp
    · simp only [List.mem_cons, mem_insertIdentity x y ids]
      exact or_left_comm

theorem pairwise_insertIdentity (x : Identity) : ∀ {ids : List Identity}, ids.Pairwise (fun a b => a.toNat < b.toNat) →
    (insertIdentity x ids).Pairwise (fun a b => a.toNat < b.toNat)
  | [], _ => List.pairwise_singleton _ _
  | z :: ids, h => by
    obtain ⟨above, rest⟩ := List.pairwise_cons.1 h
    unfold insertIdentity
    split_ifs with same below
    · exact h
    · refine List.pairwise_cons.2 ⟨fun y hy => ?_, h⟩
      rcases List.mem_cons.1 hy with rfl | hy
      · exact below
      · exact Nat.lt_trans below (above y hy)
    · refine List.pairwise_cons.2 ⟨fun y hy => ?_, pairwise_insertIdentity x rest⟩
      rcases (mem_insertIdentity x y ids).1 hy with rfl | hy
      · have apart : z.toNat ≠ y.toNat := fun e => same (BitVec.eq_of_toNat_eq e.symm)
        omega
      · exact above y hy

/-- The distinct identities ascend and are those of the list. -/
theorem distinctAscending_spec (ids : List Identity) :
    (distinctAscending ids).Pairwise (fun a b => a.toNat < b.toNat) ∧ ∀ y, y ∈ distinctAscending ids ↔ y ∈ ids := by
  have gathers : ∀ (ids acc : List Identity), acc.Pairwise (fun a b => a.toNat < b.toNat) →
      (ids.foldl (fun acc x => insertIdentity x acc) acc).Pairwise (fun a b => a.toNat < b.toNat) ∧
      ∀ y, y ∈ ids.foldl (fun acc x => insertIdentity x acc) acc ↔ y ∈ acc ∨ y ∈ ids := by
    intro ids
    induction ids with
    | nil => exact fun acc h => ⟨h, by simp⟩
    | cons x ids ih =>
      intro acc h
      obtain ⟨sorted, members⟩ := ih (insertIdentity x acc) (pairwise_insertIdentity x h)
      refine ⟨sorted, fun y => ?_⟩
      rw [List.foldl_cons, members, mem_insertIdentity, List.mem_cons, or_comm (a := y = x), or_assoc]
  obtain ⟨sorted, members⟩ := gathers ids [] List.Pairwise.nil
  exact ⟨sorted, fun y => (members y).trans (by simp)⟩

theorem mem_vector {α : Type} {k : Nat} {v : Vector α k} {x : α} : x ∈ v.toList ↔ ∃ i : Fin k, v[i.val] = x := by
  rw [Vector.mem_toList_iff, Vector.mem_iff_getElem]
  exact ⟨fun ⟨i, hi, h⟩ => ⟨⟨i, hi⟩, h⟩, fun ⟨i, h⟩ => ⟨i.val, i.isLt, h⟩⟩

theorem mem_claims (s : State) (x : Identity) : x ∈ s.claims.toList.filterMap id ↔ ∃ n, s.claim n = some x := by
  simp only [List.mem_filterMap, mem_vector, id]
  exact ⟨fun ⟨_, ⟨n, rfl⟩, h⟩ => ⟨n, h⟩, fun ⟨n, h⟩ => ⟨_, ⟨n, rfl⟩, h⟩⟩

theorem mem_openIdentities (s : State) (x : Identity) :
    x ∈ s.openIdentities ↔ ∃ i f em wt ex, s.slot i = .opened f em wt ex ∧ f.identity = x := by
  simp only [State.openIdentities, List.mem_filterMap, mem_vector]
  constructor
  · rintro ⟨_, ⟨i, rfl⟩, h⟩
    split at h
    · next f em wt ex slot =>
      exact ⟨i, f, em, wt, ex, slot, Option.some.inj h⟩
    · exact absurd h (by simp)
  · rintro ⟨i, f, em, wt, ex, slot, rfl⟩
    exact ⟨_, ⟨i, slot⟩, rfl⟩

/-- Every source's identities with the low bits given. -/
theorem mem_matching (s : State) (low : Nat) (x : Identity) :
    x ∈ s.matching low ↔ x.toNat % 2 ^ 48 = low ∧
      ((∃ e ∈ s.seen.entries, e.identity = x ∧ s.older e = false) ∨ (∃ n, s.claim n = some x) ∨
       (∃ i f em wt ex, s.slot i = .opened f em wt ex ∧ f.identity = x) ∨ (∃ e ∈ s.hot.locals, e.identity = x) ∨
       x ∈ s.hot.active.ids) := by
  unfold State.matching
  rw [(distinctAscending_spec _).2, List.mem_filter, beq_iff_eq, and_comm]
  refine and_congr_right fun _ => ?_
  rw [List.mem_append, List.mem_append, List.mem_append, List.mem_append, mem_claims, mem_openIdentities]
  simp only [List.mem_map, List.mem_filter, Bool.not_eq_true', or_assoc]
  refine or_congr ?_ Iff.rfl
  exact ⟨fun ⟨e, ⟨he, young⟩, h⟩ => ⟨e, he, h, young⟩, fun ⟨e, he, h, young⟩ => ⟨e, ⟨he, young⟩, h⟩⟩

theorem ascending_matching (s : State) (low : Nat) : ascending (s.matching low) = true :=
  (ascending_iff_isChain _).2 (distinctAscending_spec _).1.isChain

/-! ### The first of eight -/

theorem find_first {p : Fin 8 → Bool} {i : Fin 8} :
    (List.finRange 8).find? p = some i ↔ p i = true ∧ ∀ j, j < i → p j = false := by
  rw [List.find?_eq_some_iff_getElem]
  refine and_congr_right fun _ => ?_
  constructor
  · rintro ⟨k, hk, at_k, before⟩ j below
    rw [List.getElem_finRange] at at_k
    subst at_k
    simpa using before j.val below
  · intro before
    refine ⟨i.val, by simp, by simp, fun j below => ?_⟩
    simpa using before ⟨j, by omega⟩ below

theorem find_none {p : Fin 8 → Bool} : (List.finRange 8).find? p = none ↔ ∀ j, p j = false := by
  simp [List.find?_eq_none]

/-! ### The finding -/

def State.findingChunks (s : State) (id : Identity) : List (List Byte) :=
  [idBytes id,
   [bitByte [(s.seenLookup id).isSome, (s.claimant id).isSome, (s.openSlot id).isSome, s.hot.active.holds id || s.hot.localHolds id]],
   seenFinding (s.seenLookup id),
   [match s.claimant id with
    | some n => BitVec.ofNat 8 n.val
    | none => 0],
   s.slotFinding (s.openSlot id), s.hot.finding id]

theorem finding_eq (s : State) (id : Identity) : s.finding id = (s.findingChunks id).flatten := by
  simp only [State.finding, State.findingChunks, List.flatten_cons, List.flatten_nil, List.append_nil, List.append_assoc] <;> rfl

theorem findingChunks_lengths (s : State) (id : Identity) : (s.findingChunks id).map List.length = [8, 1, 12, 1, 20, 9] := by
  have seen : ∀ e, (seenFinding e).length = 12 := by
    intro e
    cases e <;> simp [seenFinding]
  have slot : ∀ i, (s.slotFinding i).length = 20 := by
    intro i
    unfold State.slotFinding
    split
    · split <;> simp
    · simp
  have hot : (s.hot.finding id).length = 9 := by
    unfold HotStore.finding
    split
    · simp
    · split
      · split <;> simp
      · simp
  simp [State.findingChunks, seen, slot, hot]

theorem finding_at (s : State) (id : Identity) (i : Nat) {k m : Nat} {g : List Byte}
    (hk : (([8, 1, 12, 1, 20, 9] : List Nat).take i).sum = k) (hm : ([8, 1, 12, 1, 20, 9] : List Nat)[i]? = some m)
    (hg : (s.findingChunks id)[i]? = some g) : ((s.finding id).drop k).take m = g := by
  rw [finding_eq]
  exact chunk_at (findingChunks_lengths s id) i hk hm hg

theorem be_one (v : Nat) : be 1 v = [BitVec.ofNat 8 v] := by simp [be]

theorem claimant_eq {s : State} {id : Identity} {n : LaneId} (holds : s.claim n = some id) (first : ∀ m, m < n → s.claim m ≠ some id) :
    s.claimant id = some n := by
  unfold State.claimant
  rw [laneIds_eq, find_first]
  exact ⟨by simp [holds], fun m below => by simpa using first m below⟩

theorem claimant_isSome (s : State) (id : Identity) : (s.claimant id).isSome = true ↔ ∃ n, s.claim n = some id := by
  simp [State.claimant, laneIds_eq]

theorem claimant_none {s : State} {id : Identity} (nobody : ∀ n, s.claim n ≠ some id) : s.claimant id = none := by
  rw [← Option.not_isSome_iff_eq_none, claimant_isSome]
  exact fun ⟨n, h⟩ => nobody n h

/-- An OPEN slot of an identity. -/
def Slot.opensFor (x : Slot) (id : Identity) : Bool :=
  match x with
  | .opened f _ _ _ => f.identity == id
  | _ => false

theorem opensFor_iff (x : Slot) (id : Identity) :
    x.opensFor id = true ↔ ∃ f em wt ex, x = .opened f em wt ex ∧ f.identity = id := by
  cases x <;> simp [Slot.opensFor]

theorem openSlot_eq (s : State) (id : Identity) : s.openSlot id = (List.finRange 8).find? (fun i => (s.slot i).opensFor id) := by
  rw [← slotIds_eq]
  rfl

theorem openSlot_eq_some {s : State} {id : Identity} {i : SlotId} :
    s.openSlot id = some i ↔ (∃ f em wt ex, s.slot i = .opened f em wt ex ∧ f.identity = id) ∧
      ∀ j, j < i → ¬ ∃ f em wt ex, s.slot j = .opened f em wt ex ∧ f.identity = id := by
  rw [openSlot_eq, find_first]
  simp only [← Bool.not_eq_true, opensFor_iff]

theorem openSlot_isSome (s : State) (id : Identity) :
    (s.openSlot id).isSome = true ↔ ∃ i f em wt ex, s.slot i = .opened f em wt ex ∧ f.identity = id := by
  rw [openSlot_eq, List.find?_isSome]
  simp only [List.mem_finRange, true_and, opensFor_iff]

theorem openSlot_none {s : State} {id : Identity} (nobody : ∀ i, ¬ ∃ f em wt ex, s.slot i = .opened f em wt ex ∧ f.identity = id) :
    s.openSlot id = none := by
  rw [← Option.not_isSome_iff_eq_none, openSlot_isSome]
  exact fun ⟨i, h⟩ => nobody i h

theorem holds_iff (b : Bank) (id : Identity) : b.holds id = true ↔ id ∈ b.ids := List.contains_iff_mem

theorem localHolds_iff (h : HotStore) (id : Identity) : h.localHolds id = true ↔ ∃ e ∈ h.locals, e.identity = id := by
  simp [HotStore.localHolds]

theorem finding_local {h : HotStore} {id : Identity} {before after : List LocalEntry} {e : LocalEntry} (inactive : id ∉ h.active.ids)
    (locals : h.locals = before ++ e :: after) (named : e.identity = id) (first : ∀ x ∈ before, x.identity ≠ id) :
    h.finding id = [1, 0, 0] ++ be 1 before.length ++ be 4 e.time ++ be 1 e.lane.val := by
  have place : h.locals.findIdx? (fun e => e.identity == id) = some before.length := by
    rw [locals, List.findIdx?_append, List.findIdx?_eq_none_iff.2 (by simpa using first)]
    simp [List.findIdx?_cons, named]
  have entry : h.locals[before.length]? = some e := by simp [locals]
  unfold HotStore.finding
  rw [if_neg (mt (holds_iff _ _).1 inactive), place]
  dsimp only
  rw [entry]
  rfl

theorem finding_unlisted {h : HotStore} {id : Identity} (inactive : id ∉ h.active.ids) (unlisted : ∀ e ∈ h.locals, e.identity ≠ id) :
    h.finding id = List.replicate 9 0 := by
  unfold HotStore.finding
  rw [if_neg (mt (holds_iff _ _).1 inactive), List.findIdx?_eq_none_iff.2 (by simpa using unlisted)]
  rfl

/-- Settles O20: the identities by their sources, the finding by its chunks. -/
theorem findCardListsWhatIsKnown : Obligations.FindCardListsWhatIsKnown := by
  intro s r rest takes ids
  refine ⟨ascending_matching s _, mem_matching s _, ?_, ?_⟩
  · refine (serve_of_takes takes findCard).trans (congrArg Host.Outcome.next ?_)
    have found : (s.takeRequest r rest).matching (r.field 4 6) = ids := by
      simp only [ids, State.matching, State.older, State.openIdentities, takeRequest_frame]
    have known : (s.takeRequest r rest).finding = s.finding := by
      funext id
      simp only [State.finding, State.seenLookup, State.seenEntry, State.older, State.claimant, State.claim, State.openSlot, State.slot,
        State.slotFinding, takeRequest_frame]
      rfl
    simp only [findCard, found, known, List.length_take, boolByte_eq, decide_eq_true_eq]
    rfl
  · intro id part way opens active
    refine ⟨?_, finding_at s id 0 rfl rfl rfl, ?_, ?_, ?_, ?_, ?_, ?_, ?_, ?_, ?_⟩
    · rw [finding_eq, List.length_flatten, findingChunks_lengths]
      rfl
    · intro claimed opened listed hclaimed hopened hlisted
      have h1 : (s.claimant id).isSome = claimed := by rw [Bool.eq_iff_iff, claimant_isSome, hclaimed]
      have h2 : (s.openSlot id).isSome = opened := by rw [Bool.eq_iff_iff, openSlot_isSome, hopened]
      have h3 : (s.hot.active.holds id || s.hot.localHolds id) = listed := by
        rw [Bool.eq_iff_iff, Bool.or_eq_true, holds_iff, localHolds_iff, hlisted]
      rw [← h1, ← h2, ← h3]
      exact finding_at s id 1 rfl rfl rfl
    · refine (finding_at s id 2 rfl rfl rfl).trans ?_
      cases s.seenLookup id with
      | none => rfl
      | some e =>
        simp only [seenFinding, directionCode_eq, boolByte_eq, List.append_assoc]
        cases e.outcome <;> rfl
    · intro n holds first
      refine (finding_at s id 3 rfl rfl rfl).trans ?_
      rw [claimant_eq holds first, be_one]
    · intro nobody
      refine (finding_at s id 3 rfl rfl rfl).trans ?_
      rw [claimant_none nobody]
    · intro i f em wt ex slot named first
      refine (finding_at s id 4 rfl rfl rfl).trans ?_
      rw [openSlot_eq_some.2 ⟨⟨f, em, wt, ex, slot, named⟩, first⟩]
      simp only [State.slotFinding, slot, optBytes_eq, directionCode_eq]
      rfl
    · intro nobody
      refine (finding_at s id 4 rfl rfl rfl).trans ?_
      rw [openSlot_none nobody]
      rfl
    · intro listed
      refine (finding_at s id 5 rfl rfl rfl).trans ?_
      unfold HotStore.finding
      rw [if_pos ((holds_iff _ _).2 listed)]
      rfl
    · intro before e after inactive locals named first
      exact (finding_at s id 5 rfl rfl rfl).trans (finding_local inactive locals named first)
    · intro inactive unlisted
      exact (finding_at s id 5 rfl rfl rfl).trans (finding_unlisted inactive unlisted)

end Sys2Proof.Machine
end

section
/-! PROOF. The Station Clock (R108, R145, R188, R189): the first SET TIME and the second. -/

namespace Sys2Proof.Machine

/-! ### Records only join the queue -/

theorem append_records (s : State) (lane : Option LaneId) (flags : RecordFlags) (b : RecordBody) :
    s.journal.records <+: (s.append lane flags b).1.journal.records := by
  have gap : s.journal.records <+: s.storeGap.journal.records := by
    unfold State.storeGap
    dsimp only
    split
    · simp [Journal.store]
    · exact List.prefix_rfl
  refine gap.trans ?_
  unfold State.append
  dsimp only
  split
  · simp [Journal.store]
  · exact List.prefix_rfl

theorem forfeit_records (s : State) (n : LaneId) (cause : ForfeitCause) :
    s.journal.records <+: (s.forfeit n cause).journal.records := by
  have each : ∀ (queue : List Grant) (w : State), w.journal.records <+:
      (queue.foldl (fun t g => t.forfeitGrant n cause g) w).journal.records := by
    intro queue
    induction queue with
    | nil => exact fun _ => List.prefix_rfl
    | cons g queue ih =>
      intro w
      refine List.IsPrefix.trans ?_ (ih (w.forfeitGrant n cause g))
      rw [forfeitGrant_eq]
      exact append_records _ _ _ _
  exact each _ s

theorem settleService_records (s : State) (n : LaneId) : s.journal.records <+: (s.settleService n).journal.records := by
  unfold State.settleService
  dsimp only
  split_ifs
  · exact List.prefix_rfl
  · simp only [State.enterOutOfService, settleGate_frame, updGate_frame]
    exact forfeit_records (s.updGate n _) n .service
  · simp only [State.leaveOutOfService, settleGate_frame, updGate_frame]
    exact List.prefix_rfl
  · exact List.prefix_rfl

theorem settleReadiness_records (s : State) (before : Bool) : s.journal.records <+: (s.settleReadiness before).journal.records := by
  have each : ∀ (ids : List LaneId) (w : State), w.journal.records <+:
      (ids.foldl (fun t n => t.settleService n) w).journal.records := by
    intro ids
    induction ids with
    | nil => exact fun _ => List.prefix_rfl
    | cons n ids ih =>
      intro w
      rw [List.foldl_cons]
      exact (settleService_records w n).trans (ih _)
  unfold State.settleReadiness
  split
  · exact List.prefix_rfl
  · have whole := each laneIds s
    rw [State.eachLane]
    generalize laneIds = ids at whole ⊢
    exact whole

theorem settleReadiness_sweepDue (s : State) (before : Bool) : (s.settleReadiness before).seen.sweepDue = s.seen.sweepDue := by
  have each : ∀ (w : State) (n : LaneId), (w.settleService n).seen.sweepDue = w.seen.sweepDue := by
    intro w n
    unfold State.settleService
    dsimp only
    split_ifs
    · rfl
    · simp only [State.enterOutOfService, settleGate_frame, updGate_frame]
      rw [forfeit_eq]
      simp only [updGate_frame]
    · simp only [State.leaveOutOfService, settleGate_frame, updGate_frame]
    · rfl
  unfold State.settleReadiness
  split
  · rfl
  · exact eachLane_keeps (fun t : State => t.seen.sweepDue) _ (fun n w => each w n) _

/-! ### Pending times (R108) -/

theorem setExpiry_slot_ne (s : State) (v : Nat) {i k : SlotId} (other : k ≠ i) : (s.setExpiry v i).slot k = s.slot k := by
  unfold State.setExpiry
  split
  · dsimp only
    rw [slot_setSlot_ne _ other]
    simp [State.slot]
  · rfl

theorem setExpiries_slot {s : State} {v : Nat} {i : SlotId} {f : SlotFields} {em : Bool} {wt : Option Nat}
    (pending : s.slot i = .opened f em wt none) (fits : v + s.window ≤ Config.max32) :
    (s.setExpiries v).slot i = .opened f em (some (wt.getD v)) (some (v + s.window)) := by
  obtain ⟨w, window, same, result⟩ := foldl_at (view := State.slot) (f := fun w i => w.setExpiry v i)
    (P := fun w => w.window = s.window) (fun m w k other => setExpiry_slot_ne w v other)
    (fun m w h => by simp only [setExpiry_frame, h]) (s := s) rfl i
  unfold State.setExpiries
  rw [slotIds_eq, result]
  simp only [State.setExpiry, same, pending, State.expiryFrom, window, if_pos fits, slot_setSlot_self]

/-! ### The local incident (R144 to R146) -/

theorem removeFirst_append {p : Incident → Bool} {old : Incident} (holds : p old = true) (more : List Incident) :
    ∀ {before : List Incident}, (∀ i ∈ before, p i = false) → removeFirst p (before ++ old :: more) = before ++ more
  | [], _ => by simp [removeFirst, holds]
  | i :: before, first => by
    simp only [List.cons_append, removeFirst, first i List.mem_cons_self, Bool.false_eq_true, if_false]
    rw [removeFirst_append holds more (fun j hj => first j (List.mem_cons_of_mem _ hj))]

theorem makePlace_of_room {l : IncidentList} (room : l.entries.length < 16) : l.makePlace = l := if_pos room

theorem makePlace_of_ended {l : IncidentList} {before more : List Incident} {old : Incident} (full : 16 ≤ l.entries.length)
    (entries : l.entries = before ++ old :: more) (ended : old.finish ≠ none) (running : ∀ i ∈ before, i.finish = none) :
    l.makePlace = { l with entries := before ++ more } := by
  have ended' : old.finish.isSome = true := Option.isSome_iff_ne_none.2 ended
  unfold IncidentList.makePlace
  rw [if_neg (Nat.not_lt.2 (show Config.incidentCapacity ≤ _ from full)), entries, if_pos (by simp [ended']),
    removeFirst_append ended' more (fun i hi => by simp [running i hi])]

theorem makePlace_of_running {l : IncidentList} {more : List Incident} {old : Incident} (full : 16 ≤ l.entries.length)
    (entries : l.entries = old :: more) (running : ∀ i ∈ l.entries, i.finish = none) :
    l.makePlace = { l with entries := more } := by
  unfold IncidentList.makePlace
  rw [if_neg (Nat.not_lt.2 (show Config.incidentCapacity ≤ _ from full)), if_neg, entries]
  · rfl
  · simpa using running

theorem makePlace_next (l : IncidentList) : l.makePlace.next = l.next ∧ l.makePlace.lineIn = l.lineIn := by
  unfold IncidentList.makePlace
  split_ifs <;> exact ⟨rfl, rfl⟩

theorem freeNumber_of_free {held : List Incident} {k : Nat} (free : ∀ i ∈ held, i.number ≠ k) : ∀ n, freeNumber held n k = k
  | 0 => rfl
  | n + 1 => by
    unfold freeNumber
    rw [if_neg (by simpa using free)]

theorem anyOpenLocal_iff (l : List Incident) :
    l.any Incident.openLocal = true ↔ ∃ i ∈ l, i.origin = .fromLine ∧ i.finish = none := by
  simp [openLocal_iff]

theorem closeLocal_entries (l : IncidentList) (t : Nat) :
    (l.closeLocal t).entries = l.entries.map (fun i => if i.origin = .fromLine ∧ i.finish = none then { i with finish := some t } else i) := by
  simp only [IncidentList.closeLocal, openLocal_iff]

/-- The local incident as opened, in the room that the list makes. -/
theorem openLocalIncident_of_none {s : State} (nobody : ¬ ∃ i ∈ s.incidents.entries, i.origin = .fromLine ∧ i.finish = none)
    (start : Nat) :
    s.openLocalIncident start = { s with
      incidents := s.incidents.makePlace.add ((s.fare.active.map (·.station)).getD 0) start .waive .fromLine } := by
  unfold State.openLocalIncident
  rw [if_neg (mt (anyOpenLocal_iff _).1 nobody)]

theorem openLocalIncident_of_open {s : State} (running : ∃ i ∈ s.incidents.entries, i.origin = .fromLine ∧ i.finish = none)
    (start : Nat) : s.openLocalIncident start = s := if_pos ((anyOpenLocal_iff _).2 running)

theorem openLocalIncident_congr {s t : State} (incidents : t.incidents = s.incidents) (fare : t.fare = s.fare) (start : Nat) :
    (t.openLocalIncident start).incidents = (s.openLocalIncident start).incidents := by
  unfold State.openLocalIncident
  rw [incidents, fare]
  split
  · exact incidents
  · rfl

/-- What the Incident List does at the first SET TIME. -/
theorem settleIncident_incidents (s : State) (v : Nat) :
    (s.settleIncident v).incidents =
      if s.emergency.owed then (s.openLocalIncident v).incidents else s.incidents.closeLocal v := by
  unfold State.settleIncident
  split <;> rfl

theorem settleIncident_emergency (s : State) (v : Nat) : (s.settleIncident v).emergency = { s.emergency with owed := false } := by
  unfold State.settleIncident
  cases owed : s.emergency.owed with
  | true =>
    rw [if_pos rfl]
    unfold State.openLocalIncident
    split <;> rfl
  | false =>
    rw [if_neg (by decide), ← owed]

/-- What the first SET TIME leaves: each part of the step in its order. -/
theorem firstTime_parts (s : State) (v : Nat) :
    let w := { s with clock := ⟨v, true, 0, 0⟩ }.record none RecordFlags.clear (.timeSet v)
    let t := s.firstTime v
    t.clock = ⟨v, true, 0, 0⟩ ∧ w.journal.records <+: t.journal.records ∧ (∀ i, t.slot i = (w.setExpiries v).slot i) ∧
    t.emergency = { s.emergency with owed := false } ∧
    t.incidents = (if s.emergency.owed then (s.openLocalIncident v).incidents else s.incidents.closeLocal v) ∧
    t.seen.sweepDue = true := by
  intro w t
  have whole : t = (((w.setExpiries v).settleIncident v).handTime).settleReadiness s.ready := rfl
  have wIncidents : (w.setExpiries v).incidents = s.incidents := by simp only [w, setExpiries_frame, record_frame]
  have wEmergency : (w.setExpiries v).emergency = s.emergency := by simp only [w, setExpiries_frame, record_frame]
  have wFare : (w.setExpiries v).fare = s.fare := by simp only [w, setExpiries_frame, record_frame]
  refine ⟨?_, ?_, ?_, ?_, ?_, ?_⟩
  · simp only [whole, w, settleReadiness_frame, handTime_frame, settleIncident_frame, setExpiries_frame, record_frame]
  · rw [whole]
    refine List.IsPrefix.trans ?_ (settleReadiness_records _ _)
    simp only [handTime_frame, settleIncident_frame, setExpiries_frame]
    exact List.prefix_rfl
  · intro i
    simp only [whole, State.slot, settleReadiness_frame, handTime_frame, settleIncident_frame]
  · simp only [whole, settleReadiness_frame, handTime_frame, settleIncident_emergency, wEmergency]
  · simp only [whole, settleReadiness_frame, handTime_frame, settleIncident_incidents, wEmergency, wIncidents,
      openLocalIncident_congr wIncidents wFare]
  · rw [whole, settleReadiness_sweepDue]
    rfl

theorem advance_eq (s : State) :
    s.advance = { s with
      clock := { s.clock with time := s.clock.time + 1 }
      seen := { s.seen with sweepDue := s.seen.sweepDue || decide ((s.clock.time + 1) % 60 = 0) } } := by
  unfold State.advance
  dsimp only
  split
  · next minute => simp [minute]
  · next running => simp [running]

/-- Settles O22: the first SET TIME part by part, and the second by its cases. -/
theorem clockStartsAndRuns : Obligations.ClockStartsAndRuns := by
  refine ⟨?_, ?_⟩
  · intro s r rest takes invalid u v list localOpen opened after
    have clock : u.clock = s.clock := takeRequest_clock s r rest
    have journal : u.journal = s.journal := by simp only [u, takeRequest_frame]
    have incidents : u.incidents = list := by simp only [u, takeRequest_frame, list]
    have emergency : u.emergency = s.emergency := by simp only [u, takeRequest_frame]
    have fare : u.fare = s.fare := by simp only [u, takeRequest_frame]
    have runs : exec .setTime s = .next ((setTime r u).1.answer r.tag r.target (setTime r u).2) := serve_of_takes takes setTime
    have still : u.clock.valid = false := (congrArg Clock.valid clock).trans invalid
    refine ⟨?_, ?_⟩
    · intro behind
      rw [runs, setTime, if_neg (by simp [still]), if_pos (by rw [journal]; exact behind), journal]
      rfl
    · intro ahead
      have first : setTime r u = (u.firstTime v, .good []) := by
        rw [setTime, if_neg (by simp [still]), if_neg (by rw [journal]; exact Nat.not_lt.2 ahead)]
      obtain ⟨hclock, hrecords, hslot, hemergency, hincidents, hsweep⟩ := firstTime_parts u v
      have hframe := firstTime_frame u v
      rw [first] at runs
      refine ⟨_, runs, ?_⟩
      have haframe := answer_frame (u.firstTime v) r.tag r.target (.good [])
      have halink := answer_link (u.firstTime v) r.tag r.target (.good [])
      obtain ⟨_, _, _, wlink, _, wclaims, whot, wfare, wkeys, wwindow, _, wentries, _⟩ := hframe
      generalize u.firstTime v = w at *
      obtain ⟨_, _, _, _, _, tclaims, tseen, thot, trecovery, tfare, tincidents, tkeys, tjournal, _, _, tclock, _, temergency, _⟩ := haframe
      have tslot : ∀ i, (w.answer r.tag r.target (.good [])).slot i = w.slot i := by
        intro i
        simp only [State.slot, trecovery]
      dsimp only
      generalize w.answer r.tag r.target (.good []) = t at *
      have owed_emergency : t.emergency = { s.emergency with owed := false } := by rw [temergency, hemergency, emergency]
      have list_after : t.incidents = if s.emergency.owed then (u.openLocalIncident v).incidents else list.closeLocal v := by
        rw [tincidents, hincidents, emergency, incidents]
      refine ⟨tclock.trans hclock, tjournal ▸ hrecords, ?_, owed_emergency, ?_, ?_, ?_, ?_, tseen ▸ hsweep, ?_, ?_, ?_, ?_, ?_, ?_, ?_⟩
      · intro i f em wt pending fits
        have pending' : ({ u with clock := ⟨v, true, 0, 0⟩ }.record none RecordFlags.clear (.timeSet v)).slot i = .opened f em wt none := by
          simpa [State.slot, u] using pending
        have window : ({ u with clock := ⟨v, true, 0, 0⟩ }.record none RecordFlags.clear (.timeSet v)).window = s.window := by
          simp [u]
        rw [tslot, hslot, setExpiries_slot pending' (by rw [window]; exact fits), window]
      · rw [list_after]
        split
        · unfold State.openLocalIncident
          split
          · rw [incidents]
          · rw [incidents]
            exact (makePlace_next list).2
        · rfl
      · intro kept
        rw [list_after, kept]
        exact ⟨rfl, closeLocal_entries list v⟩
      · intro owed running
        rw [list_after, owed, if_pos rfl, openLocalIncident_of_open (by rwa [incidents]), incidents]
      · intro owed nobody
        rw [list_after, owed, if_pos rfl, openLocalIncident_of_none (by rwa [incidents]), incidents, fare]
        refine ⟨?_, ?_, ?_, ?_⟩
        · intro room
          rw [makePlace_of_room room]
          rfl
        · intro before old more full entries ended running
          rw [makePlace_of_ended full entries ended running]
          rfl
        · intro old more full entries running
          rw [makePlace_of_running full entries running]
          rfl
        · intro free
          have next : numberAfter list.makePlace.next = after := by rw [(makePlace_next list).1]; rfl
          exact (freeNumber_of_free (next ▸ free) 17).trans next
      · rw [tseen, wentries]
        simp only [u, takeRequest_frame]
      · rw [thot, whot]
        simp only [u, takeRequest_frame]
      · rw [tfare, wfare, fare]
      · rw [tclaims, wclaims]
        simp only [u, takeRequest_frame]
      · rw [tkeys, wkeys]
        simp only [u, takeRequest_frame]
      · rw [halink, wlink, takeRequest_link]
        rfl
      · rw [halink, wlink, takeRequest_link]
  · intro s on
    refine (powered_next on).trans (congrArg Host.Outcome.next ?_)
    unfold State.second
    simp only [Nat.pos_iff_ne_zero, advance_eq]
    rfl

end Sys2Proof.Machine
end

section
/-! PROOF. READ JOURNAL and RELEASE JOURNAL (R162, R163), and the 48 bytes of a record (11, section 11.7). -/

namespace Sys2Proof.Machine

/-! ### Records by their sequence -/

/-- Of records in consecutive sequence those from a sequence on are the rest of the queue. -/
theorem filter_seq : ∀ {records : List JRecord} {a : Nat}, records.map (·.seq) = List.range' a records.length → ∀ q,
    records.filter (fun x => decide (q ≤ x.seq)) = records.drop (q - a)
  | [], _, _, _ => by simp
  | x :: records, a, seqs, q => by
    simp only [List.map_cons, List.length_cons, List.range'_succ, List.cons.injEq] at seqs
    obtain ⟨first, rest⟩ := seqs
    have ih := filter_seq rest q
    by_cases low : q ≤ a
    · have all : records.filter (fun x => decide (q ≤ x.seq)) = records := by
        rw [ih, Nat.sub_eq_zero_of_le (by omega), List.drop_zero]
      rw [List.filter_cons, first, if_pos (by simpa using low), all, Nat.sub_eq_zero_of_le low, List.drop_zero]
    · have more : q - a = q - (a + 1) + 1 := by omega
      rw [List.filter_cons, first, if_neg (by simpa using low), ih, more, List.drop_succ_cons]

theorem wf_next {j : Journal} (wf : j.wf) : j.next = j.oldest + j.count := by
  obtain ⟨_, next, _⟩ := wf
  omega

theorem wf_seqs {j : Journal} (wf : j.wf) : j.records.map (·.seq) = List.range' j.oldest j.records.length := wf.1

theorem filter_records {j : Journal} (wf : j.wf) (q : Nat) :
    j.records.filter (fun x => decide (q ≤ x.seq)) = j.records.drop (q - j.oldest) := filter_seq (wf_seqs wf) q

theorem filter_records_lt {j : Journal} (wf : j.wf) (q : Nat) :
    j.records.filter (fun x => decide (q < x.seq)) = j.records.drop (q + 1 - j.oldest) := filter_records wf (q + 1)

/-! ### The bytes of a record -/

theorem beSigned_length (n : Nat) (v : Int) : (beSigned n v).length = n := length_be n _

/-- A record's bytes: the twelve of its head, its kind's fields, and zeros to 48. -/
theorem recordBytes_eq {seq : Nat} (named : seq ≤ 4294967295) (time : Nat) (lane : Option LaneId) (flags : RecordFlags) (b : RecordBody)
    (short : b.bytes.length ≤ 36) :
    (⟨seq, time, lane, flags, b⟩ : JRecord).bytes =
      be 4 seq ++ be 4 time ++ [b.kindCode, match lane with
        | some n => BitVec.ofNat 8 n.val
        | none => 0xFF] ++
      [bitByte [flags.emergency, flags.clone, flags.counterfeit, flags.unverified, flags.gapFollows], b.subCode] ++ b.bytes ++
      List.replicate (36 - b.bytes.length) 0 := by
  have seq4 : seqBytes seq = be 4 seq := if_pos named
  have rest : 48 - (be 4 seq ++ be 4 time ++ [b.kindCode, laneByte lane, flags.byte, b.subCode] ++ b.bytes).length =
      36 - b.bytes.length := by
    simp only [List.length_append, length_be, List.length_cons, List.length_nil]
    omega
  rw [JRecord.bytes, padTo]
  simp only [seq4]
  rw [rest]
  simp only [List.append_assoc]
  cases lane <;> rfl

theorem bytes_unusedGrant (c : ForfeitCause) (g : Grant) :
    (RecordBody.unusedGrant c g).bytes =
      ([if g.direction = .entry then 0 else 1,
        match g.kind with | .paid => 0 | .reGranted => 1 | .recovered => 2 | .staff => 3] : List Byte) ++
        [bitByte [g.identity.isSome, g.seq.isSome]] ++ be 8 (g.identity.getD 0).toNat ++ be 4 g.time ++ be 4 (g.seq.getD 0) := by
  have identity : optId g.identity = be 8 (g.identity.getD 0).toNat := by
    cases g.identity with
    | none => exact (be_zero 8).symm
    | some id => rfl
  rw [RecordBody.bytes, identity, optBytes_eq, directionCode_eq]
  cases g.kind <;> rfl

theorem bytes_card (b : CardBody) :
    (RecordBody.card b).bytes =
      [match b.refusal with | some r => r.code | none => 0xFF, bitByte [b.counterWritten.isSome, b.related.isSome]] ++
        be 8 b.identity.toNat ++ [if b.direction = .entry then 0 else 1] ++ be 1 b.product ++ be 3 b.counterRead ++
        be 3 (b.counterWritten.getD 0) ++ be 2 b.charge ++ beSigned 3 b.balanceBefore ++ beSigned 3 b.balanceAfter ++
        be 2 b.fareVersion ++ be 2 b.originStation ++ be 1 b.legs ++ be 4 (b.related.getD 0) := by
  have refusal : optCode (b.refusal.map RefusalCode.code) = match b.refusal with | some r => r.code | none => 0xFF := by
    cases b.refusal <;> rfl
  rw [RecordBody.bytes, CardBody.bytes, refusal, optBytes_eq, optBytes_eq, directionCode_eq]
  rfl

/-- Settles O25: the records by their sequence, the layouts by the record's kind. -/
theorem journalIsReadAndReleased : Obligations.JournalIsReadAndReleased := by
  refine ⟨?_, ?_, ?_, ?_⟩
  · intro s r rest takes wf u j q m found
    have journal : u.journal = j := by simp only [u, takeRequest_frame, j]
    have same : found = (j.records.drop (q - j.oldest)).take m := by rw [← filter_records wf]
    refine ⟨?_, (serve_of_takes takes readJournal).trans (congrArg Host.Outcome.next ?_)⟩
    · intro reached
      have next : j.next = j.oldest + j.count := wf_next wf
      have newest : j.newest = j.next - 1 := rfl
      obtain ⟨_, _, _, _, _, _, positive⟩ := wf
      have first : 1 ≤ j.next := positive
      have count : j.records.length = j.count := rfl
      rw [same, List.length_take, List.length_drop]
      omega
    · simp only [readJournal, show (s.takeRequest r rest).journal = j from journal]
      split_ifs
      · rfl
      · rfl
      · rfl
      · rw [same]
        rfl
  · intro base nvwp r rest s takes wf u j q kept
    have journal : u.journal = j := by simp only [u, takeRequest_frame, j]
    have released : j.release (r.field 4 4) = { j with records := kept } := by
      rw [Journal.release, ← filter_records_lt wf]
    refine ⟨?_, ?_⟩
    · refine serveProtected_answers takes ?_
      change State.answer (releaseJournal r u).1 r.tag r.target (releaseJournal r u).2 = _
      simp only [releaseJournal, journal, released]
      split_ifs <;> rfl
    · intro reached written
      have next : j.next = j.oldest + j.count := wf_next wf
      have newest : j.newest = j.next - 1 := rfl
      have kept_eq : kept = j.records.drop (q + 1 - j.oldest) := filter_records_lt wf q
      have seqs : kept.map (·.seq) = List.range' (q + 1) (j.count - (q + 1 - j.oldest)) := by
        have start : j.oldest + (q + 1 - j.oldest) = q + 1 := by omega
        rw [kept_eq, List.map_drop, wf_seqs wf, List.drop_range', Nat.mul_one]
        change List.range' (j.oldest + (q + 1 - j.oldest)) _ = _
        rw [start]
        rfl
      obtain ⟨_, _, _, _, _, _, positive⟩ := wf
      have first : 1 ≤ j.next := positive
      clear_value kept
      cases kept with
      | nil =>
        have gone := congrArg List.length seqs
        simp only [List.map_nil, List.length_nil, List.length_range'] at gone
        change j.next = q + 1
        omega
      | cons x kept =>
        cases left : j.count - (q + 1 - j.oldest) with
        | zero => simp [left] at seqs
        | succ k =>
          rw [left, List.range'_succ, List.map_cons, List.cons.injEq] at seqs
          exact seqs.1
  · intro seq time lane flags named lays way
    have lay : ∀ {b : RecordBody} {kind sub : Byte} {fields : List Byte}, b.kindCode = kind → b.subCode = sub → b.bytes = fields →
        fields.length ≤ 36 → lays b kind sub fields := by
      rintro b _ _ _ rfl rfl rfl short
      exact ⟨recordBytes_eq named time lane flags b short, short⟩
    have way_eq : ∀ d : Direction, d.code = way d := directionCode_eq
    refine ⟨?_, ?_, ?_, ?_, ?_, ?_, ?_, ?_, ?_, ?_, ?_, ?_, ?_, ?_, ?_, ?_, ?_, ?_, ?_, ?_, ?_, ?_⟩
    · intro b
      exact lay rfl (show b.outcome.code = _ by cases b.outcome <;> rfl) (bytes_card b) (by simp [beSigned_length])
    · intro b
      exact lay rfl (show b.outcome.code = _ by cases b.outcome <;> rfl)
        (by rw [RecordBody.bytes, TearBody.bytes, way_eq, be_one]; rfl) (by simp)
    · intro c d o
      exact lay rfl (by cases c <;> rfl) (by rw [RecordBody.bytes, way_eq]) (by simp)
    · intro c g
      exact lay rfl (by cases c <;> rfl) (bytes_unusedGrant c g) (by simp)
    · intro d x
      exact lay rfl rfl (by rw [RecordBody.bytes, way_eq]) (by simp)
    · exact lay rfl rfl rfl (by simp)
    · intro x
      exact lay rfl rfl (by rw [RecordBody.bytes, bitByte_one, optBytes_eq]) (by simp)
    · intro a b
      exact lay rfl rfl rfl (by simp)
    · intro v c k
      exact lay rfl rfl rfl (by simp)
    · intro id
      exact ⟨lay rfl rfl rfl (by simp), lay rfl rfl rfl (by simp), lay rfl rfl rfl (by simp)⟩
    · intro v
      exact lay rfl rfl rfl (by simp)
    · exact lay rfl rfl rfl (by simp)
    · exact lay rfl rfl rfl (by simp)
    · exact lay rfl rfl rfl (by simp)
    · exact lay rfl rfl rfl (by simp)
    · exact lay rfl rfl rfl (by simp)
    · exact lay rfl rfl rfl (by simp)
    · intro m level openTime motion tailgate
      exact lay rfl rfl (by cases m <;> rfl) (by simp)
    · exact lay rfl rfl rfl (by simp)
    · intro x
      exact lay rfl rfl rfl (by simp)
    · intro x d fits
      exact lay rfl rfl (by rw [RecordBody.bytes, stepBytes, if_pos fits]) (by simp [beSigned_length])
    · intro c first last
      exact lay rfl rfl rfl (by simp)
  · decide

end Sys2Proof.Machine
end

section
/-! PROOF. Loading the hot list (R84 to R86): a segment stored whole, or ended at its first identity at fault. -/

namespace Sys2Proof.Machine

theorem code_of_takes {s : State} {code : Byte} {r : Request} {rest : List (List Byte)} (takes : s.takes code r rest) : r.code = code := by
  obtain ⟨⟨_, _, _, _, _, named⟩, _⟩ := takes
  exact named

theorem getLast?_toList_append (last : Option Identity) (ids : List Identity) :
    (last.toList ++ ids).getLast? = ids.getLast?.or last := by
  rw [List.getLast?_append]
  cases last <;> rfl

/-- Identities in order and within the total are stored, and the rest of the segment goes on from there. -/
theorem storeIdentities_append {total : Nat} (rest : List Identity) : ∀ (xs : List Identity) (position : Nat) (stored : List Identity)
    (running : Nat) (last : Option Identity), ascending (last.toList ++ xs) = true → running + xs.length ≤ total →
    storeIdentities total (xs ++ rest) position stored running last =
      storeIdentities total rest (position + xs.length) (stored ++ xs) (running + xs.length) (xs.getLast?.or last)
  | [], position, stored, running, last, _, _ => by simp
  | x :: xs, position, stored, running, last, order, room => by
    have split : ascending (last.toList ++ [x]) = true ∧ ascending (x :: xs) = true := by
      cases last with
      | none => exact ⟨rfl, order⟩
      | some l =>
        simp only [Option.toList_some, List.singleton_append, ascending, Bool.and_eq_true] at order ⊢
        exact ⟨⟨order.1, trivial⟩, order.2⟩
    have above : last.any (fun l => decide (x.toNat ≤ l.toNat)) = false := by
      cases last with
      | none => rfl
      | some l => simpa [ascending] using split.1
    rw [List.length_cons] at room
    rw [List.cons_append, storeIdentities, if_neg (by simp [above]), if_neg (by omega),
      storeIdentities_append rest xs _ _ _ (some x) split.2 (by omega)]
    have newest : (x :: xs).getLast?.or last = xs.getLast?.or (some x) := by
      rw [← getLast?_toList_append (some x) xs, Option.toList_some, List.singleton_append, List.getLast?_cons]
      rfl
    rw [newest, List.append_assoc, List.singleton_append, List.length_cons]
    congr 1 <;> omega

theorem storeIdentities_of_order {total : Nat} {xs : List Identity} {position running : Nat} {stored : List Identity} {last : Option Identity}
    (order : ascending (last.toList ++ xs) = true) (room : running + xs.length ≤ total) :
    storeIdentities total xs position stored running last = .ok (stored ++ xs, running + xs.length, xs.getLast?.or last) := by
  have whole := storeIdentities_append [] xs position stored running last order room
  rwa [List.append_nil] at whole

/-- The first identity out of order ends the segment. -/
theorem storeIdentities_of_disorder {total : Nat} {before after : List Identity} {x : Identity} {running : Nat} {last : Option Identity}
    (order : ascending (last.toList ++ before) = true) (room : running + before.length ≤ total)
    (low : ascending (last.toList ++ before ++ [x]) = false) :
    storeIdentities total (before ++ x :: after) 0 [] running last =
      .error ⟨.illegalRequest, detailHotListOrder, none, some before.length⟩ := by
  have fault : (before.getLast?.or last).any (fun l => decide (x.toNat ≤ l.toNat)) = true := by
    by_contra fine
    rw [Bool.not_eq_true, ← getLast?_toList_append] at fine
    refine Bool.false_ne_true (low.symm.trans ((ascending_concat _ _).2 ⟨order, fun l hl => ?_⟩))
    simpa [Option.mem_def.1 hl] using fine
  rw [storeIdentities_append _ before 0 [] running last order room, storeIdentities, if_pos fault, Nat.zero_add]

/-- The first identity in excess of the total ends the segment. -/
theorem storeIdentities_of_excess {total : Nat} {before after : List Identity} {x : Identity} {running : Nat} {last : Option Identity}
    (order : ascending (last.toList ++ before) = true) (high : ascending (last.toList ++ before ++ [x]) = true)
    (full : running + before.length = total) :
    storeIdentities total (before ++ x :: after) 0 [] running last = .error ⟨.illegalRequest, detailHotListCount, none, some total⟩ := by
  have fine : (before.getLast?.or last).any (fun l => decide (x.toNat ≤ l.toNat)) = false := by
    obtain ⟨_, later⟩ := (ascending_concat _ _).1 high
    rw [← getLast?_toList_append]
    cases newest : (last.toList ++ before).getLast? with
    | none => rfl
    | some l => simpa using later l newest
  rw [storeIdentities_append _ before 0 [] running last order (by omega), storeIdentities, if_neg (by simp [fine]),
    if_pos (by omega)]

/-- Settles O26: HOTLIST BEGIN, the tests of a segment, and the segment stored. -/
theorem hotListIsLoadedInOrder : Obligations.HotListIsLoadedInOrder := by
  refine ⟨?_, ?_, ?_⟩
  · intro base nvwp r rest s takes u
    have hot : u.hot = s.hot := by simp only [u, takeRequest_frame]
    refine serveProtected_answers takes ?_
    change State.answer (hotlistBegin r u).1 r.tag r.target (hotlistBegin r u).2 = _
    simp only [hotlistBegin, hot]
    by_cases large : 16384 < r.field 6 2
    · rw [if_pos large, if_pos (show Config.bankCapacity < _ from large)]
      rfl
    · rw [if_neg large, if_neg (show ¬ Config.bankCapacity < _ from large)]
      cases s.hot.load <;> rfl
  · intro base nvwp r rest s takes u
    have hot : u.hot = s.hot := by simp only [u, takeRequest_frame]
    have mark_iff : (r.byte 4 = 0 ∨ r.byte 4 = 1) → ¬ (r.byte 4 ≠ 0 ∧ r.byte 4 ≠ 1) := by tauto
    refine ⟨?_, ?_, ?_, ?_⟩
    · intro low
      exact serveProtected_of_low takes low
    · intro high no0 no1
      refine serveProtected_of_run takes high ?_
      rw [hotlistSegment, if_pos ⟨no0, no1⟩]
      rfl
    · intro high mark ragged
      refine serveProtected_of_run takes high ?_
      rw [hotlistSegment, if_neg (mark_iff mark), if_pos ragged]
      rfl
    · intro high mark even idle
      refine serveProtected_of_run takes high (t := u) (a := .check (orderError detailNoLoadOpen)) ?_
      change hotlistSegment r u = _
      simp only [hotlistSegment, if_neg (mark_iff mark), if_neg (not_not.2 even), hot]
  · intro base r rest version total running last s takes mark even loading u ids bank abandoned asked
    have hot : u.hot = s.hot := by simp only [u, takeRequest_frame]
    have tracker : u.proc.tracker = s.proc.tracker := by simp only [u, takeRequest_fields]
    have unmarked : ¬ (r.byte 4 ≠ 0 ∧ r.byte 4 ≠ 1) := by tauto
    have segment : hotlistSegment r u =
        if r.byte 4 = 1 ∧ s.proc.tracker.isSome = true then (u, .busy) else takeSegment r u version total running last (r.byte 4 == 1) := by
      simp only [hotlistSegment, if_neg unmarked, if_neg (not_not.2 even), hot, loading, tracker]
    have runs : ∀ {t a}, hotlistSegment r u = (t, a) → exec (.hotlistSegment true) base = .next (t.answer r.tag r.target a) :=
      fun h => serveProtected_of_run takes rfl h
    have asked_iff : asked = true ↔ ¬ (r.byte 4 = 1 ∧ s.proc.tracker.isSome = true) := by
      have apart : ¬ (0 : Byte) = 1 := by decide
      simp only [asked, Bool.or_eq_true, beq_iff_eq, Option.isNone_iff_eq_none, Option.isSome_iff_ne_none]
      rcases mark with h | h
      · simp [h, apart]
      · simp [h, Ne.symm apart]
    refine ⟨?_, ?_, ?_⟩
    · intro busy
      refine runs ?_
      rw [segment, if_pos]
      by_contra h
      exact Bool.noConfusion (busy.symm.trans (asked_iff.2 h))
    · intro free order room
      rw [if_neg (asked_iff.1 free)] at segment
      have stored := storeIdentities_of_order (position := 0) (stored := []) order room
      rw [takeSegment, show identitiesOf r.data = ids from rfl, stored, hot] at segment
      have code : r.code = 0x41 := code_of_takes takes
      rcases mark with h | h
      · rw [if_pos h]
        simp only [h, show ((0 : Byte) == 1) = false from rfl, Bool.false_eq_true, if_false] at segment
        exact runs segment
      · rw [if_neg (by rw [h]; decide)]
        simp only [h, beq_self_eq_true, if_true] at segment
        split_ifs at segment ⊢ with full
        · rw [State.startLong, code, full] at segment
          exact runs segment
        · exact runs segment
    · intro before x after free split order room
      rw [if_neg (asked_iff.1 free)] at segment
      refine ⟨?_, ?_⟩
      · intro low
        rw [takeSegment, show identitiesOf r.data = before ++ x :: after from split, storeIdentities_of_disorder order room low, hot] at segment
        exact runs segment
      · intro high full
        rw [takeSegment, show identitiesOf r.data = before ++ x :: after from split, storeIdentities_of_excess order high full, hot] at segment
        exact runs segment

end Sys2Proof.Machine
end

section
/-! PROOF. Fare tables (R67 to R70, R203): committed, verified, read from their sections, and activated. -/

namespace Sys2Proof.Machine

/-! ### Fields within sections -/

theorem fieldAt_slice (bs : List Byte) (a m : Nat) {k n : Nat} (inside : k + n ≤ m) :
    fieldAt (slice bs a m) k n = fieldAt bs (a + k) n := by
  unfold fieldAt slice
  rw [List.drop_take, List.drop_drop, List.take_take, Nat.min_eq_left (by omega)]

section Received
variable {sections : Sections} {c : Fin 6 → List Byte}

theorem sectionBytes_of_received (received : ∀ k : Fin 6, sections[k] = some (c k)) (k : Fin 6) : sectionBytes sections k = c k := by
  have h := received k
  unfold sectionBytes
  simp only [Fin.getElem_fin] at h
  rw [h]
  rfl

theorem missingSection_of_first {k : Fin 6} (missing : sections[k] = none) (first : ∀ j : Fin 6, j < k → sections[j] ≠ none) :
    missingSection sections = some k.val := by
  unfold missingSection
  rw [List.findIdx?_eq_some_iff_getElem]
  refine ⟨by simp, ?_, fun j below => ?_⟩
  · simpa using missing
  · simpa [Option.isNone_iff_eq_none] using first ⟨j, by omega⟩ below

theorem missingSection_of_received (received : ∀ k : Fin 6, sections[k] = some (c k)) : missingSection sections = none := by
  unfold missingSection
  rw [List.findIdx?_eq_none_iff]
  intro x hx
  obtain ⟨k, rfl⟩ := mem_vector.1 hx
  have h := received k
  simp only [Fin.getElem_fin] at h
  rw [h]
  rfl

end Received

/-! ### The tests of verification (R68, R203) -/

/-- The header's field at an offset is out of its range. -/
def HeaderFails (h : List Byte) (k : Nat) : Prop :=
  (k = 2 ∧ (fieldAt h 2 2 = 0 ∨ fieldAt h 2 2 = 65535)) ∨ (k = 4 ∧ (fieldAt h 4 1 = 0 ∨ 16 < fieldAt h 4 1)) ∨
  (k = 9 ∧ 120 < fieldAt h 9 1) ∨ (k = 10 ∧ 120 < fieldAt h 10 1)

theorem headerFailure_of_first {h : List Byte} {k : Nat} (fails : HeaderFails h k) (first : ∀ j, j < k → ¬ HeaderFails h j) :
    headerFailure h = some k := by
  unfold headerFailure
  have pass2 : 2 < k → ¬ (fieldAt h 2 2 = 0 ∨ fieldAt h 2 2 = 65535) := fun below x => first 2 below (.inl ⟨rfl, x⟩)
  have pass4 : 4 < k → ¬ (fieldAt h 4 1 = 0 ∨ 16 < fieldAt h 4 1) := fun below x => first 4 below (.inr (.inl ⟨rfl, x⟩))
  have pass9 : 9 < k → ¬ 120 < fieldAt h 9 1 := fun below x => first 9 below (.inr (.inr (.inl ⟨rfl, x⟩)))
  rcases fails with ⟨rfl, x⟩ | ⟨rfl, x⟩ | ⟨rfl, x⟩ | ⟨rfl, x⟩
  · exact if_pos x
  · rw [if_neg (pass2 (by decide)), if_pos x]
  · rw [if_neg (pass2 (by decide)), if_neg (pass4 (by decide)), if_pos x]
  · rw [if_neg (pass2 (by decide)), if_neg (pass4 (by decide)), if_neg (pass9 (by decide)), if_pos x]

theorem headerFailure_of_pass {h : List Byte} (passes : ∀ k, ¬ HeaderFails h k) : headerFailure h = none := by
  unfold headerFailure
  rw [if_neg fun x => passes 2 (.inl ⟨rfl, x⟩), if_neg fun x => passes 4 (.inr (.inl ⟨rfl, x⟩)),
    if_neg fun x => passes 9 (.inr (.inr (.inl ⟨rfl, x⟩))), if_neg fun x => passes 10 (.inr (.inr (.inr ⟨rfl, x⟩)))]

theorem bandOfCode_eq_none (n : Nat) : Band.ofCode n = none ↔ 1 < n := by
  match n with
  | 0 => simp [Band.ofCode]
  | 1 => simp [Band.ofCode]
  | n + 2 => simp [Band.ofCode]

theorem bandOfCode_of_le {n : Nat} (h : n ≤ 1) : Band.ofCode n = some (if n = 0 then .peak else .offpeak) := by
  interval_cases n <;> rfl

theorem schemeOfCode_eq_none (n : Nat) : Scheme.ofCode n = none ↔ 4 < n := by
  match n with
  | 0 => simp [Scheme.ofCode]
  | 1 => simp [Scheme.ofCode]
  | 2 => simp [Scheme.ofCode]
  | 3 => simp [Scheme.ofCode]
  | 4 => simp [Scheme.ofCode]
  | n + 5 => simp [Scheme.ofCode]

theorem schemeOfCode_of_le {n : Nat} (h : n ≤ 4) :
    Scheme.ofCode n = some (([.storedValue, .periodPass, .rideCount, .staff, .free] : List Scheme).getD n .free) := by
  interval_cases n <;> rfl

theorem intervalFails_iff (b : List Byte) (i : Nat) :
    intervalFails b i = true ↔ 86399 < bandStart b i ∨ 1 < bandCode b i ∨ (0 < i ∧ bandStart b i ≤ bandStart b (i - 1)) := by
  simp [intervalFails, bandOfCode_eq_none, or_assoc]

theorem productFails_iff (e : List Byte) :
    productFails e = true ↔ 1 < fieldAt e 0 1 ∨
      (fieldAt e 0 1 = 1 ∧ (4 < fieldAt e 1 1 ∨ 3 < fieldAt e 2 1 ∨ 100 < fieldAt e 3 1 ∨ 5000 < fieldAt e 4 2 ∨ 240 < fieldAt e 6 1)) := by
  simp [productFails, schemeOfCode_eq_none, or_assoc]

theorem bandsFailure_of_count {b : List Byte} (wrong : bandCount b = 0 ∨ 8 < bandCount b) : bandsFailure b = some (bandCount b) :=
  if_pos wrong

theorem bandsFailure_of_first {b : List Byte} {i : Nat} (some_ : 1 ≤ bandCount b) (few : bandCount b ≤ 8) (inside : i < bandCount b)
    (fails : intervalFails b i = true) (first : ∀ j, j < i → ¬ intervalFails b j = true) : bandsFailure b = some i := by
  unfold bandsFailure
  rw [if_neg (by omega), List.find?_range_eq_some]
  exact ⟨fails, List.mem_range.2 inside, fun j below => by simpa using first j below⟩

theorem bandsFailure_of_pass {b : List Byte} (some_ : 1 ≤ bandCount b) (few : bandCount b ≤ 8)
    (passes : ∀ i, i < bandCount b → ¬ intervalFails b i = true) : bandsFailure b = none := by
  unfold bandsFailure
  rw [if_neg (by omega), List.find?_range_eq_none]
  exact fun i inside => by simpa using passes i inside

theorem productsFailure_of_first {s : Sections} {code : Nat} (inside : code < 64) (fails : productFails (productBytes s code) = true)
    (first : ∀ x, x < code → ¬ productFails (productBytes s x) = true) : productsFailure s = some code := by
  unfold productsFailure
  rw [List.find?_range_eq_some]
  exact ⟨fails, List.mem_range.2 inside, fun j below => by simpa using first j below⟩

theorem productsFailure_of_pass {s : Sections} (passes : ∀ x, x < 64 → ¬ productFails (productBytes s x) = true) :
    productsFailure s = none := by
  unfold productsFailure
  rw [List.find?_range_eq_none]
  exact fun i inside => by simpa using passes i inside

/-! ### Activation (R69, R70) -/

theorem bound_iff (s : State) (version : Nat) : s.bound version = true ↔ ∃ n, (s.lane n).engine.boundVersion = some version := by
  simp [State.bound, laneIds_eq]

theorem considerActivation_of_due {s : State} {table : FareTable} {effective : Nat} (waits : s.fare.pending = .waiting table effective)
    (valid : s.clock.valid = true) (come : effective ≤ s.clock.time) (free : s.fare.retiring = none) :
    s.considerActivation =
      (({ s with fare := ⟨some table, .none, s.retire s.fare.active⟩ }.record none RecordFlags.clear (.table table.version)).raise
        .tableActivated .part (be 2 table.version)).settleReadiness s.ready := by
  have due : s.activationDue = some table := by
    simp only [State.activationDue, waits]
    rw [if_pos ⟨valid, come, by rw [free]; rfl⟩]
  unfold State.considerActivation
  rw [due]

theorem considerActivation_of_not_due {s : State} {table : FareTable} {effective : Nat} (waits : s.fare.pending = .waiting table effective)
    (early : ¬ (s.clock.valid = true ∧ effective ≤ s.clock.time ∧ s.fare.retiring = none)) : s.considerActivation = s := by
  have none_due : s.activationDue = none := by
    simp only [State.activationDue, waits]
    rw [if_neg]
    rintro ⟨valid, come, free⟩
    exact early ⟨valid, come, by simpa using free⟩
  unfold State.considerActivation
  rw [none_due]

/-! ### Verification of six received sections -/

section Verification
variable {version : Nat} {sections : Sections} {c : Fin 6 → List Byte}

theorem fieldAt_productBytes (received : ∀ k : Fin 6, sections[k] = some (c k)) {code k n : Nat} (known : code < 64)
    (inside : k + n ≤ 9) :
    fieldAt (productBytes sections code) k n = fieldAt (c (if code < 32 then 1 else 2)) (9 * (code % 32) + k) n := by
  unfold productBytes
  by_cases low : code < 32
  · rw [if_pos low, if_pos low, fieldAt_slice _ _ _ inside, sectionBytes_of_received received, Nat.mod_eq_of_lt low]
  · have rem : code % 32 = code - 32 := by omega
    rw [if_neg low, if_neg low, fieldAt_slice _ _ _ inside, sectionBytes_of_received received, rem]

theorem verificationFailure_of_version (received : ∀ k : Fin 6, sections[k] = some (c k)) (wrong : fieldAt (c 0) 0 2 ≠ version) :
    verificationFailure version sections = some (inconsistent 0 (fieldAt (c 0) 0 2)) := by
  simp only [verificationFailure, missingSection_of_received received, sectionBytes_of_received received]
  rw [if_pos wrong]

theorem verificationFailure_of_header (received : ∀ k : Fin 6, sections[k] = some (c k)) (right : fieldAt (c 0) 0 2 = version)
    {k : Nat} (fails : headerFailure (c 0) = some k) : verificationFailure version sections = some (inconsistent 0 k) := by
  simp only [verificationFailure, missingSection_of_received received, sectionBytes_of_received received, fails]
  rw [if_neg (not_not.2 right)]

theorem verificationFailure_of_bands (received : ∀ k : Fin 6, sections[k] = some (c k)) (right : fieldAt (c 0) 0 2 = version)
    (header : headerFailure (c 0) = none) {i : Nat} (fails : bandsFailure (c 5) = some i) :
    verificationFailure version sections = some (inconsistent 5 i) := by
  simp only [verificationFailure, missingSection_of_received received, sectionBytes_of_received received, header, fails]
  rw [if_neg (not_not.2 right)]

theorem verificationFailure_of_products (received : ∀ k : Fin 6, sections[k] = some (c k)) (right : fieldAt (c 0) 0 2 = version)
    (header : headerFailure (c 0) = none) (bands : bandsFailure (c 5) = none) {code : Nat}
    (fails : productsFailure sections = some code) :
    verificationFailure version sections = some (inconsistent (productSection code) code) := by
  simp only [verificationFailure, missingSection_of_received received, sectionBytes_of_received received, header, bands, fails]
  rw [if_neg (not_not.2 right)]

theorem verificationFailure_of_pass (received : ∀ k : Fin 6, sections[k] = some (c k)) (right : fieldAt (c 0) 0 2 = version)
    (header : headerFailure (c 0) = none) (bands : bandsFailure (c 5) = none) (products : productsFailure sections = none) :
    verificationFailure version sections = none := by
  simp only [verificationFailure, missingSection_of_received received, sectionBytes_of_received received, header, bands, products]
  rw [if_neg (not_not.2 right)]

theorem bands_of_pass {b : List Byte} (passes : ∀ i, i < bandCount b → ¬ intervalFails b i = true) :
    (List.range (bandCount b)).filterMap (fun i => (Band.ofCode (bandCode b i)).map (fun k => (bandStart b i, k))) =
      (List.range (bandCount b)).map (fun i => (bandStart b i, if bandCode b i = 0 then .peak else .offpeak)) := by
  rw [← List.filterMap_eq_map]
  refine List.filterMap_congr fun i hi => ?_
  have code : bandCode b i ≤ 1 := by
    have pass := passes i (List.mem_range.1 hi)
    rw [intervalFails_iff] at pass
    omega
  rw [bandOfCode_of_le code]
  rfl

theorem product_of_pass {code : Nat} (known : code < 64) (passes : ¬ productFails (productBytes sections code) = true) :
    let e := productBytes sections code
    (tableOf sections).product code =
      if fieldAt e 0 1 = 1 then
        some ⟨([.storedValue, .periodPass, .rideCount, .staff, .free] : List Scheme).getD (fieldAt e 1 1) .free,
          fieldAt e 2 1, fieldAt e 3 1, fieldAt e 4 2, fieldAt e 6 1, fieldAt e 7 2⟩
      else none := by
  intro e
  have entry : (tableOf sections).product code = productOf e := by
    simp [FareTable.product, tableOf, List.getD, known, e]
  rw [entry, productOf]
  by_cases present : fieldAt e 0 1 = 1
  · have scheme : fieldAt e 1 1 ≤ 4 := by
      rw [productFails_iff] at passes
      exact Nat.le_of_not_lt fun above => passes (.inr ⟨present, .inl above⟩)
    simp only [e] at present ⊢
    rw [if_pos present, if_pos present, schemeOfCode_of_le scheme]
    rfl
  · rw [if_neg present, if_neg present]

end Verification

/-- A replaced table retires while a running transaction is bound to it (R70). -/
theorem retire_eq (s : State) (active : Option FareTable) [∀ v, Decidable (∃ n, (s.lane n).engine.boundVersion = some v)] :
    s.retire active =
      match active with
      | some old => if ∃ n, (s.lane n).engine.boundVersion = some old.version then some old else none
      | none => none := by
  cases active with
  | none => rfl
  | some old => simp only [State.retire, Option.filter, bound_iff]

/-- Settles O33: part by part; the tests of verification stand in the order of `verificationFailure`. -/
theorem fareTablesAreCommittedAndActivated : Obligations.FareTablesAreCommittedAndActivated := by
  refine ⟨?_, ?_, ?_, ?_, ?_⟩
  · intro base nvwp r rest s takes u
    have answered : (fareCommit r u).1.answer r.tag r.target (fareCommit r u).2 =
        if s.proc.tracker.isSome then u.busied r
        else
          match s.fare.pending with
          | .loading version sections =>
            { u with fare := { s.fare with pending := .verifying version sections (r.field 4 4) }
                     proc := { u.proc with tracker := some ⟨r.tag, 0x19, false⟩ } }.accepted r
          | _ => u.checked r ⟨.orderError, 0x05, none, none⟩ := by
      have fare : u.fare = s.fare := by simp [u]
      have tracker : u.proc.tracker = s.proc.tracker := by simp only [u, takeRequest_fields]
      have code : r.code = 0x19 := code_of_takes takes
      unfold fareCommit
      rw [tracker, fare]
      split_ifs
      · rfl
      · cases pending : s.fare.pending with
        | loading version sections =>
          simp only [State.startLong, State.setPending, fare, code]
          rfl
        | none => rfl
        | verifying => rfl
        | waiting => rfl
    refine (serveProtected_answers takes answered).trans (congrArg Host.Outcome.next ?_)
    cases nvwp <;> rfl
  · intro s version effective sections op on pending running
    refine (powered_next on).trans (congrArg Host.Outcome.next ?_)
    simp only [State.endFareVerification, pending]
    cases verificationFailure version sections with
    | none => exact congrArg State.considerActivation (endLong_good (s := s.setPending (.waiting (tableOf sections) effective)) running)
    | some x => exact endLong_check (s := s.setPending .none) running x
  · intro s table effective on waits
    refine ⟨fun early => ?_, ?_⟩
    · exact (powered_next on).trans (congrArg Host.Outcome.next (considerActivation_of_not_due waits early))
    · intro valid come free retiring
      refine (powered_next on).trans (congrArg Host.Outcome.next ?_)
      have retired : s.retire s.fare.active = retiring := (retire_eq s s.fare.active).trans rfl
      rw [considerActivation_of_due waits valid come free, retired]
  · intro version sections k missing first
    simp only [verificationFailure, missingSection_of_first missing first, detailSectionMissing]
  · intro version sections c received fails head headFails count start band bandFails entry productFails' headPasses bandsPass table
    have header (passes : headPasses) : headerFailure (c 0) = none := headerFailure_of_pass passes.2
    have interval (i : Nat) : intervalFails (c 5) i = true ↔ bandFails i := intervalFails_iff (c 5) i
    have bands (passes : bandsPass) : bandsFailure (c 5) = none :=
      bandsFailure_of_pass passes.1 passes.2.1 fun i inside => mt (interval i).1 (passes.2.2 i inside)
    have field {code k n : Nat} (known : code < 64) (inside : k + n ≤ 9) : fieldAt (productBytes sections code) k n = entry code k n :=
      fieldAt_productBytes received known inside
    have product {code : Nat} (known : code < 64) : productFails (productBytes sections code) = true ↔ productFails' code := by
      rw [productFails_iff, field known (by decide), field known (by decide), field known (by decide), field known (by decide),
        field known (by decide), field known (by decide)]
    refine ⟨fun wrong => verificationFailure_of_version received wrong, ?_, ?_, ?_, ?_, ?_⟩
    · exact fun k right bad first => verificationFailure_of_header received right (headerFailure_of_first bad first)
    · exact fun passes wrong => verificationFailure_of_bands received passes.1 (header passes) (bandsFailure_of_count wrong)
    · exact fun i passes one eight inside bad first => verificationFailure_of_bands received passes.1 (header passes)
        (bandsFailure_of_first one eight inside ((interval i).2 bad) fun j below => mt (interval j).1 (first j below))
    · exact fun code passes good known bad first => verificationFailure_of_products received passes.1 (header passes) (bands good)
        (productsFailure_of_first known ((product known).2 bad) fun x below => mt (product (by omega)).1 (first x below))
    · intro passes good fine
      have pass {code : Nat} (known : code < 64) : ¬ productFails (productBytes sections code) = true := mt (product known).1 (fine code known)
      refine ⟨verificationFailure_of_pass received passes.1 (header passes) (bands good) (productsFailure_of_pass fun x => pass),
        congrArg (fieldAt · 0 2) (sectionBytes_of_received received 0), congrArg (fieldAt · 2 2) (sectionBytes_of_received received 0),
        congrArg (fieldAt · 4 1) (sectionBytes_of_received received 0), congrArg (fieldAt · 5 2) (sectionBytes_of_received received 0),
        congrArg (fieldAt · 7 2) (sectionBytes_of_received received 0), congrArg (fieldAt · 9 1) (sectionBytes_of_received received 0),
        congrArg (fieldAt · 10 1) (sectionBytes_of_received received 0), ?_,
        congrArg (numbers2 · 256) (sectionBytes_of_received received 3), congrArg (numbers2 · 256) (sectionBytes_of_received received 4),
        congrArg (numbers2 · 32) (sectionBytes_of_received received 5), fun code known => ?_⟩
      · have passing : ∀ i, i < bandCount (sectionBytes sections 5) → ¬ intervalFails (sectionBytes sections 5) i = true := by
          rw [sectionBytes_of_received received]
          exact fun i inside => mt (interval i).1 (good.2.2 i inside)
        have read := bands_of_pass passing
        rw [sectionBytes_of_received received] at read
        simp only [table, tableOf, sectionBytes_of_received received]
        exact read
      · have read := product_of_pass (sections := sections) known (pass known)
        dsimp only at read
        rw [field known (by decide), field known (by decide), field known (by decide), field known (by decide), field known (by decide),
          field known (by decide), field known (by decide)] at read
        exact read

end Sys2Proof.Machine
end

section
/-! PROOF. The lane requests of configuration and service (R112, R113, R121). -/

namespace Sys2Proof.Machine

theorem settleService_of_fault {s : State} {n : LaneId} (fault : (s.lane n).gate.state = .fault) : s.settleService n = s := by
  simp [State.settleService, fault]

/-- A gate out of service stays so without the flag or readiness (R121). -/
theorem settleService_of_out {s : State} {n : LaneId} (out : (s.lane n).gate.state = .outOfService)
    (unserved : ((s.lane n).config.service && s.ready) = false) : s.settleService n = s := by
  simp [State.settleService, out, unserved]

theorem settleService_enters {s : State} {n : LaneId} (sound : (s.lane n).gate.state ≠ .fault)
    (inService : (s.lane n).gate.state ≠ .outOfService) (unserved : ((s.lane n).config.service && s.ready) = false) :
    s.settleService n = s.enterOutOfService n := by
  simp only [State.settleService, unserved]
  rw [if_neg sound, if_pos ⟨trivial, inService⟩]

theorem settleService_leaves {s : State} {n : LaneId} (out : (s.lane n).gate.state = .outOfService)
    (served : ((s.lane n).config.service && s.ready) = true) : s.settleService n = s.leaveOutOfService n := by
  simp [State.settleService, out, served]

theorem dirModeOfCode_getD {b : Byte} (known : ¬ (b ≠ 0 ∧ b ≠ 1 ∧ b ≠ 2)) :
    (DirMode.ofCode b).getD .both = if b = 0 then .entry else if b = 1 then .exit else .both := by
  unfold DirMode.ofCode
  split_ifs <;> rfl

theorem dirModeOfCode_isNone (b : Byte) : (DirMode.ofCode b).isNone = true ↔ b ≠ 0 ∧ b ≠ 1 ∧ b ≠ 2 := by
  unfold DirMode.ofCode
  split_ifs <;> simp_all

/-- Settles O39: the first field at fault refuses a configuration; the flag's change is stored, recorded and acted on. -/
theorem lanesAreConfigured : Obligations.LanesAreConfigured := by
  refine ⟨?_, ?_⟩
  · intro base nvwp n r rest s takes target u mode level openTime motion tailgate m
    have lane : u.lane n = s.lane n := takeRequest_lane s r rest n
    refine serveProtected_answers takes ?_
    change (onLane configureLane r u).1.answer r.tag r.target (onLane configureLane r u).2 = _
    rw [onLane_of_lane target]
    unfold configureLane configurationFailure
    simp only [dirModeOfCode_isNone]
    by_cases known : mode ≠ 0 ∧ mode ≠ 1 ∧ mode ≠ 2
    · rw [if_pos known, if_pos known]
      rfl
    · have decoded : (DirMode.ofCode (r.byte 4)).getD .both = m := dirModeOfCode_getD known
      rw [if_neg known, if_neg known, decoded]
      generalize m = m
      simp only [State.configure, updLane_eq, lane]
      split_ifs <;> rfl
  · intro base nvwp n r rest s takes target u stored state
    have lane : u.lane n = s.lane n := takeRequest_lane s r rest n
    have ready : u.ready = s.ready := takeRequest_ready s r rest
    have answered : exec (.laneService nvwp) base = .next (if nvwp = false then u.checked r ⟨.notReady, 0x04, none, none⟩ else
        (laneService n r u).1.answer r.tag r.target (laneService n r u).2) := by
      refine serveProtected_answers takes ?_
      change (onLane laneService r u).1.answer r.tag r.target (onLane laneService r u).2 = _
      rw [onLane_of_lane target]
    have ran (high : s.nvwp = true) : exec (.laneService nvwp) base = .next ((laneService n r u).1.answer r.tag r.target (laneService n r u).2) :=
      answered.trans (congrArg _ (if_neg (by simp [show nvwp = true from high])))
    have asked (on : Bool) (high : s.nvwp = true) (byte : r.byte 4 = if on then 1 else 0) :
        exec (.laneService nvwp) base = .next ((u.setService n on).good r []) := by
      refine (ran high).trans (congrArg _ ?_)
      cases on <;> simp [laneService, byte] <;> rfl
    have changes (on : Bool) (was : (s.lane n).config.service = !on) :
        u.setService n on = (stored on).settleService n := by
      unfold State.setService
      rw [lane, was, if_neg (by simp), updLane_eq, lane]
    have storedLane (on : Bool) : (stored on).lane n = { s.lane n with config := { (s.lane n).config with service := on } } := by
      exact (append_lane _ _ _ _ n).trans (lane_setLane_self _ _ _)
    have storedReady (on : Bool) : (stored on).ready = s.ready := by
      rw [← ready]
      refine ready_congr ?_ ?_ ?_ ?_ <;> simp [stored]
    refine ⟨fun low => answered.trans (congrArg _ (if_pos low)), fun high no0 no1 => ?_, fun on high byte same => ?_, fun high byte was => ?_,
      fun high byte was => ?_⟩
    · refine (ran high).trans (congrArg _ ?_)
      simp only [laneService]
      rw [if_neg no0, if_neg no1]
      rfl
    · rw [asked on high byte, State.setService, lane, if_pos same]
    · rw [asked false high byte, changes false was]
      refine ⟨fun shut => ?_, fun sound inService => ?_⟩
      · rcases shut with fault | out
        · rw [settleService_of_fault (by rw [storedLane]; exact fault)]
        · rw [settleService_of_out (by rw [storedLane]; exact out) (by rw [storedLane]; rfl)]
      · rw [settleService_enters (by rw [storedLane]; exact sound) (by rw [storedLane]; exact inService) (by rw [storedLane]; rfl)]
        rfl
    · rw [asked true high byte, changes true was]
      refine ⟨fun shut => ?_, fun out nowReady => ?_⟩
      · rcases shut with fault | ⟨out, unready⟩
        · rw [settleService_of_fault (by rw [storedLane]; exact fault)]
        · rw [settleService_of_out (by rw [storedLane]; exact out) (by rw [storedLane, storedReady]; exact unready)]
      · rw [settleService_leaves (by rw [storedLane]; exact out) (by rw [storedLane, storedReady]; exact nowReady)]
        rfl

end Sys2Proof.Machine
end

section
/-! PROOF. What a Head Port does at the reports of its head and at its timers (R4 to R13). -/

namespace Sys2Proof.Machine

/-! ### Ports of a lane -/

theorem setPort_setPort (l : Lane) (side : Side) (p q : Port) : (l.setPort side p).setPort side q = l.setPort side q := by
  cases side <;> rfl

theorem port_setPort (l : Lane) (side : Side) (p : Port) : (l.setPort side p).port side = p := by cases side <;> rfl

theorem withdraw_updPort (l : Lane) (side : Side) (f : Port → Port) :
    (l.withdraw side).updPort side f = ({ l with waiting := l.waiting.filter (fun o => o.side != side) } : Lane).setPort side (f (l.port side)) := by
  cases side <;> rfl

theorem sideCode_eq (side : Side) : sideCode side = if side = .s then 0 else 1 := by cases side <;> rfl

/-- A port that enters FAULT, by what was outstanding there (R12). -/
theorem portFault_eq (s : State) (n : LaneId) (side : Side) :
    let l := s.lane n
    let p := l.port side
    let faulted : State :=
      ((s.setLane n (({ l with waiting := l.waiting.filter (fun o => o.side != side) } : Lane).setPort side
        { p with state := .fault, presence := .none, exchange := none, dropped := true, pollTimer := 1000 })).record
        (some n) RecordFlags.clear (.lane (.fault (.head side)))).raise .headFault (.lane n) [if side = .s then 0 else 1]
    s.portFault n side =
      if p.reading then faulted.refuse n .readFault [] else if p.writing then faulted.lostDuring n else faulted := by
  intro l p faulted
  unfold State.portFault
  rw [updLane_eq, withdraw_updPort, sideCode_eq]
  rfl

/-- Settles O45. -/
theorem portsFollowTheirHeads : Obligations.PortsFollowTheirHeads := by
  intro s n side on l p others set withdrawn faulted ended
  have broken : s.portFault n side = ended := portFault_eq s n side
  clear_value ended
  have readied : exec (.headReady n side) s = .next (s.headReady n side) := powered_next on
  have reported : exec (.headFaultReport n side) s = .next (s.headFaultReport n side) := powered_next on
  have timedOut : exec (.headAnswerTimeout n side) s = .next (s.headTimeout n side) := powered_next on
  refine ⟨fun unready => ?_, fun ready => ?_, ?_, ?_, powered_next on⟩
  · rw [readied, State.headReady]
    cases state : ((s.lane n).port side).state with
    | ready => exact absurd state unready
    | polling => rfl
    | fault => rfl
  · have state : ((s.lane n).port side).state = .ready := ready
    rw [readied, State.headReady]
    dsimp only
    split
    · next polling => exact absurd (polling.symm.trans state) (by decide)
    · next fault => exact absurd (fault.symm.trans state) (by decide)
    · rw [updLane_eq, withdraw_updPort]
      rfl
  · rw [reported, State.headFaultReport, broken]
  · rw [timedOut, State.headTimeout, broken]
    simp only [Option.isNone_iff_eq_none]
    rfl

/-! ### Offers (R5 to R7) -/

/-- A fresh offer takes the place of the one that waits at its port, or the last place. -/
theorem offer_waiting (l : Lane) (side : Side) (shown : Presence) [Decidable (∃ o ∈ l.waiting, o.side = side)] :
    l.offer side shown = { l with
      waiting := if ∃ o ∈ l.waiting, o.side = side
        then l.waiting.map (fun o => if o.side = side then ⟨side, shown, l.resetting.isSome⟩ else o)
        else l.waiting ++ [⟨side, shown, l.resetting.isSome⟩] } := by
  have held : (l.offerAt side).isSome = true ↔ ∃ o ∈ l.waiting, o.side = side := by
    simp [Lane.offerAt, List.find?_isSome]
  unfold Lane.offer
  simp only [held]
  split <;> rfl

theorem setPort_waiting (l : Lane) (side : Side) (p : Port) : (l.setPort side p).waiting = l.waiting := by cases side <;> rfl
theorem setPort_resetting (l : Lane) (side : Side) (p : Port) : (l.setPort side p).resetting = l.resetting := by cases side <;> rfl
theorem setPort_engine (l : Lane) (side : Side) (p : Port) : (l.setPort side p).engine = l.engine := by cases side <;> rfl
theorem setPort_gate (l : Lane) (side : Side) (p : Port) : (l.setPort side p).gate = l.gate := by cases side <;> rfl
theorem setPort_refusals (l : Lane) (side : Side) (p : Port) : (l.setPort side p).refusals = l.refusals := by cases side <;> rfl

theorem offer_of_empty {l : Lane} (empty : l.waiting = []) (side : Side) (shown : Presence) :
    l.offer side shown = { l with waiting := [⟨side, shown, l.resetting.isSome⟩] } := by
  rw [offer_waiting, empty]
  simp

/-- The only offer that waits is the one an engine takes. -/
theorem chosen_of_only {l : Lane} {o : Offer} (only : l.waiting = [o]) : l.chosen = some o := by
  unfold Lane.chosen Lane.offerAt
  rw [only]
  cases l.gate.lock <;> cases h : o.side <;> simp [h]

/-- With no other offer, that of a READY part's idle engine is taken at once (R6). -/
theorem takeOffers_of_fresh {s : State} {n : LaneId} {l : Lane} (side : Side) (shown : Presence) (idle : l.engine.phase = .idle)
    (running : l.resetting = none) (empty : l.waiting = []) (ready : s.ready = true) :
    (s.setLane n (l.offer side shown)).takeOffers n = s.setLane n { l with
      engine := { l.engine.cleared with
        phase := .admitting, awaiting := .admission, side := some side, presence := some shown, identity := shown.identity } } := by
  rw [offer_of_empty empty, takeOffers_of_ready _ n ⟨side, shown, l.resetting.isSome⟩ (by simpa using idle) (by simpa using running)
    (show (s.setLane n _).ready = true from ready) (chosen_of_only (by simp))]
  obtain ⟨⟩ := l
  subst empty
  simp [Lane.begin_, Lane.withdraw]

theorem takeOffer_of_none {s : State} {n : LaneId} (empty : (s.lane n).waiting = []) : s.takeOffer n = s := by
  simp [State.takeOffer, chosen_of_none _ empty]

theorem takeOffer_of_unready {s : State} {n : LaneId} {o : Offer} (idle : (s.lane n).engine.phase = .idle)
    (running : (s.lane n).resetting = none) (chosen : (s.lane n).chosen = some o) (unready : s.ready = false) :
    s.takeOffer n =
      (s.setLane n (((s.lane n).withdraw o.side).updPort o.side (fun p => p.sendRelease .stop))).countRefusal n .partNotReady := by
  simp [State.takeOffer, idle, running, chosen, unready]

/-- That of a part not READY ends at once with RELEASE STOP, the refusal counted (R6, R11, R21). -/
theorem takeOffers_of_unready {s : State} {n : LaneId} {l : Lane} (side : Side) (shown : Presence) (idle : l.engine.phase = .idle)
    (running : l.resetting = none) (empty : l.waiting = []) (unready : s.ready = false) :
    (s.setLane n (l.offer side shown)).takeOffers n =
      (s.setLane n (l.updPort side (fun p => p.sendRelease .stop))).countRefusal n .partNotReady := by
  have alone : ({ l with waiting := [⟨side, shown, l.resetting.isSome⟩] } : Lane).withdraw side = l := by
    obtain ⟨⟩ := l
    subst empty
    simp [Lane.withdraw]
  have first : (s.setLane n (l.offer side shown)).takeOffer n =
      (s.setLane n (l.updPort side (fun p => p.sendRelease .stop))).countRefusal n .partNotReady := by
    rw [offer_of_empty empty, takeOffer_of_unready (o := ⟨side, shown, l.resetting.isSome⟩) (by simpa using idle) (by simpa using running)
      (chosen_of_only (by simp)) (show (s.setLane n _).ready = false from unready), lane_setLane_self, alone, setLane_setLane]
  rw [State.takeOffers, first, takeOffer_of_none]
  simpa [State.countRefusal, updLane_eq, Lane.updPort, setPort_waiting] using empty

/-- The lane of an offer refused so, and what the refusal leaves. -/
theorem refusedOffer_parts {s : State} {n : LaneId} {l : Lane} (side : Side) {p : Port} (empty : l.waiting = []) :
    let t := (s.setLane n ((l.setPort side p).updPort side (fun p => p.sendRelease .stop))).countRefusal n .partNotReady
    { t with lanes := s.lanes } = s ∧ (∀ m, m ≠ n → t.lane m = s.lane m) ∧
      ((t.lane n).port side).releases = p.releases ++ [.stop] ∧ ((t.lane n).port side).presence = p.presence ∧
      (t.lane n).waiting = [] ∧ (t.lane n).engine = l.engine ∧ (t.lane n).gate = l.gate ∧
      (t.lane n).refusals = l.refusals.set 0 (if l.refusals[0] < 4294967295 then l.refusals[0] + 1 else l.refusals[0]) := by
  intro t
  have lane : t.lane n = { l.setPort side (p.sendRelease .stop) with
      refusals := l.refusals.set 0 (if l.refusals[0] < 4294967295 then l.refusals[0] + 1 else l.refusals[0]) } := by
    cases side <;> simp [t, State.countRefusal, updLane_eq, Lane.updPort, Lane.setPort, Lane.port, RefusalCode.index, saturate] <;> rfl
  refine ⟨rfl, fun m other => ?_, ?_⟩
  · simp only [t, State.countRefusal, updLane_eq]
    rw [lane_setLane_ne _ other, lane_setLane_ne _ other]
  · rw [lane]
    cases side <;> exact ⟨rfl, rfl, empty, rfl, rfl, rfl⟩

/-- Settles O46. -/
theorem presenceMakesOffers : Obligations.PresenceMakesOffers := by
  intro s n side id on l p present multiple made waits taken gone notReady
  have presented : exec (.headPresent n side id) s = .next (s.headPresent n side id) := powered_next on
  have several : exec (.headMultiple n side) s = .next (s.headMultiple n side) := powered_next on
  have left : exec (.headGone n side) s = .next (s.headGone n side) := powered_next on
  have fresh (new : p.presence ≠ .card id) : s.headPresent n side id = (s.setLane n (present.offer side (.card id))).takeOffers n :=
    if_neg new
  have shown (new : p.presence ≠ .multiple) (quiet : p.reading = false) (still : p.writing = false) (apart : l.engine.side ≠ some side) :
      s.headMultiple n side = (s.setLane n (multiple.offer side .multiple)).takeOffers n := by
    have runs : l.runs side = false := by simpa [Lane.runs] using apart
    have choice : (p.reading || p.writing || l.runs side) = false := by rw [quiet, still, runs]; rfl
    refine (if_neg new).trans ((if_neg (by simpa using choice)).trans ?_)
    rw [updPort_eq, updLane_eq, lane_setLane_self, setLane_setLane]
  have waiting (q : Port) (c : Presence) : (l.setPort side q).offer side c = waits (l.setPort side q) c := by
    cases side <;> exact offer_waiting _ _ _
  have busy (q : Port) (c : Presence) (running : l.engine.phase ≠ .idle) :
      (s.setLane n ((l.setPort side q).offer side c)).takeOffers n = s.setLane n (waits (l.setPort side q) c) := by
    rw [takeOffers_of_running _ n (by simpa [setPort_engine] using running), waiting]
  have taking (q : Port) (c : Presence) (idle : l.engine.phase = .idle) (free : l.resetting = none) (empty : l.waiting = [])
      (ready : s.ready = true) :
      (s.setLane n ((l.setPort side q).offer side c)).takeOffers n = s.setLane n (taken (l.setPort side q) c c.identity) := by
    rw [takeOffers_of_fresh side c (by rw [setPort_engine]; exact idle) (by rw [setPort_resetting]; exact free)
      (by rw [setPort_waiting]; exact empty) ready, setPort_engine]
    rfl
  have refusing (q : Port) (c : Presence) (idle : l.engine.phase = .idle) (free : l.resetting = none) (empty : l.waiting = [])
      (unready : s.ready = false) (same : q.releases = p.releases) (holds : q.presence = c) :
      ∃ t, (s.setLane n ((l.setPort side q).offer side c)).takeOffers n = t ∧ { t with lanes := s.lanes } = s ∧
        (∀ m, m ≠ n → t.lane m = s.lane m) ∧ notReady (t.lane n) c := by
    refine ⟨_, takeOffers_of_unready side c (by rw [setPort_engine]; exact idle) (by rw [setPort_resetting]; exact free)
      (by rw [setPort_waiting]; exact empty) unready, ?_⟩
    obtain ⟨frame, others, releases, presence, rest, engine, gate, refusals⟩ := refusedOffer_parts (s := s) (n := n) side (p := q) empty
    exact ⟨frame, others, releases.trans (congrArg (· ++ [Release.stop]) same), presence.trans holds, rest, engine, gate, refusals⟩
  refine ⟨fun same => ?_, fun new running => ?_, fun new idle free empty ready => ?_, fun new idle free empty unready => ?_, fun same => ?_,
    fun new kept => ?_, fun new quiet still apart running => ?_, fun new quiet still none idle free empty ready => ?_,
    fun new quiet still none idle free empty unready => ?_, ?_⟩
  · rw [presented, State.headPresent, if_pos same]
  · rw [presented, fresh new, busy _ _ running]
  · rw [presented, fresh new, taking _ _ idle free empty ready]
    rfl
  · obtain ⟨t, is, parts⟩ := refusing (c := .card id) (q := { p with
      presence := .card id, gone := p.gone && !(l.engine.side == some side && l.engine.identity == some id) }) idle free empty unready rfl rfl
    exact ⟨t, by rw [presented, fresh new, ← is], parts⟩
  · rw [several, State.headMultiple, if_pos same]
  · have choice : (p.reading || p.writing || l.runs side) = true := by
      simpa [Lane.runs, or_assoc] using kept
    refine several.trans (congrArg Host.Outcome.next ((if_neg new).trans ((if_pos choice).trans ?_)))
    rw [updPort_eq, updLane_eq, lane_setLane_self, setLane_setLane, Lane.showAt, setPort_waiting]
  · rw [several, shown new quiet still apart, busy _ _ running]
  · rw [several, shown new quiet still (by rw [none]; simp), taking _ _ idle free empty ready]
    rfl
  · obtain ⟨t, is, parts⟩ := refusing (q := { p with presence := .multiple }) (c := .multiple) idle free empty unready rfl rfl
    exact ⟨t, by rw [several, shown new quiet still (by rw [none]; simp), ← is], parts⟩
  · rw [left, State.headGone]
    simp only [updLane_eq, withdraw_updPort]
    rfl

end Sys2Proof.Machine
end

section
/-! PROOF. The answers to a READ (R9, R24, R25) and the Card Check Unit (R1, R14 to R17, R202). -/

namespace Sys2Proof.Machine

/-! ### The check value (R16) -/

theorem chain_eq (key : List Byte) : ∀ (n : Nat) (bs : List Byte) (c : BitVec 64),
    chain key n bs c =
      (List.range n).foldl (fun c k => Config.blockTransform key (BitVec.ofNat 64 (fieldAt bs (8 * k) 8) ^^^ c)) c
  | 0, _, _ => rfl
  | n + 1, bs, c => by
    have shifted (k : Nat) : fieldAt (bs.drop 8) (8 * k) 8 = fieldAt bs (8 * (k + 1)) 8 := by
      unfold fieldAt slice
      rw [List.drop_drop, show 8 + 8 * k = 8 * (k + 1) by omega]
    rw [chain, chain_eq key n, List.range_succ_eq_map, List.foldl_cons, List.foldl_map]
    simp only [shifted]
    rfl

theorem lastInverted_eq {first : List Byte} (z : Byte) (long : first.length = 15) : lastInverted (first ++ [z]) = first ++ [~~~z] := by
  unfold lastInverted
  rw [List.take_left' long, List.drop_left' long]
  rfl

/-- The bytes before a block, the block and the bytes after it. -/
theorem block_at (bytes : List Byte) (k : Nat) : bytes.take (8 * k) ++ (bytes.drop (8 * k)).take 8 ++ bytes.drop (8 * k + 8) = bytes := by
  rw [List.append_assoc, ← List.drop_drop, List.take_append_drop, List.take_append_drop]

/-- A byte changed changes its block alone. -/
theorem set_in_block {bytes : List Byte} {i : Nat} (z : Byte) (inside : i < bytes.length) :
    bytes.set i z =
      bytes.take (8 * (i / 8)) ++ ((bytes.drop (8 * (i / 8))).take 8).set (i % 8) z ++ bytes.drop (8 * (i / 8) + 8) := by
  have before : (bytes.take (8 * (i / 8))).length = 8 * (i / 8) := by
    rw [List.length_take]
    omega
  have block : i % 8 < ((bytes.drop (8 * (i / 8))).take 8).length := by
    rw [List.length_take, List.length_drop]
    omega
  have place : i - 8 * (i / 8) = i % 8 := by omega
  conv_lhs => rw [← block_at bytes (i / 8), List.append_assoc]
  rw [List.set_append_right _ _ (by omega), before, place, List.set_append_left _ _ block, List.append_assoc]

theorem checkValue_changed_byte (key : List Byte) {bytes : List Byte} {i : Nat} {z : Byte} (long : bytes.length = 56) (inside : i < 56)
    (changed : bytes[i]? ≠ some z) : checkValue key (bytes.set i z) ≠ checkValue key bytes := by
  intro same
  have within : i < bytes.length := by omega
  have before : (bytes.take (8 * (i / 8))).length = 8 * (i / 8) := by
    rw [List.length_take]
    omega
  have block : ((bytes.drop (8 * (i / 8))).take 8).length = 8 := by
    rw [List.length_take, List.length_drop]
    omega
  rw [set_in_block z within] at same
  conv_rhs at same => rw [← block_at bytes (i / 8)]
  have kept := checkValue_changed_block key _ _ _ _ (i / 8) (by omega) before (by rw [List.length_set, block]) block same
  have unchanged : bytes.set i z = bytes := by rw [set_in_block z within, kept, block_at]
  refine changed ?_
  rw [← unchanged, List.getElem?_set_self within]

/-! ### The card's form and the key of a generation -/

theorem wellFormedCard_iff (m : List Byte) :
    wellFormedCard m = true ↔
      fieldAt m 0 1 = 1 ∧ fieldAt m 26 1 ≤ 1 ∧ fieldAt m 27 2 ≠ 65535 ∧ fieldAt m 38 2 ≠ 65535 ∧ fieldAt m 24 1 ≤ 16 ∧
      fieldAt m 25 1 ≤ 16 ∧ (fieldAt m 27 2 = 0 → fieldAt m 29 1 = 0 ∧ fieldAt m 34 1 = 0 ∧ fieldAt m 26 1 = 0) ∧
      (fieldAt m 27 2 ≠ 0 → 1 ≤ fieldAt m 29 1 ∧ fieldAt m 29 1 ≤ 16 ∧ 1 ≤ fieldAt m 34 1 ∧ fieldAt m 34 1 ≤ 4) := by
  have unfolded : wellFormedCard m = true ↔ fieldAt m 0 1 = 1 ∧ fieldAt m 26 1 ≤ 1 ∧ fieldAt m 27 2 ≠ 65535 ∧ fieldAt m 38 2 ≠ 65535 ∧
      (if fieldAt m 27 2 = 0 then fieldAt m 29 1 = 0 ∧ fieldAt m 34 1 = 0 ∧ fieldAt m 26 1 = 0
        else 1 ≤ fieldAt m 29 1 ∧ fieldAt m 29 1 ≤ 16 ∧ 1 ≤ fieldAt m 34 1 ∧ fieldAt m 34 1 ≤ 4) ∧
      fieldAt m 24 1 ≤ 16 ∧ fieldAt m 25 1 ≤ 16 := by
    unfold wellFormedCard cardFormat cardTripState cardOriginStation cardLastStation cardOriginZone cardLegs cardPassLow cardPassHigh
    split_ifs <;> simp [and_assoc]
  rw [unfolded]
  by_cases origin : fieldAt m 27 2 = 0
  · simp only [origin, if_true]
    tauto
  · simp only [origin, if_false]
    tauto

theorem keyFor_some {s : State} {g : Nat} {k : Key} (found : s.keyFor g = some k) : k.generation = g ∧ ∃ i : Fin 4, s.keys[i] = some k := by
  have generation := List.find?_some found
  have held := List.mem_of_find?_eq_some found
  rw [List.mem_filterMap] at held
  obtain ⟨x, member, rfl⟩ := held
  obtain ⟨i, at_⟩ := mem_vector.1 member
  exact ⟨by simpa using generation, i, at_⟩

theorem keyFor_none {s : State} {g : Nat} (missing : s.keyFor g = none) (i : Fin 4) (k : Key) (held : s.keys[i] = some k) :
    k.generation ≠ g := by
  unfold State.keyFor at missing
  rw [List.find?_eq_none] at missing
  have member : k ∈ s.keys.toList.filterMap id := List.mem_filterMap.2 ⟨some k, mem_vector.2 ⟨i, held⟩, rfl⟩
  simpa using missing k member

/-! ### DATA and LOST (R9, R24, R25) -/

/-- Settles O47: DATA by the first of checks 9 to 12 that fails; the check value from the laws of its chain. -/
theorem readsEndByTheirAnswer : Obligations.ReadsEndByTheirAnswer := by
  refine ⟨?_, fun m => ⟨wellFormedCard_iff m, rfl, rfl, rfl⟩, fun s g => ⟨fun k => keyFor_some, keyFor_none⟩, ?_, ?_, ?_, ?_⟩
  · intro s n side m on long l p e offered read image refused
    have answered : exec (.headData n side m) s = .next (s.headData n side m) := (if_pos long).trans (powered_next on)
    have lost : exec (.headLost n side) s = .next (s.answerRead n side (fun s => s.readFails n .readLost)) := powered_next on
    refine ⟨fun idle => ?_, fun reading => ⟨?_, ?_⟩⟩
    · rw [answered, lost, State.headData, State.answerRead, if_neg (by rw [idle]; simp), if_neg (by rw [idle]; simp)]
      exact ⟨rfl, rfl⟩
    · have ended : s.endExchange n side = read e := by
        cases side <;> rfl
      rw [lost, State.answerRead, if_pos reading, ended]
      rfl
    · have imaged : (s.endExchange n side).updEngine n (fun e => { e with phase := .checking, image := some m }) = read image := by
        rw [State.endExchange, updPort_eq, updEngine_eq, lane_setLane_self, setLane_setLane, setPort_engine]
      have engine : ((read image).lane n).engine = image := by rw [lane_setLane_self]
      have silent (r : RefusalCode) (quiet : ¬ (r = .identityMismatch ∨ r = .badCheckValue)) :
          (read image).refuseUnverified n r offered = refused (read { image with counterfeit := false }) r := by
        unfold State.refuseUnverified
        simp only [quiet, decide_false, Bool.false_eq_true, if_false, updEngine_eq, engine]
        rw [lane_setLane_self, setLane_setLane]
      have alarmed (r : RefusalCode) (loud : r = .identityMismatch ∨ r = .badCheckValue) :
          (read image).refuseUnverified n r offered =
            refused ((read { image with counterfeit := true }).raise .counterfeitAlarm (.lane n) (be 8 offered.toNat ++ [r.code])) r := by
        unfold State.refuseUnverified
        simp only [loud, decide_true, if_true, updEngine_eq, raise_lane, engine]
        refine congrArg (fun w => State.refuse w n r [.cardRecord]) ?_
        change ((read image).setLane n _).raise _ _ _ = _
        rw [lane_setLane_self, setLane_setLane]
        rfl
      have keys : (read image).keyFor = s.keyFor := rfl
      rw [answered, State.headData, if_pos reading]
      dsimp only
      rw [imaged, engine, State.cardRefusal, keys]
      by_cases formed : wellFormedCard m = false
      · rw [if_pos formed, if_pos formed]
        exact congrArg _ (silent _ (by decide))
      rw [if_neg formed, if_neg formed]
      by_cases other : cardIdentity m ≠ offered
      · rw [if_pos other, if_pos other]
        exact congrArg _ (alarmed _ (by decide))
      rw [if_neg other, if_neg other]
      cases s.keyFor (cardGeneration m) with
      | none => exact congrArg _ (silent _ (by decide))
      | some k =>
        dsimp only
        by_cases good : checkValue k.material (m.take 56) = cardCheck m
        · rw [if_pos good, if_pos good]
          rw [updEngine_eq, lane_setLane_self, setLane_setLane]
        · rw [if_neg good, if_neg good]
          exact congrArg _ (alarmed _ (by decide))
  · intro first z bytes long key block
    simp only [checkValue, key]
    rw [lastInverted_eq z long, chain_eq]
  · exact fun key => ⟨fun a b same => (Config.blockTransform key).injective same, (Config.blockTransform key).surjective⟩
  · intro key before x y after k hb hx hy ha differ same
    exact differ (checkValue_changed_block key before x y after k (by omega) hb hx hy same)
  · exact fun key bytes i z long inside changed => checkValue_changed_byte key long inside changed

end Sys2Proof.Machine
end

section
/-! PROOF. The answers to a WRITE (R10, R35 to R37, R39, R41). -/

namespace Sys2Proof.Machine

/-! ### The CARD record (R41) -/

theorem cardBody_of_refused {e : Engine} {m : List Byte} {id : Identity} {d : Direction} (image : e.image = some m)
    (identity : e.identity = some id) (direction : e.direction = some d) {r : RefusalCode} (refused : e.refusal = some r) (v : Nat) :
    e.cardBody v =
      { outcome := .refused, refusal := some r, identity := id, direction := d, product := fieldAt m 12 1
        counterRead := fieldAt m 13 3, counterWritten := none, charge := 0, balanceBefore := cardBalance m
        balanceAfter := cardBalance m, fareVersion := v, originStation := fieldAt m 27 2, legs := fieldAt m 34 1
        related := e.related } := by
  have outcome : e.outcome = .refused := by simp only [Engine.outcome, refused]
  simp only [Engine.cardBody, outcome, image, identity, direction, refused]
  rfl

theorem cardBody_of_reGranted {e : Engine} {m : List Byte} {id : Identity} {d : Direction} (image : e.image = some m)
    (identity : e.identity = some id) (direction : e.direction = some d) (passed : e.refusal = none) (unpaid : e.grantKind ≠ some .paid)
    (v : Nat) :
    e.cardBody v =
      { outcome := .reGranted, refusal := none, identity := id, direction := d, product := fieldAt m 12 1
        counterRead := fieldAt m 13 3, counterWritten := none, charge := 0, balanceBefore := cardBalance m
        balanceAfter := cardBalance m, fareVersion := v, originStation := fieldAt m 27 2, legs := fieldAt m 34 1
        related := e.related } := by
  have outcome : e.outcome = .reGranted := by
    unfold Engine.outcome
    rw [passed]
    cases kind : e.grantKind with
    | none => rfl
    | some k =>
      cases k with
      | paid => exact absurd kind unpaid
      | _ => rfl
  simp only [Engine.cardBody, outcome, image, identity, direction, passed]
  rfl

theorem cardBody_of_granted {e : Engine} {m x : List Byte} {id : Identity} {d : Direction} {c : Nat} (image : e.image = some m)
    (identity : e.identity = some id) (direction : e.direction = some d) (passed : e.refusal = none) (paid : e.grantKind = some .paid)
    (charge : e.charge = some c) (new : e.newImage = some x) (v : Nat) :
    e.cardBody v =
      { outcome := .granted, refusal := none, identity := id, direction := d, product := fieldAt m 12 1
        counterRead := fieldAt m 13 3, counterWritten := some (fieldAt m 13 3 + 1), charge := c, balanceBefore := cardBalance m
        balanceAfter := cardBalance x, fareVersion := v, originStation := fieldAt x 27 2, legs := fieldAt x 34 1
        related := e.related } := by
  have outcome : e.outcome = .granted := by simp only [Engine.outcome, passed, paid]
  simp only [Engine.cardBody, outcome, image, identity, direction, passed, charge, new]
  rfl

/-! ### The slot freed with the record, or opened (R37, R39, R97, R98) -/

theorem freeReserved_of_reserved {s : State} {i : SlotId} {f : SlotFields} (held : s.slot i = .reserved f) :
    s.freeReserved i = s.setSlot i .free := by
  simp only [State.freeReserved, held]

/-- FINISHING with something to do waits for it. -/
theorem finishing_of_duties (s : State) (n : LaneId) {ds : List Duty} (owed : ds ≠ []) :
    s.finishing n ds = s.updEngine n (fun e => { e with phase := .finishing, awaiting := .nothing, duties := ds }) := by
  unfold State.finishing
  rw [if_neg (by simpa using owed)]

theorem updEngine_updEngine (s : State) (n : LaneId) (f g : Engine → Engine) :
    (s.updEngine n f).updEngine n g = s.updEngine n (fun e => g (f e)) := by
  rw [updEngine_eq, updEngine_eq, updEngine_eq, lane_setLane_self, setLane_setLane]

theorem updEngine_setSlot (s : State) (n : LaneId) (f : Engine → Engine) (i : SlotId) (x : Slot) :
    (s.updEngine n f).setSlot i x = (s.setSlot i x).updEngine n f := rfl

theorem recordFreeing_eq {s w : State} {n : LaneId} {i : SlotId} {f : SlotFields} {v : Nat}
    (version : s.boundVersionOr (s.lane n).engine = (v, w)) (lane : w.lane n = s.lane n) (slot : (s.lane n).engine.slot = some i)
    (held : w.slot i = .reserved f) :
    let a := w.append (some n) (s.lane n).engine.recordFlags (.card ((s.lane n).engine.cardBody v))
    s.recordFreeing n = (a.1.setSlot i .free).updEngine n (fun e => { e with cardSeq := a.2, slot := none }) := by
  intro a
  have after : a.1.lane n = s.lane n := (append_lane _ _ _ _ n).trans lane
  have kept : a.1.slot i = .reserved f := by simpa [a, State.slot] using held
  have appended : s.appendCard n = a.1.updEngine n (fun e => { e with cardSeq := a.2 }) := by
    simp only [State.appendCard, version]
    rfl
  have slot' : ((a.1.updEngine n (fun e => { e with cardSeq := a.2 })).lane n).engine.slot = some i := by
    rw [updEngine_eq, lane_setLane_self, after]
    exact slot
  have freed := freeReserved_of_reserved (s := a.1.updEngine n (fun e => { e with cardSeq := a.2 })) (i := i) (f := f) kept
  simp only [State.recordFreeing, appended, slot', freed]
  rw [updEngine_setSlot, updEngine_updEngine]

/-- The fare version a bound transaction records is its table's. -/
theorem boundVersionOr_of_bound {s : State} {e : Engine} {v : Nat} (bound : e.boundVersion = some v) : s.boundVersionOr e = (v, s) := by
  simp only [State.boundVersionOr, bound]

theorem boundVersionOr_of_unbound {s : State} {e : Engine} (unbound : e.boundVersion = none) :
    s.boundVersionOr e = (Config.freeValue s.free % 65536, { s with free := s.free + 1 }) := by
  simp only [State.boundVersionOr, unbound]
  rfl

theorem openReserved_of_valid {s : State} {i : SlotId} {f : SlotFields} (held : s.slot i = .reserved f) (em : Bool)
    (valid : s.clock.valid = true) (bounded : s.clock.time + s.window ≤ Config.max32) :
    s.openReserved i em = (s.setSlot i (.opened f em (some s.clock.time) (some (s.clock.time + s.window)))).markTear i f := by
  simp only [State.openReserved, held, valid, State.expiryFrom, bounded]
  rfl

theorem openReserved_of_invalid {s : State} {i : SlotId} {f : SlotFields} (held : s.slot i = .reserved f) (em : Bool)
    (invalid : s.clock.valid = false) : s.openReserved i em = (s.setSlot i (.opened f em none none)).markTear i f := by
  simp only [State.openReserved, held, invalid]
  rfl

/-- LOST-DURING of a lane that holds a claim: the slot opened, and only the claim still to release (R37). -/
theorem lostDuring_eq {s : State} {n : LaneId} {i : SlotId} {id : Identity} (slot : (s.lane n).engine.slot = some i)
    (claim : s.claim n = some id) :
    s.lostDuring n = (s.openReserved i (s.lane n).engine.emergency).updEngine n (fun e => { e with
      slot := none, grantKind := none, charge := none, newImage := none, phase := .finishing, awaiting := .nothing
      duties := [.releaseClaim] }) := by
  have owed : s.claimDuty n = [.releaseClaim] := by simp [State.claimDuty, claim]
  rw [State.lostDuring, owed, finishing_of_duties _ _ (by simp)]
  simp only [State.tear, slot]
  exact updEngine_updEngine _ n _ _

/-- DONE with its slot reserved: the record, the slot freed, and the duties of a paid grant (R35, R39). -/
theorem writeDone_eq {s : State} {n : LaneId} {i : SlotId} {f : SlotFields} {v : Nat} (bound : (s.lane n).engine.boundVersion = some v)
    (slot : (s.lane n).engine.slot = some i) (held : s.slot i = .reserved f) :
    let e := (s.lane n).engine
    let a := s.append (some n) e.recordFlags (.card (e.cardBody v))
    s.writeDone n = (a.1.setSlot i .free).updEngine n (fun x => { x with
      cardSeq := a.2, slot := none, phase := .finishing, awaiting := .nothing
      duties := [.seenUpdate] ++ (if x.emergency then [] else [.push]) ++ s.claimDuty n }) := by
  intro e a
  have lane : (a.1.setSlot i .free).lane n = s.lane n := append_lane _ _ _ _ n
  rw [State.writeDone, recordFreeing_eq (boundVersionOr_of_bound bound) rfl slot held, finishing_of_duties _ _ (by simp), updEngine_updEngine, updEngine_eq,
    updEngine_eq, lane]

theorem markRefused_engine (s : State) (n : LaneId) (r : RefusalCode) :
    ((s.markRefused n r).lane n).engine =
      { (s.lane n).engine with refusal := some r, grantKind := none, charge := none, newImage := none } := by
  rw [State.markRefused, updEngine_eq, lane_setLane_self, State.countRefusal, updLane_eq, lane_setLane_self]

/-- The fare version v that a record of the lane's transaction holds, and the count k of free values then used (R41, log 16). -/
def State.RecordsVersion (s : State) (n : LaneId) (v k : Nat) : Prop :=
  ∀ (t : State) (x : Engine), t.free = s.free → x.boundVersion = (s.lane n).engine.boundVersion →
    t.boundVersionOr x = (v, { t with free := k })

theorem recordsVersion_of_bound {s : State} {n : LaneId} {v : Nat} (bound : (s.lane n).engine.boundVersion = some v) :
    s.RecordsVersion n v s.free := by
  intro t x free same
  rw [boundVersionOr_of_bound (same.trans bound), ← free]

theorem recordsVersion_of_unbound {s : State} {n : LaneId} (unbound : (s.lane n).engine.boundVersion = none) :
    s.RecordsVersion n (Config.freeValue s.free % 65536) (s.free + 1) := by
  intro t x free same
  rw [boundVersionOr_of_unbound (same.trans unbound), free]

/-- A refusal that frees a reserved slot: counted, recorded, the slot FREE (R36, R39, R166). -/
theorem refuseFreeing_eq {s : State} {n : LaneId} {i : SlotId} {f : SlotFields} {v k : Nat} {r : RefusalCode}
    (version : s.RecordsVersion n v k) (slot : (s.lane n).engine.slot = some i) (held : s.slot i = .reserved f) :
    let e := (s.lane n).engine
    let refused (e : Engine) : Engine := { e with refusal := some r, grantKind := none, charge := none, newImage := none }
    let a := ((State.countRefusal { s with free := k } n r).updEngine n refused).append (some n) e.recordFlags
      (.card ((refused e).cardBody v))
    s.refuseFreeing n r = (a.1.setSlot i .free).updEngine n (fun e => { e with
      cardSeq := a.2, slot := none, phase := .finishing, awaiting := .nothing, duties := [.seenUpdate] ++ s.claimDuty n }) := by
  intro e refused a
  have marked := markRefused_engine s n r
  have freed := recordFreeing_eq (s := s.markRefused n r) (n := n) (version _ _ rfl (by rw [marked])) rfl (by rw [marked]; exact slot)
    (show (s.markRefused n r).slot i = .reserved f from held)
  rw [marked] at freed
  rw [State.refuseFreeing, freed, finishing_of_duties _ _ (by simp), updEngine_updEngine]
  rfl

/-- Settles O48: each answer ends the exchange, and what follows it is the lemma of that answer. -/
theorem writesEndByTheirAnswer : Obligations.WritesEndByTheirAnswer := by
  refine ⟨?_, ?_⟩
  · intro s n side on l p e free claimed lost
    have done : exec (.headDone n side) s = .next (s.answerWrite n side (fun s => s.writeDone n)) := powered_next on
    have before : exec (.headLostBefore n side) s = .next (s.answerWrite n side (fun s => s.lostBefore n)) := powered_next on
    have during : exec (.headLostDuring n side) s = .next (s.answerWrite n side (fun s => s.lostDuring n)) := powered_next on
    have ended (f : State → State) (writing : p.writing = true) : s.answerWrite n side f = f free := if_pos writing
    have engine : (free.lane n).engine = e := by rw [lane_setLane_self, setPort_engine]
    refine ⟨fun idle => ?_, fun i f v writing slot held bound => ?_, fun i f writing slot held unbound => ?_⟩
    · have ignored (f : State → State) : s.answerWrite n side f = s := if_neg (by rw [show (s.lane n |>.port side).writing = false from idle]; simp)
      rw [done, before, during, ignored, ignored, ignored]
      exact ⟨rfl, rfl, rfl⟩
    · intro a
      rw [done, before, during, ended _ writing, ended _ writing, ended _ writing]
      refine ⟨?_, ?_, fun id claim valid bounded => ?_, fun id claim invalid => ?_⟩
      · have written := writeDone_eq (s := free) (i := i) (f := f) (v := v) (by rw [engine]; exact bound) (by rw [engine]; exact slot) held
        rw [engine] at written
        exact congrArg _ written
      · have removed := refuseFreeing_eq (s := free) (n := n) (i := i) (f := f) (r := .cardRemoved)
          (recordsVersion_of_bound (by rw [engine]; exact bound)) (by rw [engine]; exact slot) held
        rw [engine] at removed
        exact congrArg _ removed
      · have torn := lostDuring_eq (s := free) (i := i) (id := id) (by rw [engine]; exact slot) claim
        rw [engine, openReserved_of_valid (s := free) held _ valid bounded] at torn
        exact congrArg _ torn
      · have torn := lostDuring_eq (s := free) (i := i) (id := id) (by rw [engine]; exact slot) claim
        rw [engine, openReserved_of_invalid (s := free) held _ invalid] at torn
        exact congrArg _ torn
    · refine ⟨Config.freeValue s.free % 65536, Nat.mod_lt _ (by decide), ?_⟩
      rw [before, ended _ writing]
      have removed := refuseFreeing_eq (s := free) (n := n) (i := i) (f := f) (r := .cardRemoved)
        (recordsVersion_of_unbound (by rw [engine]; exact unbound)) (by rw [engine]; exact slot) held
      rw [engine] at removed
      exact congrArg _ removed
  · intro e m id d v image identity direction body
    refine ⟨fun r refused => ?_, fun passed unpaid => ?_, fun c x passed paid charge new => ?_, rfl⟩
    · rw [cardBody_of_refused image identity direction refused, ← refused]
    · rw [cardBody_of_reGranted image identity direction passed unpaid, ← passed]
    · rw [cardBody_of_granted image identity direction passed paid charge new, ← passed]

end Sys2Proof.Machine
end

section
/-! PROOF. Admission and screening of a tap (R21, R22, R26 to R28, R72, R143, R160). -/

namespace Sys2Proof.Machine

theorem waits_iff (s : State) (n : LaneId) (a : Awaiting) : s.waits n a = true ↔ (s.lane n).engine.awaiting = a := by
  simp [State.waits]

/-! ### Admission (R21, R22) -/

theorem admits_iff (m : DirMode) (side : Side) : m.admits side = false ↔ (m = .entry ∧ side = .p) ∨ (m = .exit ∧ side = .s) := by
  cases m <;> cases side <;> simp [DirMode.admits]

theorem laneClosed_iff (l : Lane) (side : Side) :
    (l.config.service = false ∨ l.gate.shut = true ∨ l.gate.mode.admits side = false ∨ (l.port side).state ≠ .ready) ↔
      l.config.service = false ∨ l.gate.state = .fault ∨ l.gate.state = .outOfService ∨
      (l.gate.mode = .entry ∧ side = .p) ∨ (l.gate.mode = .exit ∧ side = .s) ∨ (l.port side).state ≠ .ready := by
  rw [shut_iff, admits_iff]
  tauto

theorem gateBehind_iff (l : Lane) : l.gateBehind = true ↔ l.engine.lineTaken = true ∧ l.engine.lineIn.length < l.gate.lineIn.length := by
  simp [Lane.gateBehind]

theorem requestAdmission_of_refusal {s : State} {n : LaneId} {side : Side} {r : RefusalCode} (asked : (s.lane n).engine.awaiting = .admission)
    (from_ : (s.lane n).engine.side = some side) (refuses : (s.lane n).admissionRefusal side = some r) :
    s.requestAdmission n = s.refuse n r [] := by
  rw [State.requestAdmission, if_pos ((waits_iff s n _).2 asked)]
  simp only [from_, refuses]

theorem requestAdmission_of_pass {s : State} {n : LaneId} {side : Side} (asked : (s.lane n).engine.awaiting = .admission)
    (from_ : (s.lane n).engine.side = some side) (passes : (s.lane n).admissionRefusal side = none) :
    s.requestAdmission n =
      if (s.lane n).gateBehind then (s.setLane n ((s.lane n).admitted side)).refuse n .emergency []
      else s.setLane n { (s.lane n).admitted side with engine := { (s.lane n).engine with awaiting := .journal } } := by
  rw [State.requestAdmission, if_pos ((waits_iff s n _).2 asked)]
  split
  · next x is =>
    obtain rfl : x = side := Option.some.inj (is.symm.trans from_)
    rw [passes]
    simp only [updLane_eq, updEngine_eq, lane_setLane_self, setLane_setLane]
    rfl
  · next none => exact absurd (none.symm.trans from_) (by simp)

/-- What an admitted transaction is bound to (R22). -/
def State.bindings (s : State) (n : LaneId) (side : Side) : Engine :=
  { (s.lane n).engine with
    direction := some (sideDirection side), admissionTime := some s.clock.time
    boundVersion := s.fare.active.map (·.version), boundLevel := some (s.lane n).config.level }

section Journal
variable {s : State} {n : LaneId} {side : Side}

/-- Check 6 passed: the bindings, and the READ of the card offered. -/
theorem askJournal_of_card (asked : (s.lane n).engine.awaiting = .journal) (from_ : (s.lane n).engine.side = some side)
    (admits : s.journal.admits = true) {id : Identity} (named : (s.lane n).engine.identity = some id) :
    s.askJournal n = (s.setLane n { s.lane n with engine := s.bindings n side }).askRead n side id := by
  rw [State.askJournal, if_pos ((waits_iff s n _).2 asked), if_pos admits]
  split
  · next x is =>
    obtain rfl : x = side := Option.some.inj (is.symm.trans from_)
    have kept : (((s.setLane n { s.lane n with engine := s.bindings n x }).lane n).engine).identity = some id := by
      rw [lane_setLane_self]
      exact named
    change (match (((s.setLane n { s.lane n with engine := s.bindings n x }).lane n).engine).identity with
      | some id => _
      | none => _) = _
    rw [kept]
    rfl
  · next none => exact absurd (none.symm.trans from_) (by simp)

/-- Check 7: more cards than one at the reader. -/
theorem askJournal_of_several (asked : (s.lane n).engine.awaiting = .journal) (from_ : (s.lane n).engine.side = some side)
    (admits : s.journal.admits = true) (unnamed : (s.lane n).engine.identity = none) :
    s.askJournal n = (s.setLane n { s.lane n with engine := s.bindings n side }).refuse n .twoCards [] := by
  rw [State.askJournal, if_pos ((waits_iff s n _).2 asked), if_pos admits]
  split
  · next x is =>
    obtain rfl : x = side := Option.some.inj (is.symm.trans from_)
    have kept : (((s.setLane n { s.lane n with engine := s.bindings n x }).lane n).engine).identity = none := by
      rw [lane_setLane_self]
      exact unnamed
    change (match (((s.setLane n { s.lane n with engine := s.bindings n x }).lane n).engine).identity with
      | some id => _
      | none => _) = _
    rw [kept]
    rfl
  · next none => exact absurd (none.symm.trans from_) (by simp)

end Journal

/-- A READ asked of a port (R8, R9, R24). -/
theorem askRead_eq (s : State) (n : LaneId) (side : Side) (id : Identity) :
    let l := s.lane n
    let p := l.port side
    let asked : Port := { p with gone := false, dropped := false }
    s.askRead n side id =
      if p.state ≠ .ready then (s.setLane n (l.setPort side asked)).refuse n .readFault []
      else if p.presence ≠ .card id then (s.setLane n (l.setPort side asked)).refuse n .readLost []
      else s.setLane n { l.setPort side { asked with exchange := some ⟨.read, 250⟩ } with
        engine := { l.engine with phase := .reading, awaiting := .nothing } } := by
  intro l p asked
  simp only [State.askRead, updPort_eq, updEngine_eq, lane_setLane_self, setLane_setLane, port_setPort, setPort_setPort, setPort_engine]
  rfl

theorem askRead_with (s : State) (n : LaneId) (side : Side) (id : Identity) (b : Engine) :
    let l := s.lane n
    let p := l.port side
    let asked : Port := { p with gone := false, dropped := false }
    (s.setLane n { l with engine := b }).askRead n side id =
      if p.state ≠ .ready then (s.setLane n { l.setPort side asked with engine := b }).refuse n .readFault []
      else if p.presence ≠ .card id then (s.setLane n { l.setPort side asked with engine := b }).refuse n .readLost []
      else s.setLane n { l.setPort side { asked with exchange := some ⟨.read, 250⟩ } with
        engine := { b with phase := .reading, awaiting := .nothing } } := by
  intro l p asked
  rw [askRead_eq]
  simp only [lane_setLane_self, setLane_setLane]
  cases side <;> rfl

/-- Settles O49: the checks in order, each with what the ones before it leave. -/
theorem admissionMakesItsChecks : Obligations.AdmissionMakesItsChecks := by
  intro s n side on from_ l p lock closed admitted bound asked
  have requested : exec (.admissionRequest n) s = .next (s.requestAdmission n) := powered_next on
  have checked : exec (.journalAdmissionCheck n) s = .next (s.askJournal n) := powered_next on
  have lockEq : sideLock side = lock := by cases side <;> rfl
  refine ⟨fun idle => ?_, fun asks => ?_, fun idle => ?_, fun asks => ?_⟩
  · rw [requested, State.requestAdmission, if_neg (mt (waits_iff s n _).1 idle)]
  · have first : (l.config.service = false ∨ l.gate.shut = true ∨ l.gate.mode.admits side = false ∨ (l.port side).state ≠ .ready) ↔ closed :=
      laneClosed_iff l side
    have refused (r : RefusalCode) (refuses : l.admissionRefusal side = some r) : s.requestAdmission n = s.refuse n r [] :=
      requestAdmission_of_refusal asks from_ refuses
    rw [requested]
    refine congrArg _ ?_
    by_cases shut : closed
    · rw [if_pos shut, refused .laneClosed (if_pos (first.2 shut))]
    rw [if_neg shut]
    have past2 : l.admissionRefusal side = if l.gate.emergency then some .emergency
        else if l.gate.lock ≠ .free ∧ l.gate.lock ≠ sideLock side then some .oppositeFlow
        else if 2 ≤ l.gate.queue.length then some .laneFull else none := if_neg (mt first.1 shut)
    by_cases emergency : l.gate.emergency = true
    · rw [if_pos emergency, refused .emergency (past2.trans (if_pos emergency))]
    rw [if_neg emergency]
    by_cases opposite : l.gate.lock ≠ .free ∧ l.gate.lock ≠ lock
    · rw [if_pos opposite, refused .oppositeFlow (past2.trans ((if_neg emergency).trans (if_pos (by rw [lockEq]; exact opposite))))]
    rw [if_neg opposite]
    have past4 : l.admissionRefusal side = if 2 ≤ l.gate.queue.length then some .laneFull else none :=
      past2.trans ((if_neg emergency).trans (if_neg (by rw [lockEq]; exact opposite)))
    by_cases full : 2 ≤ l.gate.queue.length
    · rw [if_pos full, refused .laneFull (past4.trans (if_pos full))]
    rw [if_neg full, requestAdmission_of_pass asks from_ (past4.trans (if_neg full)), Lane.admitted, lockEq]
    simp only [gateBehind_iff]
    rfl
  · rw [checked, State.askJournal, if_neg (mt (waits_iff s n _).1 idle)]
  · have full : s.journal.admits = true ↔ ¬ (s.journal.limit ≤ s.journal.count ∨ 4294967280 ≤ s.journal.next) := by
      rw [Journal.admits, Bool.and_eq_true, decide_eq_true_iff, decide_eq_true_iff, not_or, not_le, not_le, Config.lastSequences]
    rw [checked]
    refine congrArg _ ?_
    by_cases admits : s.journal.limit ≤ s.journal.count ∨ 4294967280 ≤ s.journal.next
    · rw [if_pos admits, State.askJournal, if_pos ((waits_iff s n _).2 asks), if_neg (mt full.1 (not_not.2 admits))]
    · have bindings : s.bindings n side = bound := by cases side <;> rfl
      rw [if_neg admits]
      split
      · next unnamed => rw [askJournal_of_several asks from_ (full.2 admits) unnamed, bindings]
      · next id named =>
        rw [askJournal_of_card asks from_ (full.2 admits) named, bindings, askRead_with]

/-! ### Screening (R26 to R28, R72) -/

theorem holder_isSome (s : State) (n : LaneId) (id : Identity) : (s.holder n id).isSome = true ↔ ∃ m, m ≠ n ∧ s.claim m = some id := by
  simp [State.holder, laneIds_eq]

/-- A step of FINISHING that is the engine's next (R39). -/
theorem duty_of_owed {s : State} {n : LaneId} {d : Duty} {rest : List Duty} (owed : (s.lane n).engine.duties = d :: rest) (f : State → State) :
    s.duty n d f = (f s).dutyDone n := by
  simp [State.duty, State.owes, owed]

theorem duty_of_not_owed {s : State} {n : LaneId} {d : Duty} (unowed : (s.lane n).engine.duties.head? ≠ some d) (f : State → State) :
    s.duty n d f = s := by
  simp [State.duty, State.owes, unowed]

/-- The first duty done (log 4). -/
theorem dutyDone_eq {s : State} {n : LaneId} {d : Duty} {rest : List Duty} (owed : (s.lane n).engine.duties = d :: rest) :
    let w := s.updEngine n (fun e => { e with duties := rest })
    s.dutyDone n = if rest = [] then w.endTransaction n else w := by
  simp only [State.dutyDone, owed, List.drop_one, List.tail_cons, List.isEmpty_iff]

/-- Settles O50. -/
theorem screeningAsksListAndClaims : Obligations.ScreeningAsksListAndClaims := by
  intro s n id on named e active onLocal claimed elsewhere slotOpen settled
  have lookedUp : exec (.hotlistLookup n) s = .next (s.lookUpHotList n) := powered_next on
  have requested : exec (.claimRequest n) s = .next (s.requestClaim n) := powered_next on
  have released : exec (.claimRelease n) s = .next (s.duty n .releaseClaim (fun s => s.setClaim n none)) := powered_next on
  have identity : (s.lane n).engine.identity.getD 0 = id := by rw [named]; rfl
  have listed : (s.hot.active.holds id || s.hot.localHolds id) = true ↔ active ∨ onLocal := by
    rw [Bool.or_eq_true, holds_iff, localHolds_iff]
  have held : (s.holder n id).isSome = true ↔ elsewhere := holder_isSome s n id
  have torn : (s.openSlot id).isSome = true ↔ slotOpen := openSlot_isSome s id
  have given (asks : e.awaiting = .claim) (alone : ¬ elsewhere) :
      s.requestClaim n = settled (if (s.openSlot id).isSome then .resolving else .checking) := by
    rw [State.requestClaim, if_pos ((waits_iff s n _).2 asks), identity]
    exact if_neg (mt held.1 alone)
  refine ⟨fun asks found => ?_, fun asks inactive offList => ?_, fun asks taken => ?_, fun asks alone isOpen => ?_,
    fun asks alone shut => ?_, fun rest owed => ?_, fun idle => ?_, fun idle => ?_, fun unowed => ?_⟩
  · refine ⟨if s.hot.active.holds id then 0 else 1, fun yes => if_pos ((holds_iff _ _).2 yes), fun no => if_neg (mt (holds_iff _ _).1 no), ?_⟩
    rw [lookedUp, State.lookUpHotList, if_pos ((waits_iff s n _).2 asks), identity]
    exact congrArg _ (if_pos (listed.2 found))
  · have absent : ¬ (active ∨ onLocal) := not_or.2 ⟨inactive, offList⟩
    rw [lookedUp, State.lookUpHotList, if_pos ((waits_iff s n _).2 asks), identity]
    exact congrArg _ (if_neg (mt listed.1 absent))
  · rw [requested, State.requestClaim, if_pos ((waits_iff s n _).2 asks), identity]
    exact congrArg _ (if_pos (held.2 taken))
  · rw [requested, given asks alone, if_pos (torn.2 isOpen)]
  · rw [requested, given asks alone, if_neg (mt torn.1 shut)]
  · rw [released, duty_of_owed owed, dutyDone_eq (s := s.setClaim n none) owed]
  · rw [lookedUp, State.lookUpHotList, if_neg (mt (waits_iff s n _).1 idle)]
  · rw [requested, State.requestClaim, if_neg (mt (waits_iff s n _).1 idle)]
  · rw [released, duty_of_not_owed unowed]

end Sys2Proof.Machine
end

section
/-! PROOF. Check 24 and the start of the write (R8, R10, R33, R34, R97). -/

namespace Sys2Proof.Machine

theorem freeSlot_eq_some {s : State} {i : SlotId} : s.freeSlot = some i ↔ s.slot i = .free ∧ ∀ j, j < i → s.slot j ≠ .free := by
  rw [State.freeSlot, slotIds_eq, find_first]
  simp

theorem freeSlot_eq_none {s : State} : s.freeSlot = none ↔ ∀ i, s.slot i ≠ .free := by
  rw [State.freeSlot, slotIds_eq, find_none]
  simp

theorem updEngine_engine (s : State) (n : LaneId) (f : Engine → Engine) : ((s.updEngine n f).lane n).engine = f (s.lane n).engine := by
  rw [updEngine_eq, lane_setLane_self]

theorem answersItself_iff (p : Port) : p.answersItself = true ↔ p.state ≠ .ready ∨ p.gone = true ∨ p.dropped = true := by
  simp [Port.answersItself, or_assoc]

/-- The lane's transaction in WRITING at a slot, with the image it would write. -/
def State.writingAt (s : State) (n : LaneId) (i : SlotId) (f : SlotFields) (image : Option Image) : State :=
  (s.setSlot i (.reserved f)).updEngine n (fun e => { e with phase := .writing, awaiting := .nothing, slot := some i, newImage := image })

/-- An append as what it does to any state of the same journal, clock and inbox. -/
theorem append_uniform (s : State) (lane : Option LaneId) (flags : RecordFlags) (b : RecordBody) :
    ∃ (j : Journal) (notices : Notices) (q : Option Nat), ∀ t : State, t.journal = s.journal → t.clock = s.clock → t.notices = s.notices →
      t.append lane flags b = ({ t with journal := j, notices := notices }, q) :=
  ⟨_, _, _, fun _ journal clock notices => append_with journal clock notices lane flags b⟩

/-- A reservation given back in the step that makes it leaves the Recovery Table as it was. -/
theorem refuseFreeing_of_writingAt {s : State} {n : LaneId} {i : SlotId} {v k : Nat} (version : s.RecordsVersion n v k)
    (free : s.slot i = .free) (f : SlotFields) (image : Option Image) (r : RefusalCode) :
    let e := (s.lane n).engine
    let refused (e : Engine) : Engine := { e with refusal := some r, grantKind := none, charge := none, newImage := none }
    let a := ((State.countRefusal { s with free := k } n r).updEngine n refused).append (some n) e.recordFlags
      (.card ((refused e).cardBody v))
    (s.writingAt n i f image).refuseFreeing n r = a.1.updEngine n (fun e => { e with
      cardSeq := a.2, slot := none, phase := .finishing, awaiting := .nothing, duties := [.seenUpdate] ++ s.claimDuty n }) := by
  intro e refused a
  have engine := updEngine_engine (s.setSlot i (.reserved f)) n
    (fun e => { e with phase := .writing, awaiting := .nothing, slot := some i, newImage := image })
  have table : (s.recovery.set i.val (.reserved f)).set i.val .free = s.recovery := by
    have := congrArg State.recovery (setSlot_slot s i)
    rw [free] at this
    simpa [State.setSlot] using this
  rw [refuseFreeing_eq (s := s.writingAt n i f image) (n := n) (i := i) (f := f)
    (fun t x same bound => version t x same (bound.trans (by rw [State.writingAt, engine]; rfl)))
    (by rw [State.writingAt, engine]) (slot_setSlot_self s i (.reserved f))]
  have flags : ((s.writingAt n i f image).lane n).engine.recordFlags = e.recordFlags := by
    rw [State.writingAt, engine]
    rfl
  have body : (refused ((s.writingAt n i f image).lane n).engine).cardBody v = (refused e).cardBody v := by
    rw [State.writingAt, engine]
    rfl
  obtain ⟨j, notices, q, appended⟩ := append_uniform s (some n) e.recordFlags (.card ((refused e).cardBody v))
  dsimp only
  rw [flags, body]
  simp only [a]
  rw [appended, appended]
  rotate_left
  iterate 6 rfl
  simp [State.updEngine, State.updLane, State.countRefusal, State.setLane, State.setSlot, State.lane, State.writingAt, table, refused,
    State.claimDuty, State.claim]
  rfl

/-! ### The start of the write -/

section Start
variable {t : State} {n : LaneId} {i : SlotId} {side : Side}

theorem startWrite_of_no_key (missing : t.keyFor (cardGeneration ((t.lane n).engine.image.getD [])) = none) :
    t.startWrite n i = t.refuseFreeing n .unknownKey := by
  simp only [State.startWrite, missing]

theorem startWrite_of_key {k : Key} (key : t.keyFor (cardGeneration ((t.lane n).engine.image.getD [])) = some k)
    (from_ : (t.lane n).engine.side = some side) :
    let image := withCheck k ((t.lane n).engine.newImage.getD [])
    let u := t.updEngine n (fun e => { e with newImage := some image })
    let w := u.setSlot i (.reserved ((u.lane n).engine.slotFields n))
    t.startWrite n i = if ((t.lane n).port side).answersItself then w.lostBefore n
      else w.updPort n side (fun p => { p with exchange := some ⟨.write image, 250⟩ }) := by
  intro image u w
  have port : (w.lane n).port side = (t.lane n).port side := by
    have lane : w.lane n = _ := lane_setLane_self t n _
    rw [lane]
    cases side <;> rfl
  unfold State.startWrite
  dsimp only
  rw [key]
  dsimp only
  split
  · next x is =>
    obtain rfl : x = side := Option.some.inj (is.symm.trans from_)
    rw [← port]
    rfl
  · next none => exact absurd (none.symm.trans from_) (by simp)

end Start

/-- The write of a card whose key is stored, from the state that made the reservation (R33, R34). -/
theorem startWrite_of_reserved {s : State} {n : LaneId} {i : SlotId} {side : Side} {id : Identity} {m bytes : List Byte} {d : Direction}
    {k : Key} (from_ : (s.lane n).engine.side = some side) (named : (s.lane n).engine.identity = some id)
    (imaged : (s.lane n).engine.image = some m) (way : (s.lane n).engine.direction = some d)
    (renewed : (s.lane n).engine.newImage = some bytes) (key : s.keyFor (cardGeneration m) = some k) (f : SlotFields) :
    let image := withCheck k bytes
    let w := s.writingAt n i ⟨id, n, d, cardCounter m, cardCounter m + 1, (s.lane n).engine.charge.getD 0, image⟩ (some image)
    (s.writingAt n i f (s.lane n).engine.newImage).startWrite n i =
      if ((s.lane n).port side).answersItself then w.lostBefore n
      else w.updPort n side (fun p => { p with exchange := some ⟨.write image, 250⟩ }) := by
  intro image w
  have lane : (s.writingAt n i f (s.lane n).engine.newImage).lane n = { s.lane n with engine := { (s.lane n).engine with
      phase := .writing, awaiting := .nothing, slot := some i } } := lane_setLane_self _ _ _
  have port : ((s.writingAt n i f (s.lane n).engine.newImage).lane n).port side = (s.lane n).port side := by
    rw [lane]
    cases side <;> rfl
  have image_eq : withCheck k (((s.writingAt n i f (s.lane n).engine.newImage).lane n).engine.newImage.getD []) = image := by
    rw [lane]
    exact congrArg (fun x : Option Image => withCheck k (x.getD [])) renewed
  have started := startWrite_of_key (t := s.writingAt n i f (s.lane n).engine.newImage) (i := i) (k := k)
    (by rw [lane, show ({ s.lane n with engine := { (s.lane n).engine with
          phase := .writing, awaiting := .nothing, slot := some i } } : Lane).engine.image = some m from imaged]; exact key)
    (by rw [lane]; exact from_)
  rw [image_eq] at started
  have written : ((s.writingAt n i f (s.lane n).engine.newImage).updEngine n (fun e => { e with newImage := some image })) =
      s.writingAt n i f (some image) := updEngine_updEngine _ n _ _
  have fields : ((s.writingAt n i f (some image)).lane n).engine.slotFields n =
      ⟨id, n, d, cardCounter m, cardCounter m + 1, (s.lane n).engine.charge.getD 0, image⟩ := by
    rw [State.writingAt, updEngine_engine]
    change (⟨(s.lane n).engine.identity.getD 0, n, (s.lane n).engine.direction.getD .entry, cardCounter ((s.lane n).engine.image.getD []),
      cardCounter ((s.lane n).engine.image.getD []) + 1, (s.lane n).engine.charge.getD 0, image⟩ : SlotFields) = _
    rw [named, way, imaged]
    rfl
  have again (f' : SlotFields) : (s.writingAt n i f (some image)).setSlot i (.reserved f') = s.writingAt n i f' (some image) := by
    rw [State.writingAt, updEngine_setSlot, setSlot_setSlot]
    rfl
  dsimp only at started
  rw [written, fields, again, port] at started
  exact started

/-- Settles O52: a reservation is given back in the step that made it, or the write is at the port. -/
theorem reservationStartsTheWrite : Obligations.ReservationStartsTheWrite := by
  refine ⟨?_, fun k bytes => rfl⟩
  intro s n side id m bytes d on from_ named imaged way renewed l e shut freed endsFreed
  have requested : exec (.reservationRequest n) s = .next (s.requestReservation n) := powered_next on
  have closed : (s.lane n).gate.shut = true ↔ shut := by rw [shut_iff, or_comm]
  have asked (asks : e.awaiting = .reservation) (isOpen : ¬ shut) : s.requestReservation n = match s.freeSlot with
      | none => s.refuseCard n .recoveryFull
      | some i => ((s.setSlot i (.reserved (e.slotFields n))).updEngine n
          (fun e => { e with phase := .writing, awaiting := .nothing, slot := some i })).startWrite n i := by
    rw [State.requestReservation, if_pos ((waits_iff s n _).2 asks), if_neg (mt closed.1 isOpen)] <;> rfl
  have endsFreed_of (r : RefusalCode) (ends : ∀ v k, s.RecordsVersion n v k →
      exec (.reservationRequest n) s = .next (freed { s with free := k } r v)) : endsFreed r :=
    ⟨fun v bound => ends v s.free (recordsVersion_of_bound bound),
      fun unbound => ⟨_, Nat.mod_lt _ (by decide), ends _ _ (recordsVersion_of_unbound unbound)⟩⟩
  refine ⟨fun idle => ?_, fun asks isShut => ?_, fun asks isOpen full => ?_, fun i asks isOpen free first => ⟨fun missing => ?_, ?_⟩⟩
  · rw [requested, State.requestReservation, if_neg (mt (waits_iff s n _).1 idle)]
  · rw [requested, State.requestReservation, if_pos ((waits_iff s n _).2 asks), if_pos (closed.2 isShut)]
  · rw [requested, asked asks isOpen, freeSlot_eq_none.2 full]
  · refine endsFreed_of .unknownKey fun v k version => ?_
    rw [requested, asked asks isOpen, freeSlot_eq_some.2 ⟨free, first⟩]
    refine congrArg _ ((startWrite_of_no_key ?_).trans (refuseFreeing_of_writingAt version free (e.slotFields n) e.newImage .unknownKey))
    rw [updEngine_engine]
    exact (congrArg (fun x : Option Image => s.keyFor (cardGeneration (x.getD []))) imaged).trans missing
  · intro k key image w answersItself
    have self : ((s.lane n).port side).answersItself = true ↔ answersItself := answersItself_iff _
    have started := startWrite_of_reserved (i := i) from_ named imaged way renewed key (e.slotFields n)
    refine ⟨fun itself => ?_, fun sent => ?_⟩
    · refine endsFreed_of .cardRemoved fun v k' version => ?_
      rw [requested, asked asks isOpen, freeSlot_eq_some.2 ⟨free, first⟩]
      exact congrArg _ (started.trans ((if_pos (self.2 itself)).trans (refuseFreeing_of_writingAt version free _ (some image) .cardRemoved)))
    · rw [requested, asked asks isOpen, freeSlot_eq_some.2 ⟨free, first⟩]
      exact congrArg _ (started.trans (if_neg (mt self.1 sent)))

end Sys2Proof.Machine
end

section
/-! PROOF. What a change of readiness and a released binding leave of a lane, and the end of a transaction (R6, R39, R70, R192, R199). -/

namespace Sys2Proof.Machine

/-! ### A lane beside its gate -/

/-- All of a lane but its gate and its counters. -/
def Lane.besideGate (l : Lane) : LaneConfig × Vector Nat 30 × Engine × Port × Port × List Offer × Monitor × LaneInputs × Option ResetKind :=
  (l.config, l.refusals, l.engine, l.portS, l.portP, l.waiting, l.monitor, l.inputs, l.resetting)

theorem settle_besideGate (l : Lane) : l.settle.besideGate = l.besideGate := by
  rw [settle_eq]
  rfl

theorem settleService_besideGate (s : State) (n k : LaneId) : ((s.settleService n).lane k).besideGate = (s.lane k).besideGate := by
  by_cases same : k = n
  · subst same
    unfold State.settleService
    dsimp only
    split_ifs
    · rfl
    · rw [State.enterOutOfService, settleGate_eq, lane_setLane_self, settle_besideGate, updGate_eq, lane_setLane_self, forfeit_lane,
        updGate_eq, lane_setLane_self]
      rfl
    · rw [State.leaveOutOfService, settleGate_eq, lane_setLane_self, settle_besideGate, updGate_eq, lane_setLane_self]
      rfl
    · rfl
  · rw [settleService_lane_ne _ same]

theorem settleReadiness_besideGate (s : State) (before : Bool) (k : LaneId) :
    ((s.settleReadiness before).lane k).besideGate = (s.lane k).besideGate := by
  unfold State.settleReadiness
  split_ifs
  · rfl
  · exact eachLane_keeps (fun t => (t.lane k).besideGate) _ (fun n t => settleService_besideGate t n k) s

/-! ### Activation and the released binding (R69, R70, R199) -/

theorem activationDue_of_none {s : State} (idle : s.fare.pending = .none) : s.activationDue = none := by
  simp only [State.activationDue, idle]

theorem considerActivation_of_none {s : State} (idle : s.fare.pending = .none) : s.considerActivation = s := by
  unfold State.considerActivation
  rw [activationDue_of_none idle]

theorem considerActivation_besideGate (s : State) (k : LaneId) : (s.considerActivation.lane k).besideGate = (s.lane k).besideGate := by
  unfold State.considerActivation
  split
  · rw [settleReadiness_besideGate, raise_lane, State.record, append_lane]
    rfl
  · rfl

theorem clearFare_besideGate (s : State) (k : LaneId) : (s.clearFare.lane k).besideGate = (s.lane k).besideGate := by
  rw [State.clearFare, settleReadiness_besideGate]
  rfl

theorem releaseBinding_besideGate (s : State) (k : LaneId) : (s.releaseBinding.lane k).besideGate = (s.lane k).besideGate := by
  unfold State.releaseBinding
  split
  · dsimp only
    split_ifs
    · rfl
    · rw [considerActivation_besideGate, clearFare_besideGate]
      rfl
    · rw [considerActivation_besideGate]
      rfl
  · rfl

section Binding
variable {s : State} {old : FareTable}

theorem releaseBinding_of_none (idle : s.fare.retiring = none) : s.releaseBinding = s := by
  simp only [State.releaseBinding, idle]

theorem releaseBinding_of_bound (retiring : s.fare.retiring = some old) (bound : ∃ n, (s.lane n).engine.boundVersion = some old.version) :
    s.releaseBinding = s := by
  simp only [State.releaseBinding, retiring, (bound_iff s old.version).2 bound]
  rfl

theorem releaseBinding_of_unbound (retiring : s.fare.retiring = some old)
    (unbound : ¬ ∃ n, (s.lane n).engine.boundVersion = some old.version) :
    let without : State := { s with fare := { s.fare with retiring := none } }
    s.releaseBinding =
      (if s.initialising = true ∧ s.proc.initStage = 2 then without.clearFare else without).considerActivation := by
  intro without
  have free : s.bound old.version = false := by simpa using mt (bound_iff s old.version).1 unbound
  unfold State.releaseBinding
  rw [retiring]
  dsimp only
  rw [free]
  rfl

/-- The waiting clearing step is made, and no table is left to activate (R199). -/
theorem clearFare_considerActivation (s : State) (active : Option FareTable) (same : s.fare.active = active) :
    let without : State := { s with fare := { s.fare with retiring := none } }
    without.clearFare.considerActivation =
      ({ s with fare := ⟨none, .none, s.retire active⟩, proc := { s.proc with initStage := 3 } } : State).settleReadiness s.ready := by
  intro without
  have ready : without.ready = s.ready := ready_congr rfl rfl rfl rfl
  have cleared : without.clearFare =
      ({ s with fare := ⟨none, .none, s.retire active⟩, proc := { s.proc with initStage := 3 } } : State).settleReadiness s.ready := by
    rw [State.clearFare, ready, ← same]
    rfl
  rw [cleared, considerActivation_of_none (by simp)]

end Binding

end Sys2Proof.Machine
end

section
/-! PROOF. The steps of FINISHING: its duties, the seen update, and the end of a transaction (R39, R40, R77, R78, R126). -/

namespace Sys2Proof.Machine

/-! ### The end of a transaction (R6, R11, R39, R43) -/

/-- The port a transaction ran at, released (R11). -/
def Lane.released (l : Lane) (side : Side) : Port :=
  { l.port side with
    releases := (l.port side).releases ++ [if l.engine.grantQueued then Release.go else Release.stop], gone := false, dropped := false }

/-- The lane of an ended transaction, its gate not yet settled. -/
def Lane.ended (l : Lane) (side : Side) : Lane :=
  { l.setPort side (l.released side) with
    engine := { Engine.reset with lineTaken := l.engine.lineTaken, lineIn := l.engine.lineIn }
    gate := { l.gate with place := false } }

theorem endTransaction_eq {s : State} {n : LaneId} {side : Side} (from_ : (s.lane n).engine.side = some side) :
    let b := (s.setLane n ((s.lane n).ended side).settle).releaseBinding
    s.endTransaction n = (if (b.lane n).resetting.isSome then b.finishReset n else b).takeOffers n := by
  intro b
  unfold State.endTransaction
  dsimp only
  rw [from_]
  dsimp only
  have settled : ((s.updPort n side (fun p => { p.sendRelease (if (s.lane n).engine.grantQueued then Release.go else Release.stop) with
      gone := false, dropped := false })).updLane n (fun l => { l with
        engine := l.engine.cleared, gate := { l.gate with place := false } })).settleGate n = s.setLane n ((s.lane n).ended side).settle := by
    rw [updPort_eq, updLane_eq, lane_setLane_self, setLane_setLane, settleGate_eq, lane_setLane_self, setLane_setLane]
    cases side <;> rfl
  rw [settled]

section Ended
variable {s : State} {n : LaneId} {side : Side}

theorem endTransaction_besideGate :
    (((s.setLane n ((s.lane n).ended side).settle).releaseBinding).lane n).besideGate = ((s.lane n).ended side).besideGate := by
  rw [releaseBinding_besideGate, lane_setLane_self, settle_besideGate]

theorem ended_resetting (l : Lane) (side : Side) : (l.ended side).resetting = l.resetting := by cases side <;> rfl

end Ended

/-- A port's offer taken by a part not READY, when it is the only one (R6, R11, R21). -/
theorem takeOffers_of_unready_only {s : State} {n : LaneId} {o : Offer} (idle : (s.lane n).engine.phase = .idle)
    (running : (s.lane n).resetting = none) (only : (s.lane n).waiting = [o]) (unready : s.ready = false) :
    s.takeOffers n = (s.setLane n (({ s.lane n with waiting := [] } : Lane).setPort o.side
      { (s.lane n).port o.side with releases := ((s.lane n).port o.side).releases ++ [Release.stop] })).countRefusal n .partNotReady := by
  have alone : ((s.lane n).withdraw o.side).updPort o.side (fun p => p.sendRelease .stop) = ({ s.lane n with waiting := [] } : Lane).setPort o.side
      { (s.lane n).port o.side with releases := ((s.lane n).port o.side).releases ++ [Release.stop] } := by
    rw [withdraw_updPort, only]
    simp [Port.sendRelease]
  rw [State.takeOffers, takeOffer_of_unready idle running (chosen_of_only only) unready, alone, takeOffer_of_none]
  rw [State.countRefusal, updLane_eq, lane_setLane_self, lane_setLane_self]
  cases o.side <;> rfl

/-- Which of the waiting offers an idle engine takes (R6). -/
theorem chosen_of_takes {l : Lane} {o : Offer}
    (takes : (l.gate.lock = .s ∧ l.offerAt .s = some o) ∨ (l.gate.lock = .p ∧ l.offerAt .p = some o) ∨
      (¬ (l.gate.lock = .s ∧ l.offerAt .s ≠ none) ∧ ¬ (l.gate.lock = .p ∧ l.offerAt .p ≠ none) ∧ l.waiting.head? = some o)) :
    l.chosen = some o := by
  unfold Lane.chosen
  cases lock : l.gate.lock <;> simp_all

/-! ### The change a transaction makes in the seen table (R40) -/

section Change
variable {e : Engine} {m : List Byte} {id : Identity} {d : Direction} (n : LaneId)

theorem seenChange_of_unread (identity : e.identity = some id) (direction : e.direction = some d)
    (refusal : e.refusal = some .counterRegression ∨ e.refusal = some .tearConflict) :
    e.seenChange n = ⟨id, n, d, .refused, none, e.clone⟩ := by
  rcases refusal with h | h <;> simp [Engine.seenChange, identity, direction, h]

theorem seenChange_of_refused (image : e.image = some m) (identity : e.identity = some id) (direction : e.direction = some d)
    {r : RefusalCode} (refusal : e.refusal = some r) (counter : r ≠ .counterRegression) (conflict : r ≠ .tearConflict) :
    e.seenChange n = match e.landed with
      | some x => ⟨id, n, x.direction, .unused, some x.newCounter, e.clone⟩
      | none => ⟨id, n, d, .refused, some (fieldAt m 13 3), e.clone⟩ := by
  simp only [Engine.seenChange, image, identity, direction, refusal]
  cases e.landed <;> rfl

theorem seenChange_of_paid (image : e.image = some m) (identity : e.identity = some id) (direction : e.direction = some d)
    (passed : e.refusal = none) (kind : e.grantKind = some .paid) :
    e.seenChange n = ⟨id, n, d, if e.emergency then .unused else .granted, some (fieldAt m 13 3 + 1), e.clone⟩ := by
  simp only [Engine.seenChange, image, identity, direction, passed, kind]
  rfl

theorem seenChange_of_recovered (identity : e.identity = some id) (direction : e.direction = some d) (passed : e.refusal = none)
    (kind : e.grantKind = some .recovered) {x : Landed} (landed : e.landed = some x) :
    e.seenChange n = ⟨id, n, d, .reGranted, some x.newCounter, e.clone⟩ := by
  simp only [Engine.seenChange, identity, direction, passed, kind, landed]
  rfl

theorem seenChange_of_reGranted (image : e.image = some m) (identity : e.identity = some id) (direction : e.direction = some d)
    (passed : e.refusal = none) (kind : e.grantKind = some .reGranted) :
    e.seenChange n = ⟨id, n, d, .reGranted, some (fieldAt m 13 3), e.clone⟩ := by
  simp only [Engine.seenChange, image, identity, direction, passed, kind]
  rfl

/-- The parts of a change that no ending alters. -/
theorem seenChange_parts (e : Engine) (n : LaneId) :
    (e.seenChange n).identity = e.identity.getD 0 ∧ (e.seenChange n).lane = n ∧ (e.seenChange n).clone = e.clone := by
  unfold Engine.seenChange
  dsimp only
  split
  · exact ⟨rfl, rfl, rfl⟩
  · exact ⟨rfl, rfl, rfl⟩
  · split <;> exact ⟨rfl, rfl, rfl⟩
  · split <;> exact ⟨rfl, rfl, rfl⟩

end Change

/-! ### The seen update (R77, R78) -/

theorem seenEntry_eq_none {s : State} {id : Identity} : s.seenEntry id = none ↔ ∀ x ∈ s.seen.entries, x.identity ≠ id := by
  simp [State.seenEntry, List.find?_eq_none]

theorem seenEntry_of_first {s : State} {id : Identity} {x : SeenEntry} {before after : List SeenEntry}
    (split : s.seen.entries = before ++ x :: after) (first : ∀ y ∈ before, y.identity ≠ id) (named : x.identity = id) :
    s.seenEntry id = some x := by
  unfold State.seenEntry
  rw [split, List.find?_append, List.find?_eq_none.2 (by simpa using first), List.find?_cons_of_pos (by simpa using named)]
  rfl

theorem seenEntry_of_lookup {s : State} {id : Identity} {x : SeenEntry} (found : s.seenLookup id = some x) :
    s.seenEntry id = some x ∧ s.older x = false := by
  unfold State.seenLookup at found
  split at found
  · next e is =>
    split_ifs at found with old
    obtain rfl : e = x := Option.some.inj found
    exact ⟨is, by simpa using old⟩
  · exact absurd found (by simp)

theorem dropVictim_of_first {before more : List SeenEntry} {old : SeenEntry} (marked : ∀ x ∈ before, x.tearPending ≠ none)
    (free : old.tearPending = none) : dropVictim (before ++ old :: more) = before ++ more := by
  induction before with
  | nil => exact if_pos free
  | cons x xs ih =>
    rw [List.cons_append, dropVictim, if_neg (marked x (by simp)), ih fun y hy => marked y (by simp [hy])]
    rfl

theorem takeSeenChange_of_present {s : State} {u : SeenChange} {x : SeenEntry} (found : s.seenEntry u.identity = some x)
    (kept : s.older x = false ∨ x.tearPending ≠ none) : s.takeSeenChange u = s.touchEntry (x.updated u s.clock.time) := by
  have stays : (s.older x && x.tearPending.isNone) = false := by
    rcases kept with young | marked
    · rw [young]
      rfl
    · rw [Option.isNone_eq_false_iff.2 (Option.isSome_iff_ne_none.2 marked), Bool.and_false]
  simp only [State.takeSeenChange, found, stays]
  rfl

theorem takeSeenChange_of_absent {s : State} {u : SeenChange}
    (absent : ∀ x ∈ s.seen.entries, x.identity = u.identity → s.older x = true ∧ x.tearPending = none) : s.takeSeenChange u = s.entryFrom u := by
  unfold State.takeSeenChange
  split
  · rfl
  · next x is =>
    obtain ⟨member, named⟩ := mem_of_seenEntry is
    obtain ⟨old, unmarked⟩ := absent x member named
    rw [if_pos (by simp [old, unmarked])]

theorem entryFrom_of_counter {s : State} {u : SeenChange} {c : Nat} (counter : u.counter = some c) :
    s.entryFrom u = s.newEntry ⟨u.identity, c, s.clock.time, u.lane, u.direction, u.outcome, u.clone, none⟩ := by
  simp only [State.entryFrom, counter]

theorem entryFrom_of_unchanged {s : State} {u : SeenChange} (counter : u.counter = none) :
    s.entryFrom u = ({ s with free := s.free + 1 } : State).newEntry
      ⟨u.identity, Config.freeValue s.free % 16777216, s.clock.time, u.lane, u.direction, u.outcome, u.clone, none⟩ := by
  simp only [State.entryFrom, counter]
  rfl

theorem newEntry_of_room {s : State} {x : SeenEntry} (room : (s.seen.entries.filter (fun y => y.identity != x.identity)).length < 8192) :
    s.newEntry x = s.setEntries (s.seen.entries.filter (fun y => y.identity != x.identity) ++ [x]) := by
  exact congrArg (fun es => s.setEntries (es ++ [x])) (if_pos room)

theorem newEntry_of_full {s : State} {x old : SeenEntry} {before more : List SeenEntry}
    (others : s.seen.entries.filter (fun y => y.identity != x.identity) = before ++ old :: more)
    (full : 8192 ≤ (s.seen.entries.filter (fun y => y.identity != x.identity)).length) (marked : ∀ y ∈ before, y.tearPending ≠ none)
    (free : old.tearPending = none) : s.newEntry x = s.setEntries (before ++ more ++ [x]) := by
  unfold State.newEntry makePlace withoutId
  rw [if_neg (show ¬ _ < Config.seenCapacity from not_lt.2 full), others, dropVictim_of_first marked free]

section Update
variable {s : State} {n : LaneId} {id : Identity}

theorem takeSeenChange_of_entry (named : (s.lane n).engine.identity = some id) {x : SeenEntry} (found : s.seenEntry id = some x)
    (kept : s.older x = false ∨ x.tearPending ≠ none) :
    let change := (s.lane n).engine.seenChange n
    s.takeSeenChange change = s.setEntries (s.seen.entries.filter (fun y => y.identity != id) ++ [{ x with
      time := s.clock.time, lane := n, direction := change.direction, outcome := change.outcome
      counter := max x.counter (change.counter.getD 0), cloneSuspect := x.cloneSuspect || (s.lane n).engine.clone }]) := by
  intro change
  obtain ⟨identity, lane, clone⟩ := seenChange_parts (s.lane n).engine n
  have same : change.identity = id := by rw [identity, named]; rfl
  obtain ⟨_, own⟩ := mem_of_seenEntry found
  rw [takeSeenChange_of_present (by rw [same]; exact found) kept, State.touchEntry, SeenEntry.updated, lane, clone]
  dsimp only
  rw [own]
  rfl

theorem takeSeenChange_of_no_entry (named : (s.lane n).engine.identity = some id)
    (absent : ∀ x ∈ s.seen.entries, x.identity = id → s.older x = true ∧ x.tearPending = none) {c : Nat}
    (counter : ((s.lane n).engine.seenChange n).counter = some c) :
    let change := (s.lane n).engine.seenChange n
    s.takeSeenChange change = s.newEntry ⟨id, c, s.clock.time, n, change.direction, change.outcome, (s.lane n).engine.clone, none⟩ := by
  intro change
  obtain ⟨identity, lane, clone⟩ := seenChange_parts (s.lane n).engine n
  have same : change.identity = id := by rw [identity, named]; rfl
  rw [takeSeenChange_of_absent (by rw [same]; exact absent), entryFrom_of_counter counter, same, lane, clone]

theorem takeSeenChange_unchanged (named : (s.lane n).engine.identity = some id)
    (absent : ∀ x ∈ s.seen.entries, x.identity = id → s.older x = true ∧ x.tearPending = none)
    (counter : ((s.lane n).engine.seenChange n).counter = none) :
    let change := (s.lane n).engine.seenChange n
    s.takeSeenChange change = ({ s with free := s.free + 1 } : State).newEntry
      ⟨id, Config.freeValue s.free % 16777216, s.clock.time, n, change.direction, change.outcome, (s.lane n).engine.clone, none⟩ := by
  intro change
  obtain ⟨identity, lane, clone⟩ := seenChange_parts (s.lane n).engine n
  have same : change.identity = id := by rw [identity, named]; rfl
  rw [takeSeenChange_of_absent (by rw [same]; exact absent), entryFrom_of_unchanged counter, same, lane, clone]

end Update

/-! ### The steps of FINISHING (R39) -/

/-- What follows a duty done, by what is left. -/
def State.afterDuty (w : State) (n : LaneId) (rest : List Duty) : State :=
  if rest = [] then (w.updEngine n (fun e => { e with duties := [] })).endTransaction n
  else w.updEngine n (fun e => { e with duties := rest })

theorem duty_eq_afterDuty {s : State} {n : LaneId} {d : Duty} {rest : List Duty} {f : State → State}
    (owed : (s.lane n).engine.duties = d :: rest) (kept : ((f s).lane n).engine.duties = (s.lane n).engine.duties) :
    s.duty n d f = (f s).afterDuty n rest := by
  rw [duty_of_owed owed, dutyDone_eq (kept.trans owed), State.afterDuty]
  split
  · next none => rw [none]
  · rfl

theorem takeSeenChange_lane (s : State) (u : SeenChange) (k : LaneId) : (s.takeSeenChange u).lane k = s.lane k := by
  simp [State.lane]

theorem cloneAlarm_lane (s : State) (n k : LaneId) : (s.cloneAlarm n).lane k = s.lane k := by
  simp [State.lane, State.cloneAlarm]

theorem appendCard_of_bound {s : State} {n : LaneId} {v : Nat} (bound : (s.lane n).engine.boundVersion = some v) :
    let e := (s.lane n).engine
    let a := s.append (some n) e.recordFlags (.card (e.cardBody v))
    s.appendCard n = a.1.updEngine n (fun e => { e with cardSeq := a.2 }) := by
  intro e a
  simp only [State.appendCard, boundVersionOr_of_bound bound]
  rfl

section Push
variable {s : State} {n : LaneId} {id : Identity} {d : Direction}

theorem grantOf_eq (named : (s.lane n).engine.identity = some id) (way : (s.lane n).engine.direction = some d) :
    s.grantOf n = ⟨some id, d, (s.lane n).engine.grantKind.getD .paid, s.clock.time, (s.lane n).engine.cardSeq⟩ := by
  simp only [State.grantOf, named, way]
  rfl

theorem push_of_refused (named : (s.lane n).engine.identity = some id) (way : (s.lane n).engine.direction = some d)
    (refuses : (s.lane n).gate.refusesPush = true) :
    let w := (s.updGate n (fun g => { g with place := false })).settleGate n
    s.push n = { w with seen := { s.seen with inbox := s.seen.inbox ++ [⟨false, id, n, d, s.clock.time⟩] } } := by
  simp only [State.push, refuses, grantOf_eq named way]
  rfl

theorem push_of_taken (named : (s.lane n).engine.identity = some id) (way : (s.lane n).engine.direction = some d)
    (takes : (s.lane n).gate.refusesPush = false) :
    let g := (s.lane n).gate
    let e := (s.lane n).engine
    s.push n = ((s.updGate n (fun g => { g with
      place := false
      queue := g.queue ++ [⟨some id, d, e.grantKind.getD .paid, s.clock.time, e.cardSeq⟩]
      state := if g.state = .heldOpen then .heldOpen else .opened
      openTimer := if g.state = .heldOpen then g.openTimer else some ((s.lane n).config.openTime * 1000) })).settleGate n).updEngine n
        (fun e => { e with grantQueued := true }) := by
  intro g e
  simp only [State.push, takes, grantOf_eq named way, enqueue_eq, updGate_eq, lane_setLane_self, setLane_setLane]
  rfl

theorem push_duties (s : State) (n : LaneId) : ((s.push n).lane n).engine.duties = (s.lane n).engine.duties := by
  have settled (t : State) : ((t.settleGate n).lane n).engine = (t.lane n).engine := by
    rw [settleGate_eq, lane_setLane_self, settle_eq]
  have gated (t : State) (f : Gate → Gate) : ((t.updGate n f).lane n).engine = (t.lane n).engine := by rw [updGate_eq, lane_setLane_self]
  unfold State.push
  dsimp only
  split_ifs
  · rw [sendGrantUpdate_eq]
    exact congrArg Engine.duties ((settled _).trans (gated s _))
  · rw [updEngine_engine, enqueue_eq, settled, gated, gated]

end Push

theorem retire_some (s : State) (table : FareTable) : s.retire (some table) = if s.bound table.version then some table else none := rfl

/-- Settles O53: each duty by its step, the seen update by what the table holds, the end by what waits at the lane. -/
theorem finishingMakesItsSteps : Obligations.FinishingMakesItsSteps := by
  refine ⟨?_, ?_, ?_, ?_, ?_, ?_⟩
  · intro s n id d next rest on named way e g done owed
    have finished (f : State → State) {k : Duty} (is : next = k) (kept : ((f s).lane n).engine.duties = (s.lane n).engine.duties) :
        s.duty n k f = done (f s) := duty_eq_afterDuty (owed.trans (by rw [is])) kept
    have added : exec (.localAddition n) s = .next (s.duty n .localAddition (fun s => s.cloneAlarm n)) := powered_next on
    have appended : exec (.journalAppend n) s = .next (s.duty n .cardRecord (fun s => s.appendCard n)) := powered_next on
    have pushed : exec (.grantPush n) s = .next (s.duty n .push (fun s => s.push n)) := powered_next on
    have updated (is : next = .seenUpdate) :
        exec (.seenUpdate n) s = .next (done (s.takeSeenChange (e.seenChange n))) := by
      have ran : exec (.seenUpdate n) s = .next (s.duty n .seenUpdate (fun s => s.takeSeenChange ((s.lane n).engine.seenChange n))) :=
        powered_next on
      rw [ran, finished (fun s => s.takeSeenChange ((s.lane n).engine.seenChange n)) is
        (congrArg (fun l => l.engine.duties) (takeSeenChange_lane s _ n))]
    have refuses : (s.lane n).gate.refusesPush = true ↔ g.state = .fault ∨ g.state = .outOfService ∨ g.emergency = true := by
      rw [Gate.refusesPush, Bool.or_eq_true, shut_iff, or_assoc, or_left_comm]
    refine ⟨fun is => ?_, fun v is bound => ?_, fun x c is found counter => ?_, fun c is absent room counter => ?_, fun is refused => ?_,
      fun is sound inService calm => ?_⟩
    · rw [added, finished (fun s => s.cloneAlarm n) is (congrArg (fun l => l.engine.duties) (cloneAlarm_lane s n n)), State.cloneAlarm, named]
      rfl
    · have kept : ((s.appendCard n).lane n).engine.duties = (s.lane n).engine.duties := by
        rw [appendCard_of_bound bound, updEngine_engine, append_lane]
      rw [appended, finished (fun s => s.appendCard n) is kept, appendCard_of_bound bound]
    · obtain ⟨entry, young⟩ := seenEntry_of_lookup found
      rw [updated is, takeSeenChange_of_entry named entry (.inl young), counter]
      rfl
    · have others : s.seen.entries.filter (fun y => y.identity != id) = s.seen.entries :=
        List.filter_eq_self.2 fun y hy => by simpa using absent y hy
      rw [updated is, takeSeenChange_of_no_entry named (fun x hx is => absurd is (absent x hx)) counter,
        newEntry_of_room (by rw [others]; exact room), others]
    · rw [pushed, finished (fun s => s.push n) is (push_duties s n), push_of_refused named way (refuses.2 refused)]
    · have takes : (s.lane n).gate.refusesPush = false := by
        rw [← Bool.not_eq_true, refuses]
        simp [sound, inService, calm]
      rw [pushed, finished (fun s => s.push n) is (push_duties s n), push_of_taken named way takes]
  · intro s n id rest on named owed e change done absent others made
    have updated : exec (.seenUpdate n) s = .next (done (s.takeSeenChange change)) := by
      have ran : exec (.seenUpdate n) s = .next (s.duty n .seenUpdate (fun s => s.takeSeenChange ((s.lane n).engine.seenChange n))) :=
        powered_next on
      rw [ran, duty_eq_afterDuty (f := fun s => s.takeSeenChange ((s.lane n).engine.seenChange n)) owed
        (congrArg (fun l => l.engine.duties) (takeSeenChange_lane s _ n))]
      rfl
    refine ⟨fun c gone room counter => ?_, fun c before old more gone full counter split marked free => ?_, fun gone room counter => ?_,
      fun x before after split first is kept => ?_⟩
    · rw [updated, takeSeenChange_of_no_entry named gone counter, newEntry_of_room room]
    · rw [updated, takeSeenChange_of_no_entry named gone counter, newEntry_of_full split full marked free]
    · refine ⟨Config.freeValue s.free % 16777216, Nat.le_of_lt_succ (Nat.mod_lt _ (by decide)), ?_⟩
      rw [updated, takeSeenChange_unchanged named gone counter, newEntry_of_room room]
    · rw [updated, takeSeenChange_of_entry named (seenEntry_of_first split first is) kept]
  · intro s n r duties w counted raised
    refine ⟨rfl, ?_⟩
    rw [State.refuse, State.markRefused, State.finishing, updEngine_updEngine]
    simp only [List.isEmpty_iff]
    rfl
  · intro s n side from_ l p released ended b x offerOf takes
    have whole : s.endTransaction n = (if (b.lane n).resetting.isSome then b.finishReset n else b).takeOffers n := endTransaction_eq from_
    have beside : (b.lane n).besideGate = ((s.lane n).ended side).besideGate := endTransaction_besideGate
    have resetting : (b.lane n).resetting = l.resetting :=
      (congrArg (fun y => y.2.2.2.2.2.2.2.2) beside).trans (ended_resetting l side)
    have engine : (b.lane n).engine = { Engine.reset with lineTaken := l.engine.lineTaken, lineIn := l.engine.lineIn } :=
      congrArg (fun y => y.2.2.1) beside
    have idle : (b.lane n).engine.phase = .idle := by rw [engine]; rfl
    have ends (free : l.resetting = none) : s.endTransaction n = b.takeOffers n := by
      refine whole.trans ?_
      rw [if_neg (by rw [show (b.lane n).resetting = none from resetting.trans free]; simp)]
    refine ⟨fun k running => ?_, fun free empty => ?_, fun offered free ready taken => ?_, fun offered free unready only => ?_⟩
    · have same : b.updLane n (fun l => { l with resetting := some k }) = b := by
        rw [updLane_eq, ← show (b.lane n).resetting = some k from resetting.trans running]
        exact setLane_lane b n
      refine whole.trans ?_
      rw [if_pos (by rw [show (b.lane n).resetting = some k from resetting.trans running]; rfl), State.resetLane, same, State.resetEngine]
      simp only [idle]
    · rw [ends free, takeOffers_of_none b n empty]
    · rw [ends free, takeOffers_of_ready b n offered idle (resetting.trans free) ready (chosen_of_takes taken)]
      have cleared : (b.lane n).engine.cleared = (b.lane n).engine := by
        rw [engine]
        rfl
      rw [Lane.begin_, cleared]
      cases offered.presence <;> rfl
    · rw [ends free, takeOffers_of_unready_only idle (resetting.trans free) only unready]
  · intro s old bound without
    refine ⟨releaseBinding_of_none, releaseBinding_of_bound, fun retiring unbound => ⟨fun elsewhere => ?_, fun running stage => ⟨?_, ?_, ?_⟩⟩⟩
    · rw [releaseBinding_of_unbound retiring unbound, if_neg elsewhere]
    · intro active
      rw [releaseBinding_of_unbound retiring unbound, if_pos ⟨running, stage⟩, clearFare_considerActivation s _ active]
      rfl
    · intro table active still
      rw [releaseBinding_of_unbound retiring unbound, if_pos ⟨running, stage⟩, clearFare_considerActivation s _ active, retire_some,
        if_pos ((bound_iff s table.version).2 still)]
    · intro table active gone
      rw [releaseBinding_of_unbound retiring unbound, if_pos ⟨running, stage⟩, clearFare_considerActivation s _ active, retire_some,
        if_neg (mt (bound_iff s table.version).1 gone)]
  · intro e n m id d image identity direction read change
    exact ⟨seenChange_of_unread n identity direction, fun r refusal counter conflict => by
      have all := seenChange_of_refused n image identity direction refusal counter conflict
      refine ⟨fun landed => ?_, fun x landed => ?_⟩
      all_goals simpa only [landed] using all, seenChange_of_paid n image identity direction, fun x passed kind landed =>
        seenChange_of_recovered n identity direction passed kind landed, seenChange_of_reGranted n image identity direction⟩

end Sys2Proof.Machine
end

section
/-! PROOF. The upkeep of the Seen-Card Table, the Recovery Table and the local list (R76 to R81, R91, R100, R104, R105). -/

namespace Sys2Proof.Machine

/-! ### Slots that close (R100, R104, R105) -/

/-- An entry of an identity loses its mark. -/
def SeenEntry.unmarked (id : Identity) (e : SeenEntry) : SeenEntry := if e.identity = id then { e with tearPending := none } else e

theorem closeSlot_eq {s : State} {i : SlotId} {f : SlotFields} {em : Bool} {wt ex : Option Nat} (outcome : TearOutcome) (lane : LaneId)
    (torn : s.slot i = .opened f em wt ex) :
    let a := s.append (some lane) { RecordFlags.clear with emergency := em, clone := decide (outcome = .conflict) }
      (.tear ⟨outcome, f.identity, f.oldCounter, f.newCounter, if outcome = .landed ∨ outcome = .unresolved then f.charge else 0,
        f.lane, f.direction⟩)
    s.closeSlot i outcome lane = ({ a.1 with
      recovery := s.recovery.set i .free
      seen := { s.seen with entries := s.seen.entries.map (fun (e : SeenEntry) =>
        if e.identity = f.identity then
          { e with tearPending := none, counter := if outcome = .landed then max e.counter f.newCounter else e.counter }
        else e) } }, a.2) := by
  intro a
  have recovery : a.1.recovery = s.recovery := by simp [a]
  have seen : a.1.seen = s.seen := by simp [a]
  simp only [State.closeSlot, torn]
  refine Prod.ext ?_ rfl
  have unmarked : (a.1.setSlot i .free).unmarkTear f.identity = { a.1 with
      recovery := s.recovery.set i .free
      seen := { s.seen with entries := s.seen.entries.map (SeenEntry.unmarked f.identity) } } := by
    rw [State.unmarkTear, State.setSlot, State.setEntries, recovery]
    dsimp only
    rw [seen]
    rfl
  by_cases landed : outcome = .landed
  · have twice (e : SeenEntry) : (if (e.unmarked f.identity).identity = f.identity then
        { e.unmarked f.identity with counter := max (e.unmarked f.identity).counter f.newCounter } else e.unmarked f.identity) =
        if e.identity = f.identity then { e with tearPending := none, counter := max e.counter f.newCounter } else e := by
      unfold SeenEntry.unmarked
      split_ifs <;> rfl
    refine (if_pos landed).trans ?_
    rw [unmarked, State.raiseSeenCounter, State.setEntries, List.map_map]
    simp only [Function.comp_def, twice, if_pos landed]
  · refine (if_neg landed).trans ?_
    rw [unmarked]
    simp only [if_neg landed]
    rfl

/-- A slot expired: its record, its place, the mark and the event, by what it held (R105). -/
def State.expireAs (w : State) (i : SlotId) : Slot → State
  | .opened f em _ _ =>
    { w.record (some f.lane) { RecordFlags.clear with emergency := em }
        (.tear ⟨.unresolved, f.identity, f.oldCounter, f.newCounter, f.charge, f.lane, f.direction⟩) with
      recovery := w.recovery.set i .free
      seen := { w.seen with entries := w.seen.entries.map (SeenEntry.unmarked f.identity) } }.raise .tearUnresolved (.lane f.lane)
      (be 8 f.identity.toNat ++ be 1 i.val ++ be 3 f.newCounter)
  | _ => w

theorem slotDue_iff (s : State) (i : SlotId) :
    s.slotDue i = true ↔ ∃ f em wt x, s.slot i = .opened f em wt (some x) ∧ s.clock.valid = true ∧ x ≤ s.clock.time := by
  unfold State.slotDue
  split
  · next f em wt x is => simp [is]
  · next other =>
    refine ⟨fun h => absurd h (by simp), ?_⟩
    rintro ⟨f, em, wt, x, is, _⟩
    exact absurd is (other f em wt x)

theorem expire_of_due {s w : State} {i : SlotId} (due : s.slotDue i = true) (slot : w.slot i = s.slot i) (clock : w.clock = s.clock) :
    w.expire i = w.expireAs i (s.slot i) := by
  have due' : w.slotDue i = true := by
    rw [← due]
    unfold State.slotDue
    rw [slot, clock]
  obtain ⟨f, em, wt, x, is, _, _⟩ := (slotDue_iff s i).1 due
  unfold State.expire
  rw [if_pos due', slot, is]
  dsimp only
  rw [closeSlot_eq .unresolved f.lane (slot.trans is)]
  rfl

theorem expire_of_not_due {s w : State} {i : SlotId} (due : s.slotDue i = false) (slot : w.slot i = s.slot i) (clock : w.clock = s.clock) :
    w.expire i = w := by
  have due' : w.slotDue i = false := by
    rw [← due]
    unfold State.slotDue
    rw [slot, clock]
  unfold State.expire
  rw [if_neg (by rw [due']; simp)]

theorem expireAs_clock (w : State) (i : SlotId) (x : Slot) : (w.expireAs i x).clock = w.clock := by
  cases x <;> simp [State.expireAs]

theorem expireAs_slot_ne (w : State) {i j : SlotId} (other : j ≠ i) (x : Slot) : (w.expireAs i x).slot j = w.slot j := by
  cases x with
  | opened f em wt ex => exact slot_setSlot_ne w other .free
  | free => rfl
  | reserved f => rfl

/-- The slots whose time has come expire in order; the others are passed over. -/
theorem expire_foldl {s : State} : ∀ {ids : List SlotId} {w : State}, ids.Nodup → (∀ i ∈ ids, w.slot i = s.slot i) → w.clock = s.clock →
    ids.foldl (fun t i => t.expire i) w = (ids.filter s.slotDue).foldl (fun t i => t.expireAs i (s.slot i)) w
  | [], _, _, _, _ => rfl
  | i :: ids, w, once, slots, clock => by
    obtain ⟨fresh, once'⟩ := List.nodup_cons.1 once
    rw [List.foldl_cons, List.filter_cons]
    by_cases due : s.slotDue i = true
    · rw [if_pos due, List.foldl_cons, expire_of_due due (slots i (by simp)) clock]
      refine expire_foldl once' (fun j hj => ?_) ((expireAs_clock _ _ _).trans clock)
      rw [expireAs_slot_ne w (fun h : j = i => fresh (h ▸ hj))]
      exact slots j (by simp [hj])
    · rw [if_neg due, expire_of_not_due (by simpa using due) (slots i (by simp)) clock]
      exact expire_foldl once' (fun j hj => slots j (by simp [hj])) clock

/-! ### What the expiries of a list of slots make -/

/-- The record of a slot that expires. -/
def Slot.tearRecord : Slot → List RecordBody
  | .opened f _ _ _ => [.tear ⟨.unresolved, f.identity, f.oldCounter, f.newCounter, f.charge, f.lane, f.direction⟩]
  | _ => []

/-- The event of a slot that expires. -/
def Slot.tearEvent (i : SlotId) : Slot → List Event
  | .opened f _ _ _ => [⟨.tearUnresolved, .lane f.lane, be 8 f.identity.toNat ++ be 1 i.val ++ be 3 f.newCounter⟩]
  | _ => []

section Expiries
variable (x : SlotId → Slot)

theorem expireAs_entries (w : State) (i : SlotId) (y : Slot) :
    (w.expireAs i y).seen.entries = w.seen.entries.map (fun e => if y.opensFor e.identity then { e with tearPending := none } else e) := by
  cases y with
  | opened f em wt ex =>
    refine List.map_congr_left fun e _ => ?_
    by_cases own : e.identity = f.identity
    · simp [SeenEntry.unmarked, Slot.opensFor, own]
    · simp [SeenEntry.unmarked, Slot.opensFor, own, Ne.symm own]
  | free => simp [State.expireAs, Slot.opensFor]
  | reserved f => simp [State.expireAs, Slot.opensFor]

theorem expireAs_foldl_entries : ∀ (ids : List SlotId) (w : State),
    (ids.foldl (fun t i => t.expireAs i (x i)) w).seen.entries =
      w.seen.entries.map (fun e => if ids.any (fun i => (x i).opensFor e.identity) then { e with tearPending := none } else e)
  | [], w => by simp
  | i :: ids, w => by
    rw [List.foldl_cons, expireAs_foldl_entries ids, expireAs_entries, List.map_map]
    refine List.map_congr_left fun e _ => ?_
    by_cases own : (x i).opensFor e.identity = true <;> simp [own]

theorem expireAs_records (w : State) (i : SlotId) (y : Slot) : w.journal.records <+: (w.expireAs i y).journal.records := by
  cases y with
  | opened f em wt ex => exact append_records w _ _ _
  | free => exact List.prefix_rfl
  | reserved f => exact List.prefix_rfl

theorem expireAs_foldl_records : ∀ (ids : List SlotId) (w : State),
    w.journal.records <+: (ids.foldl (fun t i => t.expireAs i (x i)) w).journal.records
  | [], _ => List.prefix_rfl
  | i :: ids, w => (expireAs_records w i (x i)).trans (expireAs_foldl_records ids _)

/-- A TEAR record is stored to the last place (R158). -/
theorem append_of_tear {s : State} (settled : s.journal.gapCount = 0) (count : s.journal.count < 32768) (next : s.journal.next ≤ 4294967295)
    (lane : Option LaneId) (flags : RecordFlags) (y : TearBody) :
    s.append lane flags (.tear y) = ({ s with
      journal := s.journal.store s.recordTime lane { flags with gapFollows := decide (s.journal.gapCount ≠ 0) } (.tear y)
      notices := { s.notices with inbox := s.notices.inbox ++ s.journal.crossed (s.journal.count + 1) } },
      some s.journal.next) := by
  refine append_of_accepts (.inr settled) ?_ lane flags
  have bounds : s.journal.count < Config.journalCapacity ∧ s.journal.next ≤ Config.max32 := ⟨count, next⟩
  have write : (RecordBody.tear y).cardWrite = true := (cardWrite_iff _).2 (.inl ⟨y, rfl⟩)
  simp [Journal.accepts, write, bounds]

theorem expireAs_foldl_bodies : ∀ (ids : List SlotId) (w : State), w.journal.gapCount = 0 →
    w.journal.count + ids.length ≤ 32768 → w.journal.next + ids.length ≤ 4294967296 →
    (ids.foldl (fun t i => t.expireAs i (x i)) w).journal.records.map (·.body) =
      w.journal.records.map (·.body) ++ ids.flatMap (fun i => (x i).tearRecord)
  | [], w, _, _, _ => by simp
  | i :: ids, w, settled, count, next => by
    rw [List.length_cons] at count next
    rw [List.foldl_cons, List.flatMap_cons]
    cases held : x i with
    | opened f em wt ex =>
      have journal : (w.expireAs i (.opened f em wt ex)).journal = w.journal.store w.recordTime (some f.lane)
          { { RecordFlags.clear with emergency := em } with gapFollows := decide (w.journal.gapCount ≠ 0) }
          (.tear ⟨.unresolved, f.identity, f.oldCounter, f.newCounter, f.charge, f.lane, f.direction⟩) := by
        simp only [State.expireAs, State.record]
        rw [append_of_tear settled (by omega) (by omega)]
        rfl
      have length : (w.expireAs i (.opened f em wt ex)).journal.count = w.journal.count + 1 := by
        rw [journal]
        simp [Journal.store, Journal.count]
      rw [expireAs_foldl_bodies ids _ (by rw [journal]; exact settled) (by rw [length]; omega)
        (by rw [journal, Journal.store]; dsimp only; omega), journal]
      simp [Journal.store, Slot.tearRecord]
    | free => exact expireAs_foldl_bodies ids w settled (by omega) (by omega)
    | reserved f => exact expireAs_foldl_bodies ids w settled (by omega) (by omega)

theorem crossed_kinds (j : Journal) (c : Nat) : (j.crossed c).filter (fun e => e.kind == .tearUnresolved) = [] := by
  unfold Journal.crossed
  split_ifs <;> rfl

/-- An append raises no event of a tear. -/
theorem append_tearEvents (s : State) (lane : Option LaneId) (flags : RecordFlags) (b : RecordBody) :
    (s.append lane flags b).1.notices.inbox.filter (fun e => e.kind == .tearUnresolved) =
      s.notices.inbox.filter (fun e => e.kind == .tearUnresolved) := by
  have stored (w : State) (l : Option LaneId) (fl : RecordFlags) (c : RecordBody) :
      (w.storeRecord l fl c).notices.inbox.filter (fun e => e.kind == .tearUnresolved) =
        w.notices.inbox.filter (fun e => e.kind == .tearUnresolved) := by
    rw [storeRecord_eq, List.filter_append, crossed_kinds, List.append_nil]
  have gap : s.storeGap.notices.inbox.filter (fun e => e.kind == .tearUnresolved) =
      s.notices.inbox.filter (fun e => e.kind == .tearUnresolved) := by
    unfold State.storeGap
    dsimp only
    split
    · exact stored s _ _ _
    · rfl
  unfold State.append
  dsimp only
  split
  · exact (stored _ _ _ _).trans gap
  · exact gap

theorem expireAs_foldl_events : ∀ (ids : List SlotId) (w : State),
    (ids.foldl (fun t i => t.expireAs i (x i)) w).notices.inbox.filter (fun e => e.kind == .tearUnresolved) =
      w.notices.inbox.filter (fun e => e.kind == .tearUnresolved) ++ ids.flatMap (fun i => (x i).tearEvent i)
  | [], w => by simp
  | i :: ids, w => by
    rw [List.foldl_cons, expireAs_foldl_events ids, List.flatMap_cons, ← List.append_assoc]
    refine congrArg (· ++ _) ?_
    cases x i with
    | opened f em wt ex =>
      refine (List.filter_append _ _).trans ?_
      rw [← append_tearEvents w (some f.lane) { RecordFlags.clear with emergency := em }
        (.tear ⟨.unresolved, f.identity, f.oldCounter, f.newCounter, f.charge, f.lane, f.direction⟩)]
      rfl
    | free => simp [State.expireAs, Slot.tearEvent]
    | reserved f => simp [State.expireAs, Slot.tearEvent]

theorem expireAs_beside (w : State) (i : SlotId) (y : Slot) :
    { w.expireAs i y with recovery := w.recovery, seen := w.seen, journal := w.journal, notices := w.notices } = w := by
  cases y with
  | opened f em wt ex =>
    rw [State.expireAs, record_with (s := w) (t := w) rfl rfl rfl]
    rfl
  | free => rfl
  | reserved f => rfl

theorem expireAs_foldl_beside : ∀ (ids : List SlotId) (w : State),
    { ids.foldl (fun t i => t.expireAs i (x i)) w with
      recovery := w.recovery, seen := w.seen, journal := w.journal, notices := w.notices } = w
  | [], _ => rfl
  | i :: ids, w => by
    have rest := expireAs_foldl_beside ids (w.expireAs i (x i))
    exact (congrArg (fun v : State => { v with recovery := w.recovery, seen := w.seen, journal := w.journal, notices := w.notices })
      rest).trans (expireAs_beside w i (x i))

end Expiries

/-! ### Every slot whose time has come (R105) -/

theorem expire_slot_ne (w : State) {i j : SlotId} (other : j ≠ i) : (w.expire i).slot j = w.slot j := by
  by_cases due : w.slotDue i = true
  · rw [expire_of_due due rfl rfl, expireAs_slot_ne w other]
  · rw [expire_of_not_due (by simpa using due) rfl rfl]

theorem expire_clock (w : State) (i : SlotId) : (w.expire i).clock = w.clock := by
  by_cases due : w.slotDue i = true
  · rw [expire_of_due due rfl rfl, expireAs_clock]
  · rw [expire_of_not_due (by simpa using due) rfl rfl]

theorem expireSlots_eq (s : State) : s.expireSlots = (slotIds.filter s.slotDue).foldl (fun t i => t.expireAs i (s.slot i)) s :=
  expire_foldl (by rw [slotIds_eq]; exact List.nodup_finRange 8) (fun _ _ => rfl) rfl

theorem expireSlots_slot (s : State) (i : SlotId) : s.expireSlots.slot i = if s.slotDue i = true then .free else s.slot i := by
  obtain ⟨w, clock, slot, last⟩ := foldl_at (view := State.slot) (f := fun w i => w.expire i) (P := fun w => w.clock = s.clock)
    (fun m w k other => expire_slot_ne w other) (fun m w h => (expire_clock w m).trans h) (s := s) rfl i
  rw [State.expireSlots, slotIds_eq, last]
  by_cases due : s.slotDue i = true
  · obtain ⟨f, em, wt, x, is, _, _⟩ := (slotDue_iff s i).1 due
    rw [if_pos due, expire_of_due due slot clock, is]
    exact slot_setSlot_self w i .free
  · rw [if_neg due, expire_of_not_due (by simpa using due) slot clock, slot]

theorem expireSlots_entries (s : State) :
    s.expireSlots.seen.entries = s.seen.entries.map (fun e =>
      if slotIds.any (fun i => s.slotDue i && (s.slot i).opensFor e.identity) then { e with tearPending := none } else e) := by
  rw [expireSlots_eq, expireAs_foldl_entries]
  simp only [List.any_filter]

/-! ### The local list (R91) -/

theorem addLocal_of_listed {s : State} {n : LaneId} {id : Identity} (listed : (s.hot.active.holds id || s.hot.localHolds id) = true) :
    s.addLocal n id = s := if_pos listed

theorem addLocal_of_room {s : State} {n : LaneId} {id : Identity} (unlisted : ¬ (s.hot.active.holds id || s.hot.localHolds id) = true)
    (room : s.hot.locals.length < 64) :
    s.addLocal n id = { s with hot := { s.hot with locals := s.hot.locals ++ [LocalEntry.mk id s.clock.time n] } }.record (some n)
      RecordFlags.clear (.listLocalAdd id) := by
  unfold State.addLocal
  rw [if_neg unlisted]
  have full : ¬ Config.localCapacity ≤ s.hot.locals.length := not_le.2 room
  dsimp only
  split
  · rw [if_neg full]
  · rfl

theorem addLocal_of_full {s : State} {n : LaneId} {id : Identity} (unlisted : ¬ (s.hot.active.holds id || s.hot.localHolds id) = true)
    (full : 64 ≤ s.hot.locals.length) {oldest : LocalEntry} {rest : List LocalEntry} (list : s.hot.locals = oldest :: rest) :
    let w := ({ s with hot := { s.hot with locals := rest } }.record none RecordFlags.clear (.listLocalEvict oldest.identity)).raise
      .localHotlistEvict .part (be 8 oldest.identity.toNat)
    s.addLocal n id = { w with hot := { s.hot with locals := rest ++ [LocalEntry.mk id s.clock.time n] } }.record (some n)
      RecordFlags.clear (.listLocalAdd id) := by
  intro w
  have hot : w.hot = { s.hot with locals := rest } := by simp [w]
  have clock : w.clock = s.clock := by simp [w]
  unfold State.addLocal
  rw [if_neg unlisted]
  dsimp only
  split
  · next x xs is =>
    obtain ⟨rfl, rfl⟩ := List.cons.inj (is.symm.trans list)
    rw [if_pos (show Config.localCapacity ≤ s.hot.locals.length from full)]
    change ({ w with hot := { w.hot with locals := w.hot.locals ++ [LocalEntry.mk id w.clock.time n] } } : State).record _ _ _ = _
    rw [hot, clock]
  · next empty => exact absurd (empty.symm.trans list) (by simp)

/-! ### Grant updates (R79) -/

theorem takeGrantUpdate_of_own {s : State} {u : GrantUpdate} {x : SeenEntry} (found : s.seenLookup u.identity = some x)
    (lane : x.lane = u.lane) (way : x.direction = u.direction) :
    s.takeGrantUpdate u = s.touchEntry { x with outcome := if u.passed then .passed else .unused, time := u.time } := by
  simp only [State.takeGrantUpdate, found]
  rw [if_pos ⟨lane, way⟩]

theorem takeGrantUpdate_of_other {s : State} {u : GrantUpdate}
    (other : ∀ x, s.seenLookup u.identity = some x → ¬ (x.lane = u.lane ∧ x.direction = u.direction)) : s.takeGrantUpdate u = s := by
  unfold State.takeGrantUpdate
  split
  · next x is => rw [if_neg (other x is)]
  · rfl

/-- Settles O54: the slots that are due by a fold over the table, the rest by each operation's equation. -/
theorem tablesAreKeptUp : Obligations.TablesAreKeptUp := by
  refine ⟨?_, fun s i f em wt ex outcome lane torn => closeSlot_eq outcome lane torn, ?_⟩
  · intro s on
    have applied : exec .passageForfeitureUpdate s = .next s.applyGrantUpdate := powered_next on
    refine ⟨fun empty => ?_, fun u rest inbox => ⟨fun x found lane way => ?_, fun other => ?_⟩, ?_, ?_⟩
    · rw [applied, State.applyGrantUpdate, empty]
    · rw [applied, State.applyGrantUpdate, inbox]
      dsimp only
      obtain ⟨_, own⟩ := mem_of_seenEntry (seenEntry_of_lookup found).1
      rw [takeGrantUpdate_of_own (s := { s with seen := { s.seen with inbox := rest } }) found lane way, State.touchEntry, withoutId]
      dsimp only
      rw [own]
      rfl
    · rw [applied, State.applyGrantUpdate, inbox]
      dsimp only
      rw [takeGrantUpdate_of_other (s := { s with seen := { s.seen with inbox := rest } }) other]
    · intro due tear event expired
      have ran : exec .slotExpiry s = .next s.expireSlots := powered_next on
      have tears : ∀ i, tear i = (s.slot i).tearRecord := fun i => by
        simp only [tear]
        cases s.slot i <;> rfl
      have events : ∀ i, event i = (s.slot i).tearEvent i := fun i => by
        simp only [event]
        cases s.slot i <;> rfl
      have steps : ∀ w i, expired w i = w.expireAs i (s.slot i) := fun w i => by
        simp only [expired]
        cases s.slot i <;> rfl
      have fold : s.expireSlots = due.foldl (fun t i => t.expireAs i (s.slot i)) s := expireSlots_eq s
      have listed : due.flatMap tear = due.flatMap (fun i => (s.slot i).tearRecord) := congrArg (List.flatMap · due) (funext tears)
      have raised : due.flatMap event = due.flatMap (fun i => (s.slot i).tearEvent i) := congrArg (List.flatMap · due) (funext events)
      refine ⟨?_, s.expireSlots, ran, expireSlots_slot s, slotDue_iff s, ?_, ?_, fun settled count next => ?_, ?_, ?_⟩
      · rw [ran, fold, funext fun w => funext fun i => steps w i]
      · rw [expireSlots_entries]
        rfl
      · rw [fold]
        exact expireAs_foldl_records s.slot due s
      · rw [fold, listed, expireAs_foldl_bodies s.slot due s settled count next]
      · rw [fold, raised, expireAs_foldl_events s.slot due s]
      · rw [fold]
        exact expireAs_foldl_beside s.slot due s
    · refine (powered_next on).trans (congrArg Host.Outcome.next ?_)
      refine if_congr Iff.rfl ?_ rfl
      rw [State.sweep]
      refine congrArg (fun es => ({ s with seen := { s.seen with entries := es, sweepDue := false } } : State)) (List.filter_congr fun e _ => ?_)
      rw [Bool.or_comm, State.older, ← decide_not, decide_eq_decide.2 not_lt]
  · intro s n id listed added
    have holds : (s.hot.active.holds id || s.hot.localHolds id) = true ↔ listed := by
      rw [Bool.or_eq_true, holds_iff, localHolds_iff]
    exact ⟨fun yes => addLocal_of_listed (holds.2 yes), fun no room => addLocal_of_room (mt holds.1 no) room,
      fun oldest rest no full list => addLocal_of_full (mt holds.1 no) full list⟩

end Sys2Proof.Machine
end

section
/-! PROOF. The receivers of the emergency line (R44, R123, R141, R143 to R146), and a transaction abandoned (R43, R100). -/

namespace Sys2Proof.Machine

/-! ### The next free number (R144) -/

theorem numberAfter_eq {k : Nat} (low : 1 ≤ k) (high : k ≤ 65535) : numberAfter k = k % 65535 + 1 := by
  unfold numberAfter
  split
  · have : k = 65535 := by omega
    subst this
    rfl
  · omega

theorem numberAfter_range (k : Nat) : 1 ≤ numberAfter k ∧ numberAfter k ≤ 65535 := by
  unfold numberAfter
  split <;> omega

theorem numberAfter_iterate {k : Nat} (low : 1 ≤ k) (high : k ≤ 65535) : ∀ j, numberAfter^[j] k = (k - 1 + j) % 65535 + 1
  | 0 => by
    rw [Function.iterate_zero_apply]
    omega
  | j + 1 => by
    rw [Function.iterate_succ_apply', numberAfter_iterate low high j, numberAfter_eq (by omega) (by omega)]
    omega

/-- A search that ends at a number held has found every number it tried held. -/
theorem held_of_freeNumber_held {held : List Incident} : ∀ (n k : Nat), (∃ i ∈ held, i.number = freeNumber held n k) →
    ∀ j < n, numberAfter^[j] k ∈ held.map (·.number)
  | 0, _, _, j, below => absurd below (Nat.not_lt_zero j)
  | n + 1, k, stuck, j, below => by
    unfold freeNumber at stuck
    split at stuck
    · next here =>
      cases j with
      | zero => simpa using here
      | succ j =>
        rw [Function.iterate_succ_apply]
        exact held_of_freeNumber_held n (numberAfter k) stuck j (Nat.lt_of_succ_lt_succ below)
    · next away => exact absurd stuck (by simpa using away)

/-- Sixteen entries cannot hold the seventeen numbers tried (R144, log 27). -/
theorem freeNumber_free {held : List Incident} (few : held.length ≤ 16) (k : Nat) :
    ∀ i ∈ held, i.number ≠ freeNumber held 17 (numberAfter k) := by
  intro i member stuck
  obtain ⟨low, high⟩ := numberAfter_range k
  have tried := held_of_freeNumber_held 17 (numberAfter k) ⟨i, member, stuck⟩
  have apart : ((List.range 17).map (fun j => numberAfter^[j] (numberAfter k))).Nodup := by
    refine List.Nodup.map_on (fun a ha b hb same => ?_) List.nodup_range
    rw [numberAfter_iterate low high, numberAfter_iterate low high] at same
    rw [List.mem_range] at ha hb
    omega
  have within : (List.range 17).map (fun j => numberAfter^[j] (numberAfter k)) ⊆ held.map (·.number) := by
    intro x hx
    obtain ⟨j, hj, rfl⟩ := List.mem_map.1 hx
    exact tried j (List.mem_range.1 hj)
  have count := (List.subperm_of_subset apart within).length_le
  rw [List.length_map, List.length_map, List.length_range] at count
  omega

/-! ### The line at the gate (R123, R141) -/

theorem held_eq (x : GateState) : x.held = if x = .outOfService then .outOfService else if x = .fault then .fault else .heldOpen := by
  cases x <;> rfl

theorem gateTakes_of_oldest {s : State} {n : LaneId} {c : LineChange} {rest : List LineChange} (oldest : (s.lane n).gate.lineIn = c :: rest)
    (f : State → State) : s.gateTakes n c f = f (s.setLane n { s.lane n with gate := { (s.lane n).gate with lineIn := rest } }) := by
  unfold State.gateTakes
  split
  · next x xs is =>
    obtain ⟨rfl, rfl⟩ := List.cons.inj (is.symm.trans oldest)
    rw [if_pos rfl]
    rfl
  · next empty => exact absurd (empty.symm.trans oldest) (by simp)

theorem engineTakes_of_oldest {s : State} {n : LaneId} {c : LineChange} {rest : List LineChange}
    (oldest : (s.lane n).engine.lineIn = c :: rest) (f : State → State) :
    s.engineTakes n c f = f (s.setLane n { s.lane n with engine := { (s.lane n).engine with
      lineIn := rest, lineTaken := decide (c = .assertion) } }) := by
  unfold State.engineTakes
  split
  · next x xs is =>
    obtain ⟨rfl, rfl⟩ := List.cons.inj (is.symm.trans oldest)
    rw [if_pos rfl]
    rfl
  · next empty => exact absurd (empty.symm.trans oldest) (by simp)

theorem incidentTakes_of_oldest {s : State} {c : LineChange} {rest : List LineChange} (oldest : s.incidents.lineIn = c :: rest)
    (f : State → State) : s.incidentTakes c f = f { s with incidents := { s.incidents with lineIn := rest } } := by
  simp only [State.incidentTakes, oldest]
  rfl

theorem gateAsserts_eq (s : State) (n : LaneId) :
    s.gateAsserts n =
      ((((s.setLane n { s.lane n with gate := { (s.lane n).gate with emergency := true, openTimer := none } }).forfeit n
        .emergency).updGate n (fun g => { g with
          state := if g.state = .outOfService then .outOfService else if g.state = .fault then .fault else .heldOpen })).updCounters
        n (fun c => { c with emergencyEntry := 0, emergencyExit := 0 })).settleGate n := by
  simp only [State.gateAsserts, held_eq, updGate_eq]

/-! ### Abandonment (R43, R44, R100) -/

theorem reading_iff (p : Port) : p.reading = true ↔ ∃ timer, p.exchange = some ⟨.read, timer⟩ := by
  unfold Port.reading
  split
  · next t is => simp [is]
  · next other => simpa using fun timer is => other timer is

section Resolve
variable {s : State} {n : LaneId} {id : Identity} {m : List Byte}

/-- An OPEN slot of the transaction's identity is settled and its outcome kept (R28, R100). -/
theorem resolve_of_open {i : SlotId} {f : SlotFields} {em : Bool} {wt ex : Option Nat} (named : (s.lane n).engine.identity = some id)
    (imaged : (s.lane n).engine.image = some m) (slot : s.openSlot id = some i) (torn : s.slot i = .opened f em wt ex) :
    let outcome := classify f (cardCounter m) m
    let a := s.closeSlot i outcome n
    s.resolve n = (a.1.updEngine n (fun e => { e with
      related := a.2, landed := if outcome = .landed then some ⟨f.direction, f.newCounter⟩ else none }), some outcome) := by
  simp only [State.resolve, named, imaged, Option.bind_some, slot, torn]
  rfl

theorem resolve_of_none (closed : ∀ id, (s.lane n).engine.identity = some id → s.openSlot id = none) : s.resolve n = (s, none) := by
  have absent : (s.lane n).engine.identity.bind s.openSlot = none := by
    cases named : (s.lane n).engine.identity with
    | none => rfl
    | some id => exact closed id named
  simp only [State.resolve, absent]

theorem classify_landed {f : SlotFields} (counter : cardCounter m = f.newCounter) (image : m.take 56 = f.newImage.take 56) :
    classify f (cardCounter m) m = .landed := if_pos ⟨counter, image⟩

theorem classify_notLanded {f : SlotFields} (counter : cardCounter m = f.oldCounter) (apart : f.oldCounter ≠ f.newCounter) :
    classify f (cardCounter m) m = .notLanded := by
  unfold classify
  rw [if_neg (by rw [counter]; exact fun h => apart h.1), if_pos counter]

theorem classify_conflict {f : SlotFields} (old : cardCounter m ≠ f.oldCounter)
    (new : cardCounter m ≠ f.newCounter ∨ m.take 56 ≠ f.newImage.take 56) : classify f (cardCounter m) m = .conflict := by
  unfold classify
  rw [if_neg (fun h => new.elim (fun x => x h.1) (fun x => x h.2)), if_neg old]

end Resolve

section Abandon
variable {s : State} {n : LaneId} {r : RefusalCode} {side : Side}

theorem abandonDuties_eq (w : State) (n : LaneId) :
    w.abandonDuties n = (if (w.lane n).engine.verified = true then [.cardRecord, .seenUpdate] else []) ++
      (if (w.claim n).isSome then [.releaseClaim] else []) := rfl

theorem abandon_eq (from_ : (s.lane n).engine.side = some side) :
    let w := if (s.lane n).engine.phase = .resolving then (s.resolve n).1 else s
    let v := if ((w.lane n).port side).reading then w.endExchange n side else w
    s.abandon n r = v.refuse n r (v.abandonDuties n) := by
  simp only [State.abandon, from_]

theorem abandon_of_reading (from_ : (s.lane n).engine.side = some side) (phase : (s.lane n).engine.phase ≠ .resolving)
    (reading : ((s.lane n).port side).reading = true) :
    s.abandon n r = (s.endExchange n side).refuse n r (s.abandonDuties n) := by
  have same : (s.endExchange n side).abandonDuties n = s.abandonDuties n := by
    rw [abandonDuties_eq, abandonDuties_eq, State.endExchange, updPort_eq, lane_setLane_self, setPort_engine]
    rfl
  rw [abandon_eq from_, if_neg phase, if_pos reading, same]

theorem abandon_of_idle (from_ : (s.lane n).engine.side = some side) (phase : (s.lane n).engine.phase ≠ .resolving)
    (idle : ¬ ((s.lane n).port side).reading = true) : s.abandon n r = s.refuse n r (s.abandonDuties n) := by
  rw [abandon_eq from_, if_neg phase, if_neg idle]

theorem resolve_port (s : State) (n : LaneId) (side : Side) : ((s.resolve n).1.lane n).port side = (s.lane n).port side := by
  have kept (i : SlotId) (outcome : TearOutcome) : (s.closeSlot i outcome n).1.lane n = s.lane n := by simp [State.lane]
  unfold State.resolve
  dsimp only
  split
  · split
    · dsimp only
      rw [updEngine_eq, lane_setLane_self, kept]
      cases side <;> rfl
    · rfl
  · rfl

theorem abandon_of_resolving (from_ : (s.lane n).engine.side = some side) (phase : (s.lane n).engine.phase = .resolving)
    (idle : ¬ ((s.lane n).port side).reading = true) :
    s.abandon n r = (s.resolve n).1.refuse n r ((s.resolve n).1.abandonDuties n) := by
  rw [abandon_eq from_, if_pos phase, if_neg (by rw [resolve_port]; exact idle)]

end Abandon

/-! ### The line at the Incident List (R145, R146) -/

/-- The local incident that an assertion opens, in the room that is made for it. -/
theorem opened_in_room {s : State} {rest : List LineChange} (on : s.powered = true) (oldest : s.incidents.lineIn = .assertion :: rest)
    (valid : s.clock.valid = true) (nobody : ¬ ∃ i ∈ s.incidents.entries, i.origin = .fromLine ∧ i.finish = none)
    {room : List Incident} (made : ({ s.incidents with lineIn := rest } : IncidentList).makePlace = ⟨room, s.incidents.next, rest⟩) :
    let opened := Incident.mk s.incidents.next ((s.fare.active.map (·.station)).getD 0) s.clock.time none .waive .fromLine
    exec .incidentTakesAssertion s = .next { s with
      incidents := ⟨room ++ [opened], freeNumber (room ++ [opened]) 17 (numberAfter s.incidents.next), rest⟩ } := by
  intro opened
  have ran : exec .incidentTakesAssertion s = .next (s.incidentTakes .assertion State.incidentAsserts) := powered_next on
  rw [ran, incidentTakes_of_oldest oldest, State.incidentAsserts, if_pos (show s.clock.valid = true from valid),
    openLocalIncident_of_none (s := { s with incidents := { s.incidents with lineIn := rest } }) nobody]
  dsimp only
  rw [made]
  rfl

/-- Settles O59: each receiver on the state without the change it took; the next number by counting the numbers tried. -/
theorem receiversTakeTheLine : Obligations.ReceiversTakeTheLine := by
  refine ⟨?_, ?_, ?_⟩
  · intro s n rest on l g e list without localOpen
    refine ⟨fun oldest => ?_, fun oldest => ?_, fun oldest => ?_, fun oldest => ?_, fun oldest => ?_, fun oldest => ?_⟩
    · have ran : exec (.gateTakesAssertion n) s = .next (s.gateTakes n .assertion (fun s => s.gateAsserts n)) := powered_next on
      rw [ran, gateTakes_of_oldest oldest, gateAsserts_eq, lane_setLane_self, setLane_setLane]
    · have ran : exec (.gateTakesRelease n) s = .next (s.gateTakes n .release (fun s => s.gateReleases n)) := powered_next on
      rw [ran, gateTakes_of_oldest oldest, State.gateReleases, lane_setLane_self]
    · intro took
      have ran : exec (.engineTakesAssertion n) s = .next ((s.setLane n { l with engine := took }).engineAsserts n) :=
        (powered_next on).trans (congrArg Host.Outcome.next (engineTakes_of_oldest oldest _))
      have phase : ((s.setLane n { l with engine := took }).lane n).engine.phase = e.phase := by rw [lane_setLane_self]
      have marked : (s.setLane n { l with engine := took }).updEngine n (fun e => { e with emergency := true }) =
          s.setLane n { l with engine := { took with emergency := true } } := by
        rw [updEngine_eq, lane_setLane_self, setLane_setLane]
      rw [ran, State.engineAsserts, phase, marked]
      refine ⟨fun quiet => ?_, fun writing => ?_, fun running => ?_⟩
      · rcases quiet with h | h <;> rw [h]
      · rw [writing]
      · rcases running with h | h | h | h <;> rw [h]
    · exact (powered_next on).trans (congrArg Host.Outcome.next (engineTakes_of_oldest oldest _))
    · have ran : exec .incidentTakesAssertion s = .next without.incidentAsserts :=
        (powered_next on).trans (congrArg Host.Outcome.next (incidentTakes_of_oldest oldest _))
      refine ⟨fun invalid => ?_, fun valid isOpen => ?_, fun valid shut room => ?_⟩
      · rw [ran, State.incidentAsserts, if_neg (by rw [show without.clock.valid = false from invalid]; simp)]
        rfl
      · rw [ran, State.incidentAsserts, if_pos (show without.clock.valid = true from valid), openLocalIncident_of_open (s := without) isOpen]
      · exact ⟨_, opened_in_room on oldest valid shut (makePlace_of_room room)⟩
    · have ran : exec .incidentTakesRelease s = .next without.incidentReleases :=
        (powered_next on).trans (congrArg Host.Outcome.next (incidentTakes_of_oldest oldest _))
      refine ⟨fun invalid => ?_, fun valid => ?_⟩
      · rw [ran, State.incidentReleases, if_neg (by rw [show without.clock.valid = false from invalid]; simp)]
        rfl
      · rw [ran, State.incidentReleases, if_pos (show without.clock.valid = true from valid)]
        refine congrArg (fun x : IncidentList => Host.Outcome.next { s with incidents := x }) ?_
        simp only [IncidentList.closeLocal, openLocal_iff]
        rfl
  · intro s rest on oldest valid list opened after made nobody
    have shut : ¬ ∃ i ∈ s.incidents.entries, i.origin = .fromLine ∧ i.finish = none := fun ⟨i, hi, is⟩ => nobody i hi is
    have inRoom (room : List Incident)
        (place : ({ s.incidents with lineIn := rest } : IncidentList).makePlace = ⟨room, s.incidents.next, rest⟩) : made room :=
      ⟨_, opened_in_room on oldest valid shut place, fun free => freeNumber_of_free free 17,
        fun few => freeNumber_free (by rw [List.length_append, List.length_singleton]; omega) _⟩
    exact ⟨fun room => inRoom _ (makePlace_of_room room), fun before old more full entries ended running =>
      inRoom _ (makePlace_of_ended full entries ended running), fun old more full entries running =>
      inRoom _ (makePlace_of_running full entries running)⟩
  · intro s n r side from_ l p claimed duties outstanding ended
    have busy : ((s.lane n).port side).reading = true ↔ outstanding := reading_iff _
    refine ⟨fun phase reading => abandon_of_reading from_ phase (busy.2 reading),
      fun phase idle => abandon_of_idle from_ phase (mt busy.1 idle), ?_, fun phase idle closed => ?_⟩
    · intro id m i f em wt ex phase idle named imaged slot torn resolved
      have whole := abandon_of_resolving (r := r) from_ phase (mt busy.1 idle)
      rw [resolve_of_open named imaged slot torn] at whole
      refine ⟨fun counter image => ?_, fun counter apart => ?_, fun old new => ?_⟩
      · rw [classify_landed counter image] at whole
        exact whole
      · rw [classify_notLanded counter apart] at whole
        exact whole
      · rw [classify_conflict old new] at whole
        exact whole
    · have whole := abandon_of_resolving (r := r) from_ phase (mt busy.1 idle)
      rw [resolve_of_none closed] at whole
      exact whole

end Sys2Proof.Machine
end

section
/-! PROOF. INITIALISE STORE: its tests, its clearing steps and its end (R192, R198, R199, R204). -/

namespace Sys2Proof.Machine

theorem ready_of_initialising {s : State} (running : s.initialising = true) : s.ready = false := by
  simp [State.ready, State.partReasons, running]

theorem ready_of_no_table {s : State} (absent : s.fare.active = none) : s.ready = false := by
  simp [State.ready, State.partReasons, absent]

theorem settleReadiness_of_same {s : State} {before : Bool} (same : s.ready = before) : s.settleReadiness before = s := if_pos same

/-- Every gate but one in FAULT is out of service in a part that is no longer READY (R121, R192). -/
theorem settleReadiness_shut {s : State} (unready : s.ready = false) (n : LaneId) :
    ((s.settleReadiness true).lane n).gate.state = .outOfService ∨ ((s.settleReadiness true).lane n).gate.state = .fault := by
  have all : s.settleReadiness true = s.eachLane (fun n t => t.settleService n) := if_neg (by simp [unready])
  obtain ⟨w, ready, lane, result⟩ := eachLane_at (f := fun n t => t.settleService n) (P := fun w => w.ready = s.ready)
    (fun m w k other => settleService_lane_ne w other) (fun m w h => (settleService_ready w m).trans h) (s := s) rfl n
  rw [all, result]
  have unserved : ((w.lane n).config.service && w.ready) = false := by rw [ready, unready, Bool.and_false]
  by_cases fault : (w.lane n).gate.state = .fault
  · rw [settleService_of_fault fault]
    exact .inr fault
  by_cases out : (w.lane n).gate.state = .outOfService
  · rw [settleService_of_out out unserved]
    exact .inl out
  · rw [settleService_enters fault out unserved, State.enterOutOfService, settleGate_eq, lane_setLane_self, settle_eq, updGate_eq,
      lane_setLane_self]
    exact .inl (by simp [Lane.nextState])

/-! ### The tests (R198) -/

theorem isOpen_iff (x : Slot) : x.isOpen = true ↔ ∃ f em wt ex, x = .opened f em wt ex := by
  cases x <;> simp [Slot.isOpen]

section Tests
variable {s : State}

theorem initialiseRefusal_of_records (held : s.journal.count ≠ 0) :
    s.initialiseRefusal = some ⟨.orderError, 0x18, none, some s.journal.count⟩ := if_pos held

theorem initialiseRefusal_of_slot {i : SlotId} (empty : s.journal.count = 0) (torn : (s.slot i).isOpen = true)
    (first : ∀ j, j < i → (s.slot j).isOpen = false) : s.initialiseRefusal = some ⟨.orderError, 0x19, none, some i.val⟩ := by
  have found : slotIds.find? (fun i => (s.slot i).isOpen) = some i := by
    rw [slotIds_eq, find_first]
    exact ⟨torn, first⟩
  unfold State.initialiseRefusal
  rw [if_neg (not_not.2 empty), found]
  rfl

theorem initialiseRefusal_of_closed (empty : s.journal.count = 0) (closed : ∀ i, (s.slot i).isOpen = false) :
    s.initialiseRefusal = if s.emergency.taken then some ⟨.orderError, 0x0E, none, none⟩ else none := by
  have absent : slotIds.find? (fun i => (s.slot i).isOpen) = none := by
    rw [slotIds_eq, find_none]
    exact closed
  unfold State.initialiseRefusal
  rw [if_neg (not_not.2 empty), absent]
  rfl

end Tests

/-! ### The clearing steps and the end (R199, R204) -/

theorem clearFare_eq {s : State} (running : s.initialising = true) :
    s.clearFare = { s with fare := ⟨none, .none, s.retire s.fare.active⟩, proc := { s.proc with initStage := 3 } } := by
  refine settleReadiness_of_same ?_
  rw [ready_of_initialising running]
  exact ready_of_initialising running

theorem clearIncidents_eq (s : State) :
    s.clearIncidents = { s with incidents := { s.incidents with
      entries := s.incidents.entries.filter (fun i => decide (i.origin = .fromLine ∧ i.finish = none)) } } := by
  have same : Incident.openLocal = fun i => decide (i.origin = .fromLine ∧ i.finish = none) := by
    funext i
    rw [← Bool.coe_iff_coe, openLocal_iff, decide_eq_true_iff]
  rw [State.clearIncidents, same]

theorem endInitialise_eq {s : State} {op : LongOp} (running : s.initialising = true) (stage : s.proc.initStage = 4)
    (tracker : s.proc.tracker = some op) (absent : s.fare.active = none) (failed : Option (Fin 4)) :
    s.endInitialise failed = (s.endLong (failed.map (fun k => Sense.mk .resource 0x1A none (some (k.val + 1))))).setStage 0 := by
  unfold State.endInitialise
  rw [if_pos ⟨running, stage⟩]
  refine settleReadiness_of_same ?_
  rw [ready_of_no_table absent]
  exact ready_of_no_table (by simpa using absent)

/-- Settles O38: the tests in order, then each step by its equation; readiness is settled already where it would be settled again. -/
theorem initialiseStoreClearsInSteps : Obligations.InitialiseStoreClearsInSteps := by
  refine ⟨?_, ?_, ?_⟩
  · intro base nvwp r rest s takes u slotOpen
    have answered : exec (.initialiseStore nvwp) base = .next (if nvwp = false then u.checked r ⟨.notReady, 0x04, none, none⟩ else
        (initialiseStore r u).1.answer r.tag r.target (initialiseStore r u).2) := serveProtected_answers takes rfl
    have ran (high : s.nvwp = true) : exec (.initialiseStore nvwp) base =
        .next ((initialiseStore r u).1.answer r.tag r.target (initialiseStore r u).2) :=
      answered.trans (congrArg _ (if_neg (by simp [show nvwp = true from high])))
    have refusing (x : Sense) (high : s.nvwp = true) (refuses : u.initialiseRefusal = some x) :
        exec (.initialiseStore nvwp) base = .next (u.checked r x) := by
      rw [ran high, initialiseStore, refuses]
      rfl
    have journal : u.journal = s.journal := by simp [u]
    have slot (i : SlotId) : u.slot i = s.slot i := by simp [u, State.slot]
    have emergency : u.emergency = s.emergency := by simp [u]
    have opens (i : SlotId) : (u.slot i).isOpen = slotOpen i := by
      rw [slot]
      simp only [slotOpen]
      cases s.slot i <;> rfl
    refine ⟨fun low => answered.trans (congrArg _ (if_pos low)), fun high held => ?_, fun i high empty torn first => ?_,
      fun high empty closed taken => ?_, fun high empty closed free => ?_⟩
    · rw [refusing _ high (initialiseRefusal_of_records (by rw [journal]; exact held)), journal]
    · exact refusing _ high (initialiseRefusal_of_slot (by rw [journal]; exact empty) ((opens i).trans torn)
        fun j below => (opens j).trans (first j below))
    · refine refusing _ high ((initialiseRefusal_of_closed (by rw [journal]; exact empty) fun i => (opens i).trans (closed i)).trans ?_)
      rw [if_pos (by rw [emergency]; exact taken)]
    · have passes : u.initialiseRefusal = none :=
        (initialiseRefusal_of_closed (by rw [journal]; exact empty) fun i => (opens i).trans (closed i)).trans
          (if_neg (by rw [emergency, free]; simp))
      have tracker : u.proc.tracker = s.proc.tracker := by simp only [u, takeRequest_fields]
      refine ⟨fun busy => ?_, fun idle => ?_⟩
      · rw [ran high, initialiseStore, passes]
        dsimp only
        rw [if_pos (by rw [tracker]; exact Option.isSome_iff_ne_none.2 busy)]
        rfl
      · have started : initialiseStore r u = (u.startInitialise r, .accepted) := by
          rw [initialiseStore, passes]
          dsimp only
          rw [if_neg (by rw [tracker, idle]; simp)]
        rw [ran high, started]
        have proc : (u.startInitialise r).proc = { u.proc with tracker := some ⟨r.tag, 0x21, false⟩, initStage := 0 } := by
          simp only [State.startInitialise, settleReadiness_frame, State.startLong, code_of_takes takes]
        have running : (u.startInitialise r).initialising = true := (initialising_iff _).2 ⟨_, by rw [proc], rfl, rfl⟩
        have ready : u.ready = s.ready := takeRequest_ready s r rest
        have link : (u.startInitialise r).link = { s.link with requests := rest } := by
          rw [startInitialise_frame u r |>.2.2.2.2.1]
          exact takeRequest_link s r rest
        have shut (was : s.ready = true) (n : LaneId) : ((u.startInitialise r).lane n).gate.state = .outOfService ∨
            ((u.startInitialise r).lane n).gate.state = .fault := by
          have unready : ({ u.startLong r with proc := { (u.startLong r).proc with initStage := 0 } } : State).ready = false :=
            ready_of_initialising ((initialising_iff _).2 ⟨_, rfl, code_of_takes takes, rfl⟩)
          rw [State.startInitialise, ready, was]
          exact settleReadiness_shut unready n
        have frame := startInitialise_frame u r
        generalize u.startInitialise r = v at *
        obtain ⟨_, _, _, _, _, _, hot, recovery, fare, incidents, keys, _, _, clock, _, entries, _⟩ := frame
        refine ⟨_, rfl, ready_of_initialising (s := v.answer r.tag r.target .accepted) running, congrArg Processor.tracker proc,
          congrArg Processor.initStage proc, shut, ?_, ?_, ?_, ?_, ?_, ?_, ?_, ?_⟩
        · exact entries.trans (by simp [u])
        · exact hot.trans (by simp [u])
        · exact fare.trans (by simp [u])
        · exact incidents.trans (by simp [u])
        · exact keys.trans (by simp [u])
        · exact recovery.trans (by simp [u])
        · exact clock.trans (by simp [u])
        · rw [answer_link, link]
          rfl
  · intro s on running
    have cleared : exec .initialiseStoreClear s = .next s.clearNext := powered_next on
    rw [cleared, State.clearNext, if_pos running]
    refine ⟨fun stage => ?_, fun stage => ?_, fun stage free => ?_, fun stage held => ?_, fun stage => ?_⟩
    · rw [stage]
      rfl
    · rw [stage]
      rfl
    · rw [stage]
      dsimp only
      rw [if_neg (by rw [free]; simp), clearFare_eq running, retire_eq] <;> rfl
    · rw [stage]
      exact congrArg _ (if_pos (Option.isSome_iff_ne_none.2 held))
    · rw [stage]
      dsimp only
      rw [clearIncidents_eq]
      rfl
  · intro s op failed on running stage tracker absent
    have ended : exec (.initialiseStoreEnd failed) s = .next (s.endInitialise failed) := powered_next on
    rw [ended, endInitialise_eq running stage tracker absent]
    cases failed with
    | none =>
      rw [Option.map_none, endLong_good tracker]
      rfl
    | some k =>
      rw [Option.map_some, endLong_check tracker]
      rfl

end Sys2Proof.Machine
end

section
/-! PROOF. Power (R46): what the slots of the Recovery Table and the Seen-Card Table become at power-on (R80, R108), and what a power
loss keeps. -/
namespace Sys2Proof.Machine

/-! ### What power-on leaves of one slot -/

/-- The slot at power-on (R108). -/
def Slot.powerUp : Slot → Slot
  | .free => .free
  | .reserved f => .opened f false none none
  | .opened f em wt _ => .opened f em wt none

/-- The entry that a torn card leaves most recent, where entries do not age: the station time is 0 at power-on (R76, R80). -/
def State.tornEntry (s : State) (i : SlotId) (f : SlotFields) : SeenEntry :=
  ((s.seenEntry f.identity).map (fun e => { e with tearPending := some i })).getD
    ⟨f.identity, f.oldCounter, 0, f.lane, f.direction, .refused, false, some i⟩

/-- The entries of one identity. -/
def State.entriesOf (s : State) (id : Identity) : List SeenEntry := s.seen.entries.filter (fun e => e.identity == id)

theorem mem_entriesOf {s : State} {id : Identity} {e : SeenEntry} :
    e ∈ s.entriesOf id ↔ e ∈ s.seen.entries ∧ e.identity = id := by
  simp [State.entriesOf]

theorem seenEntry_eq_head? (s : State) (id : Identity) : s.seenEntry id = (s.entriesOf id).head? :=
  (List.head?_filter ..).symm

theorem seenLookup_of_time_zero {s : State} (zero : s.clock.time = 0) (id : Identity) : s.seenLookup id = s.seenEntry id := by
  have young : ∀ e, s.older e = false := fun e => by simp [State.older, zero]
  unfold State.seenLookup
  cases s.seenEntry id with
  | none => rfl
  | some e => simp [young]

theorem tornEntry_identity (s : State) (i : SlotId) (f : SlotFields) : (s.tornEntry i f).identity = f.identity := by
  unfold State.tornEntry
  cases found : s.seenEntry f.identity with
  | none => rfl
  | some e => exact (mem_of_seenEntry found).2

/-- With room in the table a mark replaces the entries of the card by one. -/
theorem markTear_of_room {s : State} (zero : s.clock.time = 0) (room : s.seen.entries.length < 8192) (i : SlotId) (f : SlotFields) :
    s.markTear i f = s.setEntries (withoutId s.seen.entries f.identity ++ [s.tornEntry i f]) := by
  unfold State.markTear State.tornEntry
  rw [seenLookup_of_time_zero zero]
  cases found : s.seenEntry f.identity with
  | none =>
    dsimp only
    rw [newEntry_of_room ((List.length_filter_le _ _).trans_lt room), zero]
    rfl
  | some e =>
    have named := (mem_of_seenEntry found).2
    exact congrArg (fun id => s.setEntries (withoutId s.seen.entries id ++ [{ e with tearPending := some i }])) named

/-- A mark touches the entries alone. -/
theorem markTear_sweepDue (s : State) (i : SlotId) (f : SlotFields) : (s.markTear i f).seen.sweepDue = s.seen.sweepDue := by
  unfold State.markTear
  split <;> rfl

theorem markTear_slot (s : State) (i : SlotId) (f : SlotFields) (k : SlotId) : (s.markTear i f).slot k = s.slot k := by
  simp [State.slot]

section Slots
variable {s : State} {i : SlotId} {f : SlotFields}

theorem powerUpSlot_of_reserved (is : s.slot i = .reserved f) :
    s.powerUpSlot i = (s.setSlot i (.opened f false none none)).markTear i f := by
  simp only [State.powerUpSlot, is]

theorem powerUpSlot_of_not_reserved (not : ∀ g, s.slot i ≠ .reserved g) : s.powerUpSlot i = s.setSlot i (s.slot i).powerUp := by
  unfold State.powerUpSlot
  split
  · next free =>
    rw [free]
    simp [State.setSlot, Slot.powerUp, ← free, State.slot]
  · next g is => exact absurd is (not g)
  · next is =>
    rw [is]
    rfl

theorem powerUpSlot_slot_self (s : State) (i : SlotId) : (s.powerUpSlot i).slot i = (s.slot i).powerUp := by
  by_cases reserved : ∃ f, s.slot i = .reserved f
  · obtain ⟨f, is⟩ := reserved
    rw [powerUpSlot_of_reserved is, is]
    rw [markTear_slot, slot_setSlot_self]
    rfl
  · rw [powerUpSlot_of_not_reserved (fun g is => reserved ⟨g, is⟩), slot_setSlot_self]

theorem powerUpSlot_slot_ne (s : State) {i k : SlotId} (other : k ≠ i) : (s.powerUpSlot i).slot k = s.slot k := by
  by_cases reserved : ∃ f, s.slot i = .reserved f
  · obtain ⟨f, is⟩ := reserved
    rw [powerUpSlot_of_reserved is]
    rw [markTear_slot, slot_setSlot_ne _ other]
  · rw [powerUpSlot_of_not_reserved (fun g is => reserved ⟨g, is⟩), slot_setSlot_ne _ other]

theorem powerUpSlot_sweepDue (s : State) (i : SlotId) : (s.powerUpSlot i).seen.sweepDue = s.seen.sweepDue := by
  unfold State.powerUpSlot
  split
  · rfl
  · exact markTear_sweepDue _ _ _
  · rfl

/-- A slot that is reserved after the step of another was reserved before it. -/
theorem reserved_of_powerUpSlot {k : SlotId} (is : (s.powerUpSlot i).slot k = .reserved f) : s.slot k = .reserved f := by
  by_cases same : k = i
  · rw [same, powerUpSlot_slot_self] at is
    cases was : s.slot i <;> simp [was, Slot.powerUp] at is
  · exact (powerUpSlot_slot_ne s same).symm.trans is

/-! ### What power-on leaves of the seen entries -/

theorem powerUpSlot_entries_of_not_reserved (not : ∀ g, s.slot i ≠ .reserved g) :
    (s.powerUpSlot i).seen.entries = s.seen.entries := by
  rw [powerUpSlot_of_not_reserved not, setSlot_seen]

theorem powerUpSlot_entries (zero : s.clock.time = 0) (room : s.seen.entries.length < 8192) (is : s.slot i = .reserved f) :
    (s.powerUpSlot i).seen.entries = withoutId s.seen.entries f.identity ++ [s.tornEntry i f] := by
  rw [powerUpSlot_of_reserved is, markTear_of_room (s := s.setSlot i _) zero room]
  rfl

theorem powerUpSlot_length (zero : s.clock.time = 0) (room : s.seen.entries.length < 8192) :
    (s.powerUpSlot i).seen.entries.length ≤ s.seen.entries.length + 1 := by
  by_cases reserved : ∃ f, s.slot i = .reserved f
  · obtain ⟨f, is⟩ := reserved
    rw [powerUpSlot_entries zero room is, List.length_append]
    exact Nat.add_le_add_right (List.length_filter_le _ _) 1
  · rw [powerUpSlot_entries_of_not_reserved fun g is => reserved ⟨g, is⟩]
    exact Nat.le_succ _

theorem powerUpSlot_entriesOf {id : Identity} (zero : s.clock.time = 0) (room : s.seen.entries.length < 8192)
    (others : ∀ g, s.slot i = .reserved g → g.identity ≠ id) : (s.powerUpSlot i).entriesOf id = s.entriesOf id := by
  by_cases reserved : ∃ f, s.slot i = .reserved f
  · obtain ⟨f, is⟩ := reserved
    have away := others f is
    have torn : ((s.tornEntry i f).identity == id) = false := by simpa [tornEntry_identity] using away
    have kept : ∀ e ∈ s.seen.entries, ((e.identity == id) && (e.identity != f.identity)) = (e.identity == id) := by
      intro e _
      by_cases own : e.identity = id
      · simp [own, Ne.symm away]
      · simp [own]
    unfold State.entriesOf
    rw [powerUpSlot_entries zero room is, List.filter_append, withoutId, List.filter_filter, List.filter_congr kept,
      List.filter_cons_of_neg (by simp [torn]), List.filter_nil, List.append_nil]
  · rw [State.entriesOf, powerUpSlot_entries_of_not_reserved fun g is => reserved ⟨g, is⟩, State.entriesOf]

theorem tornEntry_mem_powerUpSlot (zero : s.clock.time = 0) (room : s.seen.entries.length < 8192) (is : s.slot i = .reserved f) :
    s.tornEntry i f ∈ (s.powerUpSlot i).entriesOf f.identity := by
  rw [mem_entriesOf, powerUpSlot_entries zero room is]
  exact ⟨by simp, tornEntry_identity s i f⟩

end Slots

/-! ### The slots in their order -/

/-- The slots of a list, opened in its order (R108). -/
def State.powerUpSlots (s : State) (ids : List SlotId) : State := ids.foldl (fun t i => t.powerUpSlot i) s

theorem powerUpSlots_cons (s : State) (i : SlotId) (ids : List SlotId) :
    s.powerUpSlots (i :: ids) = (s.powerUpSlot i).powerUpSlots ids := rfl

theorem powerUpSlots_append (s : State) (before after : List SlotId) :
    s.powerUpSlots (before ++ after) = (s.powerUpSlots before).powerUpSlots after := List.foldl_append ..

theorem powerUpSlots_frame (s : State) (ids : List SlotId) :
    (s.powerUpSlots ids).powered = s.powered ∧ (s.powerUpSlots ids).nvwp = s.nvwp ∧ (s.powerUpSlots ids).link = s.link ∧
    (s.powerUpSlots ids).proc = s.proc ∧ (s.powerUpSlots ids).lanes = s.lanes ∧ (s.powerUpSlots ids).claims = s.claims ∧
    (s.powerUpSlots ids).hot = s.hot ∧ (s.powerUpSlots ids).fare = s.fare ∧ (s.powerUpSlots ids).incidents = s.incidents ∧
    (s.powerUpSlots ids).keys = s.keys ∧ (s.powerUpSlots ids).journal = s.journal ∧ (s.powerUpSlots ids).window = s.window ∧
    (s.powerUpSlots ids).retention = s.retention ∧ (s.powerUpSlots ids).clock = s.clock ∧
    (s.powerUpSlots ids).notices = s.notices ∧ (s.powerUpSlots ids).emergency = s.emergency ∧
    (s.powerUpSlots ids).seen.inbox = s.seen.inbox ∧ (s.powerUpSlots ids).seen.sweepDue = s.seen.sweepDue := by
  have keeps : ∀ {α : Type} (π : State → α), (∀ t i, π (t.powerUpSlot i) = π t) → π (s.powerUpSlots ids) = π s :=
    fun π each => foldl_keeps π _ each ids s
  refine ⟨keeps (·.powered) ?_, keeps (·.nvwp) ?_, keeps (·.link) ?_, keeps (·.proc) ?_, keeps (·.lanes) ?_, keeps (·.claims) ?_,
    keeps (·.hot) ?_, keeps (·.fare) ?_, keeps (·.incidents) ?_, keeps (·.keys) ?_, keeps (·.journal) ?_, keeps (·.window) ?_,
    keeps (·.retention) ?_, keeps (·.clock) ?_, keeps (·.notices) ?_, keeps (·.emergency) ?_, keeps (·.seen.inbox) ?_,
    keeps (·.seen.sweepDue) powerUpSlot_sweepDue⟩
  all_goals exact fun t i => by simp

theorem powerUpSlots_slot (s : State) (i : SlotId) : (s.powerUpSlots slotIds).slot i = (s.slot i).powerUp := by
  rw [slotIds_eq]
  obtain ⟨w, _, same, at_i⟩ := foldl_at (view := State.slot) (f := fun t i => t.powerUpSlot i) (P := fun _ => True)
    (fun m w k other => powerUpSlot_slot_ne w other) (fun _ _ _ => trivial) (s := s) trivial i
  exact at_i.trans ((powerUpSlot_slot_self w i).trans (congrArg Slot.powerUp same))

theorem reserved_of_powerUpSlots {i : SlotId} {f : SlotFields} : ∀ (ids : List SlotId) {s : State},
    (s.powerUpSlots ids).slot i = .reserved f → s.slot i = .reserved f
  | [], _, is => is
  | _ :: ids, _, is => reserved_of_powerUpSlot (reserved_of_powerUpSlots ids is)

theorem powerUpSlots_slot_of_not_mem {i : SlotId} : ∀ (ids : List SlotId) (s : State), i ∉ ids → (s.powerUpSlots ids).slot i = s.slot i
  | [], _, _ => rfl
  | k :: ids, s, absent => by
    rw [List.mem_cons, not_or] at absent
    rw [powerUpSlots_cons, powerUpSlots_slot_of_not_mem ids _ absent.2, powerUpSlot_slot_ne s absent.1]

theorem powerUpSlots_length : ∀ (ids : List SlotId) {s : State}, s.clock.time = 0 → s.seen.entries.length + ids.length ≤ 8192 →
    (s.powerUpSlots ids).seen.entries.length ≤ s.seen.entries.length + ids.length
  | [], _, _, _ => Nat.le_refl _
  | i :: ids, s, zero, room => by
    rw [List.length_cons] at room ⊢
    have step := powerUpSlot_length (i := i) zero (by omega)
    have rest := powerUpSlots_length ids (s := s.powerUpSlot i) (by simpa using zero) (by omega)
    rw [powerUpSlots_cons]
    omega

theorem powerUpSlots_entries_of_not_reserved : ∀ (ids : List SlotId) {s : State}, (∀ i f, s.slot i ≠ .reserved f) →
    (s.powerUpSlots ids).seen.entries = s.seen.entries
  | [], _, _ => rfl
  | i :: ids, _, not =>
    (powerUpSlots_entries_of_not_reserved ids fun k f is => not k f (reserved_of_powerUpSlot is)).trans
      (powerUpSlot_entries_of_not_reserved (not i))

/-- The entries of a card that no slot of the list is reserved for stay. -/
theorem powerUpSlots_entriesOf {id : Identity} : ∀ (ids : List SlotId) {s : State}, s.clock.time = 0 →
    s.seen.entries.length + ids.length ≤ 8192 → (∀ i ∈ ids, ∀ f, s.slot i = .reserved f → f.identity ≠ id) →
    (s.powerUpSlots ids).entriesOf id = s.entriesOf id
  | [], _, _, _, _ => rfl
  | i :: ids, s, zero, room, others => by
    rw [List.length_cons] at room
    have step := powerUpSlot_length (i := i) zero (by omega)
    have rest := powerUpSlots_entriesOf (id := id) ids (s := s.powerUpSlot i) (by simpa using zero) (by omega)
      fun k member f is => others k (List.mem_cons_of_mem _ member) f (reserved_of_powerUpSlot is)
    exact rest.trans (powerUpSlot_entriesOf zero (by omega) (others i List.mem_cons_self))

/-- The one slot reserved for a card leaves the torn entry of the entries before power-on. -/
theorem tornEntry_mem_powerUpSlots {s : State} {i : SlotId} {f : SlotFields} (zero : s.clock.time = 0)
    (room : s.seen.entries.length + 8 ≤ 8192) (is : s.slot i = .reserved f)
    (only : ∀ j g, s.slot j = .reserved g → g.identity = f.identity → j = i) :
    s.tornEntry i f ∈ (s.powerUpSlots slotIds).seen.entries := by
  obtain ⟨before, after, split⟩ := List.append_of_mem (List.mem_finRange i)
  have once : (before ++ i :: after).Nodup := split ▸ List.nodup_finRange 8
  rw [List.nodup_append, List.nodup_cons] at once
  obtain ⟨_, ⟨notAfter, _⟩, disjoint⟩ := once
  have notBefore : i ∉ before := fun h => disjoint i h i List.mem_cons_self rfl
  have count : before.length + (after.length + 1) = 8 := by
    simpa using congrArg List.length split.symm
  obtain ⟨w, is_w⟩ : ∃ w, s.powerUpSlots before = w := ⟨_, rfl⟩
  have wZero : w.clock.time = 0 := by
    obtain ⟨_, _, _, _, _, _, _, _, _, _, _, _, _, clock, _⟩ := powerUpSlots_frame s before
    rw [← is_w, clock, zero]
  have wLength : w.seen.entries.length ≤ s.seen.entries.length + before.length :=
    is_w ▸ powerUpSlots_length before zero (by omega)
  have wSlot : w.slot i = .reserved f := is_w ▸ (powerUpSlots_slot_of_not_mem before s notBefore).trans is
  have wEntries : w.entriesOf f.identity = s.entriesOf f.identity := is_w ▸ powerUpSlots_entriesOf before zero (by omega)
    fun k member g reserved own => notBefore (only k g reserved own ▸ member)
  have torn : w.tornEntry i f = s.tornEntry i f := by
    simp only [State.tornEntry, seenEntry_eq_head?, wEntries]
  have step := powerUpSlot_length (s := w) (i := i) wZero (by omega)
  have later : (s.powerUpSlots slotIds).entriesOf f.identity = (w.powerUpSlot i).entriesOf f.identity := by
    rw [slotIds_eq, split, powerUpSlots_append, powerUpSlots_cons, is_w]
    refine powerUpSlots_entriesOf after (by simpa using wZero) (by omega) fun k member g reserved own => ?_
    exact notAfter (only k g (reserved_of_powerUpSlots before (is_w ▸ reserved_of_powerUpSlot reserved)) own ▸ member)
  have marked := tornEntry_mem_powerUpSlot wZero (by omega) wSlot
  rw [← later, torn] at marked
  exact (mem_entriesOf.1 marked).1

/-! ### The rest of the part -/

theorem clearVolatile_lane (s : State) (n : LaneId) : s.clearVolatile.lane n = (s.lane n).powerUp := by
  simp [State.lane, State.clearVolatile]

theorem clearVolatile_claim (s : State) (n : LaneId) : s.clearVolatile.claim n = none := by
  simp [State.claim, State.clearVolatile]

theorem strapRate_eq (slb1 slb0 : Bool) : strapRate slb1 slb0 = match slb1, slb0 with
    | false, false => 115200
    | false, true => 230400
    | true, false => 460800
    | true, true => 921600 := by
  cases slb1 <;> cases slb0 <;> rfl

theorem pending_powerUp_waiting {p : PendingTable} {table : FareTable} {time : Nat} (is : p = .waiting table time) :
    p.powerUp = .waiting table time := by
  rw [is]
  rfl

/-- An append leaves what the journal is set to (R161, R163). -/
theorem record_limits (s : State) (lane : Option LaneId) (flags : RecordFlags) (b : RecordBody) :
    (s.record lane flags b).journal.limit = s.journal.limit ∧ (s.record lane flags b).journal.thresholdA = s.journal.thresholdA ∧
    (s.record lane flags b).journal.thresholdB = s.journal.thresholdB := by
  have gap : s.storeGap.journal.limit = s.journal.limit ∧ s.storeGap.journal.thresholdA = s.journal.thresholdA ∧
      s.storeGap.journal.thresholdB = s.journal.thresholdB := by
    by_cases none : s.journal.reserved = true ∨ s.journal.gapCount = 0
    · rw [storeGap_of_none none]
      exact ⟨rfl, rfl, rfl⟩
    · rw [not_or, Bool.not_eq_true] at none
      rw [storeGap_of_owed none.1 none.2]
      exact ⟨rfl, rfl, rfl⟩
  unfold State.record State.append
  dsimp only
  split
  · rw [storeRecord_eq]
    exact gap
  · exact gap

/-- While the station time is invalid an append's record is told by the journal alone (R155). -/
theorem record_journal_of_invalid {s t : State} (journal : t.journal = s.journal) (invalid : s.clock.valid = false)
    (invalid' : t.clock.valid = false) (lane : Option LaneId) (flags : RecordFlags) (b : RecordBody) :
    (t.record lane flags b).journal = (s.record lane flags b).journal := by
  simp only [State.record, State.append, State.storeGap, storeRecord_eq, State.recordTime, invalid, invalid', journal]
  split_ifs <;> simp_all

/-- Volatile state afresh and the straps sampled (R46, R165, R168). -/
def State.restarted (s : State) (slb1 slb0 nvwp : Bool) : State :=
  { s.clearVolatile with powered := true, nvwp := nvwp, link := { s.clearVolatile.link with rate := strapRate slb1 slb0 } }

/-- The part at power-on before the slots of the Recovery Table are opened (R46). -/
def State.begun (s : State) (slb1 slb0 nvwp : Bool) : State :=
  (s.restarted slb1 slb0 nvwp).record none RecordFlags.clear .timePowerOn

theorem powerOn_eq (s : State) (slb1 slb0 nvwp : Bool) :
    s.powerOn slb1 slb0 nvwp = (s.begun slb1 slb0 nvwp).powerUpSlots slotIds := rfl

theorem powerOn_frame (s : State) (slb1 slb0 nvwp : Bool) :
    let t := s.powerOn slb1 slb0 nvwp
    let v := s.clearVolatile
    t.powered = true ∧ t.nvwp = nvwp ∧ t.link = { v.link with rate := strapRate slb1 slb0 } ∧ t.proc = v.proc ∧
    t.lanes = v.lanes ∧ t.claims = v.claims ∧ t.hot = v.hot ∧ t.fare = v.fare ∧ t.incidents = v.incidents ∧ t.keys = v.keys ∧
    t.window = v.window ∧ t.retention = v.retention ∧ t.clock = v.clock ∧ t.emergency = v.emergency ∧
    t.notices.conditions = v.notices.conditions ∧ t.notices.pending = v.notices.pending ∧ t.notices.levels = v.notices.levels ∧
    t.seen.inbox = v.seen.inbox ∧ t.seen.sweepDue = v.seen.sweepDue ∧ t.journal = (s.begun slb1 slb0 nvwp).journal := by
  intro t v
  have frame := powerUpSlots_frame (s.begun slb1 slb0 nvwp) slotIds
  rw [← powerOn_eq] at frame
  obtain ⟨powered, nvwp', link, proc, lanes, claims, hot, fare, incidents, keys, journal, window, retention, clock, notices,
    emergency, inbox, sweep⟩ := frame
  rw [show t = s.powerOn slb1 slb0 nvwp from rfl, powered, nvwp', link, proc, lanes, claims, hot, fare, incidents, keys, journal,
    window, retention, clock, notices, emergency, inbox, sweep]
  refine ⟨?_, ?_, ?_, ?_, ?_, ?_, ?_, ?_, ?_, ?_, ?_, ?_, ?_, ?_, ?_, ?_, ?_, ?_, ?_, rfl⟩
  all_goals simp [State.begun, State.restarted, v]

/-- What power takes from no state (R46): the nonvolatile stores, the raw line and the pins. -/
def State.keepsNonvolatile (s t : State) : Prop :=
  (∀ n, (t.lane n).config = (s.lane n).config) ∧ (∀ n, (t.lane n).inputs = (s.lane n).inputs) ∧
  t.hot.active = s.hot.active ∧ t.hot.locals = s.hot.locals ∧ t.fare.active = s.fare.active ∧
  (∀ table time, s.fare.pending = .waiting table time → t.fare.pending = .waiting table time) ∧
  t.incidents.entries = s.incidents.entries ∧ t.incidents.next = s.incidents.next ∧ t.keys = s.keys ∧
  t.journal.limit = s.journal.limit ∧ t.journal.thresholdA = s.journal.thresholdA ∧
  t.journal.thresholdB = s.journal.thresholdB ∧ t.window = s.window ∧ t.retention = s.retention ∧
  t.notices.levels = s.notices.levels ∧ t.emergency.rawLow = s.emergency.rawLow

theorem keepsNonvolatile_clearVolatile (s : State) : s.keepsNonvolatile s.clearVolatile :=
  ⟨fun n => by rw [clearVolatile_lane]; rfl, fun n => by rw [clearVolatile_lane]; rfl, rfl, rfl, rfl,
    fun _ _ => pending_powerUp_waiting, rfl, rfl, rfl, rfl, rfl, rfl, rfl, rfl, rfl, rfl⟩

theorem keepsNonvolatile_powerOn (s : State) (slb1 slb0 nvwp : Bool) : s.keepsNonvolatile (s.powerOn slb1 slb0 nvwp) := by
  obtain ⟨_, _, _, _, lanes, _, hot, fare, incidents, keys, window, retention, _, emergency, _, _, levels, _, _, journal⟩ :=
    powerOn_frame s slb1 slb0 nvwp
  obtain ⟨limit, thresholdA, thresholdB⟩ := record_limits (s.restarted slb1 slb0 nvwp) none RecordFlags.clear .timePowerOn
  have kept := keepsNonvolatile_clearVolatile s
  unfold State.keepsNonvolatile State.lane at kept ⊢
  rw [lanes, hot, fare, incidents, keys, window, retention, emergency, levels, journal, State.begun, limit, thresholdA, thresholdB]
  exact kept

theorem powerOn_lane (s : State) (slb1 slb0 nvwp : Bool) (n : LaneId) :
    (s.powerOn slb1 slb0 nvwp).lane n = (s.lane n).powerUp := by
  obtain ⟨_, _, _, _, lanes, _⟩ := powerOn_frame s slb1 slb0 nvwp
  exact (congrArg (·[n.val]) lanes).trans (clearVolatile_lane s n)

theorem powerOn_claim (s : State) (slb1 slb0 nvwp : Bool) (n : LaneId) : (s.powerOn slb1 slb0 nvwp).claim n = none := by
  obtain ⟨_, _, _, _, _, claims, _⟩ := powerOn_frame s slb1 slb0 nvwp
  exact (congrArg (·[n.val]) claims).trans (clearVolatile_claim s n)

section Begun
variable (s : State) (slb1 slb0 nvwp : Bool)

theorem begun_slot (i : SlotId) : (s.begun slb1 slb0 nvwp).slot i = s.slot i := by
  simp [State.begun, State.restarted, State.slot]

theorem begun_entries : (s.begun slb1 slb0 nvwp).seen.entries = s.seen.entries := by
  simp [State.begun, State.restarted]

theorem begun_time : (s.begun slb1 slb0 nvwp).clock.time = 0 := by
  simp [State.begun, State.restarted, State.clearVolatile]

theorem begun_tornEntry (i : SlotId) (f : SlotFields) : (s.begun slb1 slb0 nvwp).tornEntry i f = s.tornEntry i f := by
  simp only [State.tornEntry, State.seenEntry, begun_entries]

theorem begun_journal : (s.begun slb1 slb0 nvwp).journal =
    ({ s with clock := { s.clock with valid := false } }.record none RecordFlags.clear .timePowerOn).journal :=
  record_journal_of_invalid (s := { s with clock := { s.clock with valid := false } })
    (t := s.restarted slb1 slb0 nvwp) rfl rfl rfl _ _ _

/-- What power-on leaves in the Seen-Card Table (R80, R108). -/
theorem powerOn_entries :
    let t := s.powerOn slb1 slb0 nvwp
    ((∀ i f, s.slot i ≠ .reserved f) → t.seen.entries = s.seen.entries) ∧
    (s.seen.entries.length + 8 ≤ 8192 →
      (∀ e ∈ s.seen.entries, (∀ i f, s.slot i = .reserved f → f.identity ≠ e.identity) → e ∈ t.seen.entries) ∧
      (∀ i f, s.slot i = .reserved f → (∀ j g, s.slot j = .reserved g → g.identity = f.identity → j = i) →
        s.tornEntry i f ∈ t.seen.entries)) := by
  intro t
  have zero := begun_time s slb1 slb0 nvwp
  have slot := begun_slot s slb1 slb0 nvwp
  have entries := begun_entries s slb1 slb0 nvwp
  have opened : t = (s.begun slb1 slb0 nvwp).powerUpSlots slotIds := powerOn_eq s slb1 slb0 nvwp
  rw [opened]
  have eight : slotIds.length = 8 := by rw [slotIds_eq, List.length_finRange]
  refine ⟨fun none => ?_, fun room => ⟨fun e member away => ?_, fun i f is only => ?_⟩⟩
  · exact (powerUpSlots_entries_of_not_reserved slotIds fun i f is => none i f ((slot i).symm.trans is)).trans entries
  · have kept := powerUpSlots_entriesOf (id := e.identity) slotIds zero (by rw [entries, eight]; exact room)
      fun i _ f is => away i f ((slot i).symm.trans is)
    have there : e ∈ (s.begun slb1 slb0 nvwp).entriesOf e.identity := mem_entriesOf.2 ⟨entries ▸ member, rfl⟩
    rw [← kept] at there
    exact (mem_entriesOf.1 there).1
  · rw [← begun_tornEntry s slb1 slb0 nvwp]
    exact tornEntry_mem_powerUpSlots zero (by rw [entries]; exact room) ((slot i).trans is)
      fun j g reserved => only j g ((slot j).symm.trans reserved)

end Begun

theorem tornEntry_of_no_entry {s : State} {f : SlotFields} (absent : ∀ e ∈ s.seen.entries, e.identity ≠ f.identity) (i : SlotId) :
    s.tornEntry i f = ⟨f.identity, f.oldCounter, 0, f.lane, f.direction, .refused, false, some i⟩ := by
  rw [State.tornEntry, seenEntry_eq_none.2 absent]
  rfl

theorem tornEntry_of_first {s : State} {f : SlotFields} {before after : List SeenEntry} {e : SeenEntry}
    (split : s.seen.entries = before ++ e :: after) (first : ∀ x ∈ before, x.identity ≠ f.identity) (own : e.identity = f.identity)
    (i : SlotId) : s.tornEntry i f = { e with tearPending := some i } := by
  rw [State.tornEntry, seenEntry_of_first split first own]
  rfl

/-- Settles O60: volatile state from `clearVolatile`, the slots and the seen entries by the walk over the slots. -/
theorem powerKeepsTheNonvolatile : Obligations.PowerKeepsTheNonvolatile := by
  intro s slb1 slb0 nvwp kept
  refine ⟨⟨s.powerOn slb1 slb0 nvwp, rfl, keepsNonvolatile_powerOn s slb1 slb0 nvwp, ?_⟩,
    ⟨{ s.clearVolatile with powered := false }, rfl, keepsNonvolatile_clearVolatile s, rfl, rfl, rfl, rfl, rfl⟩⟩
  obtain ⟨powered, nvwp', link, proc, _, _, hot, fare, _, _, _, _, clock, emergency, conditions, pending, _, inbox, sweep, journal⟩ :=
    powerOn_frame s slb1 slb0 nvwp
  obtain ⟨unreserved, room⟩ := powerOn_entries s slb1 slb0 nvwp
  refine ⟨powered, nvwp', ?_, proc, powerOn_claim s slb1 slb0 nvwp, ?_, ?_, ?_, ?_, ?_, ?_, conditions, pending, ?_, ?_, ?_, ?_,
    fun n => ?_, fun i => ?_, inbox, sweep, unreserved, fun fits => ?_, journal.trans (begun_journal s slb1 slb0 nvwp)⟩
  · rw [link, strapRate_eq]
    rfl
  · rw [hot]
    rfl
  · rw [hot]
    rfl
  · rw [fare]
    rfl
  · rw [clock]
    rfl
  · rw [clock]
    rfl
  · rw [clock]
    rfl
  · rw [emergency]
    rfl
  · rw [emergency]
    rfl
  · rw [emergency]
    rfl
  · rw [emergency]
    rfl
  · rw [powerOn_lane]
    refine ⟨rfl, rfl, rfl, rfl, rfl, fun side => ?_, rfl, rfl, rfl, rfl, rfl, rfl⟩
    cases side <;> exact ⟨rfl, rfl, rfl⟩
  · rw [powerOn_eq, powerUpSlots_slot, begun_slot]
    cases s.slot i <;> rfl
  · obtain ⟨stays, torn⟩ := room fits
    refine ⟨stays, fun i f is only => ⟨fun absent => ?_, fun before e after split first own => ?_⟩⟩
    · rw [← tornEntry_of_no_entry absent i]
      exact torn i f is only
    · rw [← tornEntry_of_first split first own i]
      exact torn i f is only

end Sys2Proof.Machine
end

section
/-! PROOF. From the tear's resolution to the computed fare (checks 15 to 23): the fare and trip rules, the incidents' answer and the
new image, each told by what it looks at. -/
namespace Sys2Proof.Machine

/-! ### Bands (R50) -/

/-- Intervals in ascending order: the last one begun counts. -/
theorem bandAt_of_begun {before after : List (Nat × Band)} {start second : Nat} {b : Band} (begun : start ≤ second)
    (later : ∀ x ∈ after, second < x.1) : bandAt (before ++ (start, b) :: after) second = some b := by
  have none : after.filter (fun x => decide (x.1 ≤ second)) = [] := List.filter_eq_nil_iff.2 fun x member => by
    simpa using later x member
  rw [bandAt, List.filter_append, List.filter_cons_of_pos (by simpa using begun), none, List.getLast?_concat]

/-- Before the first interval begins the last of the day before counts. -/
theorem bandAt_of_none_begun {before : List (Nat × Band)} {start second : Nat} {b : Band}
    (later : ∀ x ∈ before ++ [(start, b)], second < x.1) : bandAt (before ++ [(start, b)]) second = some b := by
  have none : (before ++ [(start, b)]).filter (fun x => decide (x.1 ≤ second)) = [] := List.filter_eq_nil_iff.2 fun x member => by
    simpa using later x member
  rw [bandAt, none, List.getLast?_concat]
  rfl

/-! ### The tests of the trip rules (R1, R52 to R59) -/

theorem within_iff (w now x : Nat) : within w (elapsed now x) = true ↔ w ≠ 0 ∧ now - x ≤ 60 * w := by
  simp [within, elapsed]

theorem inPass_iff (m : Image) (zone : Nat) :
    inPass m zone = true ↔ cardPassLow m ≠ 0 ∧ cardPassHigh m ≠ 0 ∧ cardPassLow m ≤ zone ∧ zone ≤ cardPassHigh m := by
  simp [inPass, and_assoc]

section Tests
variable (f : FareTable) (p : Product) (seen : Option SeenEntry) (t : Trip) (now : Nat)

theorem entryAllowance_iff : entryAllowance f seen now = true ↔
    ∃ e, seen = some e ∧ e.outcome = .unused ∧ e.direction = .entry ∧ f.reentry ≠ 0 ∧ now - e.time ≤ 60 * f.reentry := by
  cases seen with
  | none => simp [entryAllowance]
  | some e => simp [entryAllowance, within_iff, and_assoc]

theorem seenPassback_iff : seenPassback f seen now = true ↔
    ∃ e, seen = some e ∧ e.direction = .entry ∧ (e.outcome = .granted ∨ e.outcome = .passed ∨ e.outcome = .reGranted) ∧
      f.passback ≠ 0 ∧ now - e.time ≤ 60 * f.passback := by
  cases seen with
  | none => simp [seenPassback]
  | some e => simp [seenPassback, within_iff, and_assoc, or_assoc]

theorem transfers_iff : transfers f p t now = true ↔ t.lastStation ≠ 0 ∧ t.lastStation ≠ f.station ∧ t.originStation ≠ f.station ∧
    (p.transferWindow ≠ 0 ∧ now - t.lastTime ≤ 60 * p.transferWindow) ∧ t.legs < 4 := by
  simp only [transfers, Bool.and_eq_true, decide_eq_true_eq, within_iff, and_assoc]

theorem exitAllowance_iff : exitAllowance f seen t now = true ↔
    (∃ e, seen = some e ∧ e.outcome = .unused ∧ e.direction = .exit ∧ f.reentry ≠ 0 ∧ now - e.time ≤ 60 * f.reentry) ∧
      t.isOpen = false ∧ t.lastStation = f.station := by
  cases seen with
  | none => simp [exitAllowance]
  | some e => simp [exitAllowance, within_iff, and_assoc]

end Tests

/-! ### The entry rules (R53 to R58) -/

section Rules
variable {f : FareTable} {p : Product} {m : Image} {seen : Option SeenEntry} {now : Nat} {covered : Option Treatment}

theorem entryRules_of_allowance (isOpen : (Trip.ofImage m).isOpen = true) (allowed : entryAllowance f seen now = true) :
    entryRules f p m seen now = .reGrant := by
  simp only [entryRules, isOpen, allowed, if_true]

theorem entryRules_of_open (isOpen : (Trip.ofImage m).isOpen = true) (barred : ¬ entryAllowance f seen now = true) :
    entryRules f p m seen now =
      if ((Trip.ofImage m).originStation = f.station ∧ f.passback ≠ 0 ∧ now - (Trip.ofImage m).originTime ≤ 60 * f.passback) ∨
          seenPassback f seen now = true then .refuse .passback
      else .unclosed := by
  simp only [entryRules, isOpen, barred, if_true, Bool.or_eq_true, Bool.and_eq_true, decide_eq_true_eq, within_iff]
  rfl

theorem entryRules_of_closed (isClosed : (Trip.ofImage m).isOpen = false) :
    entryRules f p m seen now =
      if transfers f p (Trip.ofImage m) now = true then
        .computed ⟨0, ridesAfterEntry p m, { Trip.ofImage m with isOpen := true, legs := (Trip.ofImage m).legs + 1 }⟩
      else .computed ⟨0, ridesAfterEntry p m, newTrip f (Trip.ofImage m) now⟩ := by
  simp only [entryRules, isClosed]
  rfl

theorem unclosedCharge_of_free (free : (p.scheme = .staff ∨ p.scheme = .free ∨ p.scheme = .rideCount) ∨
    (p.scheme = .periodPass ∧ inPass m (cardOriginZone m) = true)) : unclosedCharge f p m covered now = 0 := by
  unfold unclosedCharge
  rcases free with free | pass
  · exact if_pos free
  · rw [if_pos pass, ite_self]

theorem unclosedCharge_of_charged (charged : ¬ (p.scheme = .staff ∨ p.scheme = .free ∨ p.scheme = .rideCount))
    (outside : ¬ (p.scheme = .periodPass ∧ inPass m (cardOriginZone m) = true)) :
    unclosedCharge f p m (some .waive) now = 0 ∧ unclosedCharge f p m (some .minimum) now = f.minFare ∧
    unclosedCharge f p m none now = f.maxFare (cardOriginZone m) (f.band now) := by
  simp only [unclosedCharge, if_neg charged, if_neg outside, and_self]

/-! ### The exit rules (R59 to R62) -/

theorem exitRules_of_allowance (allowed : exitAllowance f seen (Trip.ofImage m) now = true) :
    exitRules f p m seen now = .reGrant := by
  simp only [exitRules, allowed, if_true]

theorem exitRules_of_closed (barred : ¬ exitAllowance f seen (Trip.ofImage m) now = true)
    (isClosed : (Trip.ofImage m).isOpen = false) : exitRules f p m seen now = .refuse .exitWithoutEntry := by
  simp only [exitRules, barred, isClosed]
  rfl

theorem exitRules_of_open (isOpen : (Trip.ofImage m).isOpen = true) :
    exitRules f p m seen now = .computed ⟨exitCharge f p m now, cardRides m,
      { Trip.ofImage m with
        isOpen := false, lastStation := f.station, lastTime := now
        charged := min 16777215 ((Trip.ofImage m).charged + exitCharge f p m now) }⟩ := by
  have barred : exitAllowance f seen (Trip.ofImage m) now = false := by
    rw [Bool.eq_false_iff, Ne, exitAllowance_iff]
    intro ⟨_, isClosed, _⟩
    rw [isOpen] at isClosed
    exact absurd isClosed (by decide)
  simp only [exitRules, barred, isOpen, if_true]
  rfl

theorem exitCharge_of_free (free : (p.scheme = .staff ∨ p.scheme = .free ∨ p.scheme = .rideCount) ∨
    (p.scheme = .periodPass ∧ inPass m (cardOriginZone m) = true ∧ inPass m f.zone = true)) : exitCharge f p m now = 0 := by
  unfold exitCharge
  rcases free with (is | is | is) | ⟨is, origin, zone⟩
  · simp only [is]
  · simp only [is]
  · simp only [is]
  · simp only [is, origin, zone, Bool.and_self, if_true]

theorem exitCharge_of_charged (charged : ¬ (p.scheme = .staff ∨ p.scheme = .free ∨ p.scheme = .rideCount))
    (outside : ¬ (p.scheme = .periodPass ∧ inPass m (cardOriginZone m) = true ∧ inPass m f.zone = true)) :
    exitCharge f p m now = storedValueCharge f p m now := by
  unfold exitCharge
  cases is : p.scheme with
  | storedValue => rfl
  | periodPass =>
    have out : ¬ (inPass m (cardOriginZone m) && inPass m f.zone) = true := by
      rw [Bool.and_eq_true]
      exact fun both => outside ⟨is, both⟩
    exact if_neg out
  | rideCount => simp [is] at charged
  | staff => simp [is] at charged
  | free => simp [is] at charged

end Rules

/-! ### Funds (R58, R63) -/

section Funds
variable {d : Direction} {f : FareTable} {p : Product} {m : Image} {c : Computed}

theorem entryAsStoredValue_iff : entryAsStoredValue f p m = true ↔
    p.scheme = .storedValue ∨ (p.scheme = .periodPass ∧ ¬ inPass m f.zone = true) := by
  simp [entryAsStoredValue]

theorem fundsRefusal_of_rides (rides : ¬ (d = .entry ∧ p.scheme = .rideCount ∧ cardRides m = 0)) :
    fundsRefusal d f p m c = if cardBalance m - c.charge < -(p.floor : Int) then some .insufficientFunds
      else if d = .entry ∧ entryAsStoredValue f p m = true ∧ cardBalance m - c.charge < (f.minEntry : Int) then
        some .insufficientFunds
      else none := if_neg rides

theorem fundsRefusal_of_floor (rides : ¬ (d = .entry ∧ p.scheme = .rideCount ∧ cardRides m = 0))
    (floor : -(p.floor : Int) ≤ cardBalance m - c.charge) :
    (d = .entry → entryAsStoredValue f p m = true →
      fundsRefusal d f p m c = if cardBalance m - c.charge < (f.minEntry : Int) then some .insufficientFunds else none) ∧
    (¬ (d = .entry ∧ entryAsStoredValue f p m = true) → fundsRefusal d f p m c = none) := by
  rw [fundsRefusal_of_rides rides, if_neg (not_lt.2 floor)]
  refine ⟨fun entry stored => ?_, fun other => if_neg fun h => other ⟨h.1, h.2.1⟩⟩
  simp only [entry, stored, true_and]

end Funds

/-! ### The Incident List's answer (R150) -/

section Answer
variable {list : IncidentList} {station origin admission : Nat}

theorem covers_iff (i : Incident) : i.covers station origin admission = true ↔
    (i.station = 0 ∨ i.station = station) ∧ i.start ≤ origin ∧ origin ≤ i.finish.getD admission := by
  simp [Incident.covers, and_assoc]

theorem answer_of_waive {i : Incident} (member : i ∈ list.entries) (covers : i.covers station origin admission = true)
    (waive : i.treatment = .waive) : list.answer station origin admission = some .waive := by
  have covering : i ∈ list.entries.filter (fun i => i.covers station origin admission) := List.mem_filter.2 ⟨member, covers⟩
  unfold IncidentList.answer
  dsimp only
  rw [if_neg (by simpa using ⟨i, member, covers⟩), if_pos (List.any_eq_true.2 ⟨i, covering, by simpa using waive⟩)]

theorem answer_of_minimum {i : Incident} (member : i ∈ list.entries) (covers : i.covers station origin admission = true)
    (minimum : ∀ j ∈ list.entries, j.covers station origin admission = true → j.treatment = .minimum) :
    list.answer station origin admission = some .minimum := by
  unfold IncidentList.answer
  dsimp only
  rw [if_neg (by simpa using ⟨i, member, covers⟩), if_neg]
  rw [List.any_eq_true]
  rintro ⟨j, covering, waive⟩
  obtain ⟨there, covers'⟩ := List.mem_filter.1 covering
  simp [minimum j there covers'] at waive

theorem answer_of_none (uncovered : ∀ i ∈ list.entries, ¬ i.covers station origin admission = true) :
    list.answer station origin admission = none := by
  unfold IncidentList.answer
  dsimp only
  rw [if_pos]
  rw [List.isEmpty_iff, List.filter_eq_nil_iff]
  exact uncovered

end Answer

/-! ### The card's fields and the new image (R1, R3, R200, R202) -/

theorem ofBeSigned_of_length {bs : List Byte} (three : bs.length = 3) :
    ofBeSigned bs = if ofBe bs < 8388608 then (ofBe bs : Int) else (ofBe bs : Int) - 16777216 := by
  unfold ofBeSigned
  rw [three]
  have half : 2 * ofBe bs < 256 ^ 3 ↔ ofBe bs < 8388608 := by omega
  simp only [half]
  rfl

theorem cardBalance_of_length {m : Image} (long : 19 ≤ m.length) :
    cardBalance m = if fieldAt m 16 3 < 8388608 then (fieldAt m 16 3 : Int) else (fieldAt m 16 3 : Int) - 16777216 :=
  ofBeSigned_of_length (by simp only [slice, List.length_take, List.length_drop]; omega)

theorem ofBeSigned_beSigned {v : Int} (low : -8388608 ≤ v) (high : v ≤ 8388607) : ofBeSigned (beSigned 3 v) = v := by
  have value : ofBe (beSigned 3 v) = (v % 16777216).toNat := by
    rw [beSigned, ofBe_be]
    omega
  rw [ofBeSigned_of_length (beSigned_length 3 v), value]
  split <;> omega

/-- The parts of the new image in their order (11, section 11.3). -/
def newParts (m : Image) (balance : Int) (rides : Nat) (t : Trip) : List (List Byte) :=
  [m.take 13, be 3 (cardCounter m + 1), beSigned 3 balance, be 1 rides, slice m 20 6, [boolByte t.isOpen], be 2 t.originStation,
    be 1 t.originZone, be 4 t.originTime, be 1 t.legs, be 3 t.charged, be 2 t.lastStation, be 4 t.lastTime, slice m 44 12]

theorem newBytes_eq_flatten (m : Image) (balance : Int) (rides : Nat) (t : Trip) :
    newBytes m balance rides t = (newParts m balance rides t).flatten := by
  simp [newBytes, newParts, Trip.bytes]

theorem slice_flatten (before : List (List Byte)) (c : List Byte) (after : List (List Byte)) :
    slice (before ++ c :: after).flatten (before.map List.length).sum c.length = c := by
  rw [slice, List.flatten_append, ← List.length_flatten, List.drop_left, List.flatten_cons, List.take_left]

section NewImage
variable {m : Image} (long : m.length = 64) (balance : Int) (rides : Nat) (t : Trip)

theorem length_newParts : (newParts m balance rides t).map List.length =
    [(m.take 13).length, 3, 3, 1, (slice m 20 6).length, 1, 2, 1, 4, 1, 3, 2, 4, (slice m 44 12).length] := by
  simp [newParts, beSigned_length]

include long in
theorem lengths_newParts : (newParts m balance rides t).map List.length = [13, 3, 3, 1, 6, 1, 2, 1, 4, 1, 3, 2, 4, 12] := by
  rw [length_newParts]
  simp [slice, long]

include long in
theorem length_newBytes : (newBytes m balance rides t).length = 56 := by
  rw [newBytes_eq_flatten, List.length_flatten, lengths_newParts long]
  rfl

include long in
/-- A part of the new image stands where the parts before it end. -/
theorem slice_newBytes (i : Fin 14) :
    slice (newBytes m balance rides t) (([13, 3, 3, 1, 6, 1, 2, 1, 4, 1, 3, 2, 4, 12] : List Nat).take i).sum
      (([13, 3, 3, 1, 6, 1, 2, 1, 4, 1, 3, 2, 4, 12] : List Nat)[i]) = (newParts m balance rides t)[i.val]'i.isLt := by
  have lengths := lengths_newParts long balance rides t
  have split := List.take_append_drop i.val (newParts m balance rides t)
  rw [List.drop_eq_getElem_cons i.isLt] at split
  have part := slice_flatten ((newParts m balance rides t).take i) ((newParts m balance rides t)[i.val]'i.isLt)
    ((newParts m balance rides t).drop (i.val + 1))
  rw [split, ← newBytes_eq_flatten, List.map_take, lengths] at part
  have len : ((newParts m balance rides t)[i.val]'i.isLt).length = ([13, 3, 3, 1, 6, 1, 2, 1, 4, 1, 3, 2, 4, 12] : List Nat)[i] := by
    have at_i := List.getElem_of_eq lengths (i := i.val) (show i.val < 14 from i.isLt)
    exact (List.getElem_map ..).symm.trans at_i
  rw [len] at part
  exact part

include long in
theorem fieldAt_newBytes (i : Fin 14) :
    fieldAt (newBytes m balance rides t) (([13, 3, 3, 1, 6, 1, 2, 1, 4, 1, 3, 2, 4, 12] : List Nat).take i).sum
      (([13, 3, 3, 1, 6, 1, 2, 1, 4, 1, 3, 2, 4, 12] : List Nat)[i]) = ofBe ((newParts m balance rides t)[i.val]'i.isLt) :=
  congrArg ofBe (slice_newBytes long balance rides t i)

theorem ofBe_be_of_lt {n v : Nat} (fits : v < 256 ^ n) : ofBe (be n v) = v := by
  rw [ofBe_be, Nat.mod_eq_of_lt fits]

include long in
theorem counter_newBytes (more : fieldAt m 13 3 ≠ 16777215) :
    fieldAt (newBytes m balance rides t) 13 3 = fieldAt m 13 3 + 1 := by
  refine (fieldAt_newBytes long balance rides t 1).trans (ofBe_be_of_lt ?_)
  have bound := ofBe_lt (slice m 13 3)
  have three : (slice m 13 3).length = 3 := by simp [slice, long]
  rw [three] at bound
  have same : cardCounter m = ofBe (slice m 13 3) := rfl
  have away : cardCounter m ≠ 16777215 := more
  omega

include long in
theorem balance_newBytes (low : -8388608 ≤ balance) (high : balance ≤ 8388607) :
    cardBalance (newBytes m balance rides t) = balance :=
  (congrArg ofBeSigned (slice_newBytes long balance rides t 2)).trans (ofBeSigned_beSigned low high)

include long in
theorem rides_newBytes (fits : rides ≤ 255) : cardRides (newBytes m balance rides t) = rides :=
  (fieldAt_newBytes long balance rides t 3).trans (ofBe_be_of_lt (by omega))

/-- Each field of the trip record fits its bytes (11, section 11.3). -/
def Trip.fits (t : Trip) : Prop :=
  t.originStation ≤ 65535 ∧ t.originZone ≤ 255 ∧ t.originTime ≤ 4294967295 ∧ t.legs ≤ 255 ∧ t.charged ≤ 16777215 ∧
  t.lastStation ≤ 65535 ∧ t.lastTime ≤ 4294967295

include long in
theorem trip_newBytes (fits : t.fits) : Trip.ofImage (newBytes m balance rides t) = t := by
  obtain ⟨originStation, originZone, originTime, legs, charged, lastStation, lastTime⟩ := fits
  have field := fieldAt_newBytes long balance rides t
  have isOpen : cardTripState (newBytes m balance rides t) = ofBe [boolByte t.isOpen] := field 5
  have six : cardOriginStation (newBytes m balance rides t) = t.originStation := (field 6).trans (ofBe_be_of_lt (by omega))
  have seven : cardOriginZone (newBytes m balance rides t) = t.originZone := (field 7).trans (ofBe_be_of_lt (by omega))
  have eight : cardOriginTime (newBytes m balance rides t) = t.originTime := (field 8).trans (ofBe_be_of_lt (by omega))
  have nine : cardLegs (newBytes m balance rides t) = t.legs := (field 9).trans (ofBe_be_of_lt (by omega))
  have ten : cardCharged (newBytes m balance rides t) = t.charged := (field 10).trans (ofBe_be_of_lt (by omega))
  have eleven : cardLastStation (newBytes m balance rides t) = t.lastStation := (field 11).trans (ofBe_be_of_lt (by omega))
  have twelve : cardLastTime (newBytes m balance rides t) = t.lastTime := (field 12).trans (ofBe_be_of_lt (by omega))
  have state : (ofBe [boolByte t.isOpen] == 1) = t.isOpen := by cases t.isOpen <;> rfl
  rw [Trip.ofImage, isOpen, state, six, seven, eight, nine, ten, eleven, twelve]

end NewImage

/-! ### The engine's way through checks 15 to 23 -/

section Way
variable {s : State} {n : LaneId} {id : Identity} {m : List Byte} {d : Direction}

theorem takeComputed_eq (imaged : (s.lane n).engine.image = some m) (directed : (s.lane n).engine.direction = some d)
    (f : FareTable) (p : Product) (c : Computed) :
    s.takeComputed n f p c = match fundsRefusal d f p m c with
      | some r => s.refuseCard n r
      | none => s.updEngine n (fun e => { e with
          phase := .checking, awaiting := .reservation, grantKind := some .paid, charge := some c.charge
          newImage := some (newBytes m (cardBalance m - c.charge) c.rides c.trip ++ [0, 0, 0, 0, 0, 0, 0, 0]) }) := by
  simp only [State.takeComputed, imaged, directed, Option.getD_some]
  cases fundsRefusal d f p m c <;> rfl

theorem tripCheck_eq (named : (s.lane n).engine.identity = some id) (imaged : (s.lane n).engine.image = some m)
    (directed : (s.lane n).engine.direction = some d) (f : FareTable) (p : Product) :
    s.tripCheck n f p =
      match tripRules d f p m ((s.seenLookup id).filter (fun x => x.counter == cardCounter m))
        ((s.lane n).engine.admissionTime.getD 0) with
      | .reGrant => s.reGrant n .reGranted
      | .refuse r => s.refuseCard n r
      | .unclosed => s.updEngine n (fun e => { e with phase := .checking, awaiting := .incident })
      | .computed c => s.takeComputed n f p c := by
  simp only [State.tripCheck, named, imaged, directed, Option.getD_some, usable] <;> rfl

theorem regressed_iff (named : (s.lane n).engine.identity = some id) (imaged : (s.lane n).engine.image = some m) :
    s.regressed n = true ↔ ∃ x, s.seenLookup id = some x ∧ cardCounter m < x.counter := by
  simp only [State.regressed, named, imaged, Option.getD_some]
  cases s.seenLookup id with
  | none => simp
  | some x => simp

theorem screenCounter_of_regressed (named : (s.lane n).engine.identity = some id) (imaged : (s.lane n).engine.image = some m)
    {x : SeenEntry} (seen : s.seenLookup id = some x) (lower : cardCounter m < x.counter) :
    s.screenCounter n = s.refuseClone n .counterRegression := by
  unfold State.screenCounter
  exact if_pos ((regressed_iff named imaged).2 ⟨x, seen, lower⟩)

theorem screenCounter_of_current (named : (s.lane n).engine.identity = some id) (imaged : (s.lane n).engine.image = some m)
    (current : ∀ x, s.seenLookup id = some x → x.counter ≤ cardCounter m) :
    s.screenCounter n = if cardCounter m = 16777215 then s.refuseCard n .counterExhausted else s.productChecks n := by
  have level : ¬ s.regressed n = true := by
    rw [regressed_iff named imaged]
    rintro ⟨x, seen, lower⟩
    exact absurd lower (not_lt.2 (current x seen))
  unfold State.screenCounter
  rw [if_neg level, imaged]
  rfl

theorem productChecks_of_expired (imaged : (s.lane n).engine.image = some m)
    (expired : cardExpiryDay m < (s.lane n).engine.admissionTime.getD 0 / 86400) : s.productChecks n = s.refuseCard n .cardExpired := by
  simp only [State.productChecks, imaged]
  exact if_pos expired

theorem productChecks_of_unknown (imaged : (s.lane n).engine.image = some m)
    (valid : (s.lane n).engine.admissionTime.getD 0 / 86400 ≤ cardExpiryDay m) (unknown : s.boundProduct n = none) :
    s.productChecks n = s.refuseCard n .unknownProduct := by
  simp only [State.productChecks, imaged, unknown]
  exact if_neg (not_lt.2 valid)

theorem productChecks_of_product (imaged : (s.lane n).engine.image = some m)
    (valid : (s.lane n).engine.admissionTime.getD 0 / 86400 ≤ cardExpiryDay m) {f : FareTable} {p : Product}
    (bound : s.boundProduct n = some (f, p)) :
    s.productChecks n = ((productRefusal p m ((s.lane n).engine.boundLevel.getD 0)
      ((s.lane n).engine.admissionTime.getD 0 / 86400)).map (s.refuseCard n)).getD (s.tripCheck n f p) := by
  simp only [State.productChecks, imaged, bound]
  refine (if_neg (not_lt.2 valid)).trans ?_
  dsimp only [Option.getD_some, secondsPerDay]
  cases productRefusal p m ((s.lane n).engine.boundLevel.getD 0) ((s.lane n).engine.admissionTime.getD 0 / 86400) <;> rfl

theorem requestResolution_of_none (awaits : (s.lane n).engine.awaiting = .resolution)
    (named : (s.lane n).engine.identity = some id) (closed : s.openSlot id = none) : s.requestResolution n = s.screenCounter n := by
  have settled : s.resolve n = (s, none) := resolve_of_none fun x is => Option.some.inj (named.symm.trans is) ▸ closed
  unfold State.requestResolution
  rw [if_pos ((waits_iff s n .resolution).2 awaits), settled]

/-- The state after the tear's slot is settled, and what check 15 makes of the outcome (R100 to R103). -/
def State.afterResolution (w : State) (n : LaneId) (d : Direction) (outcome : TearOutcome) : State :=
  match outcome with
  | .landed =>
    if (w.lane n).engine.landed.map (·.direction) = some d then w.reGrant n .recovered else w.refuseCard n .wrongDirection
  | .conflict => w.refuseClone n .tearConflict
  | _ => w.screenCounter n

theorem requestResolution_of_settled (awaits : (s.lane n).engine.awaiting = .resolution)
    (directed : (s.lane n).engine.direction = some d) {w : State} {outcome : TearOutcome}
    (settled : s.resolve n = (w, some outcome)) : s.requestResolution n = w.afterResolution n d outcome := by
  unfold State.requestResolution
  rw [if_pos ((waits_iff s n .resolution).2 awaits), settled, directed]
  cases outcome <;> rfl

theorem productRefusal_of_privilege {p : Product} {level day : Nat} (low : level < p.privilege) :
    productRefusal p m level day = some .notAdmitted := if_pos low

theorem productRefusal_of_dates {p : Product} {level day : Nat} (enough : p.privilege ≤ level) (pass : p.scheme = .periodPass)
    (outside : day < cardPassFrom m ∨ cardPassTo m < day) : productRefusal p m level day = some .productNotValid :=
  (if_neg (not_lt.2 enough)).trans (if_pos ⟨pass, outside⟩)

theorem productRefusal_of_valid {p : Product} {level day : Nat} (enough : p.privilege ≤ level)
    (inside : p.scheme = .periodPass → cardPassFrom m ≤ day ∧ day ≤ cardPassTo m) : productRefusal p m level day = none := by
  refine (if_neg (not_lt.2 enough)).trans (if_neg ?_)
  rintro ⟨pass, outside⟩
  obtain ⟨from_, until_⟩ := inside pass
  exact outside.elim (not_lt.2 from_) (not_lt.2 until_)

/-- Checks 15 to 23 of one transaction (R28 to R32, R100 to R103). -/
theorem resolutionRequest_steps (on : s.powered = true) (named : (s.lane n).engine.identity = some id)
    (imaged : (s.lane n).engine.image = some m) (directed : (s.lane n).engine.direction = some d)
    (awaits : (s.lane n).engine.awaiting = .resolution) {i : SlotId} {f : SlotFields} {em : Bool} {wt ex : Option Nat}
    (slot : s.openSlot id = some i) (torn : s.slot i = .opened f em wt ex) :
    let outcome := classify f (cardCounter m) m
    let a := s.closeSlot i outcome n
    exec (.resolutionRequest n) s = .next ((a.1.updEngine n (fun e => { e with
      related := a.2, landed := if outcome = .landed then some ⟨f.direction, f.newCounter⟩ else none })).afterResolution n d
        outcome) := by
  intro outcome a
  have ran : exec (.resolutionRequest n) s = .next (s.requestResolution n) := powered_next on
  rw [ran, requestResolution_of_settled awaits directed (resolve_of_open named imaged slot torn)]

theorem afterResolution_landed {l : Landed} (settled : (s.lane n).engine.landed = some l) :
    s.afterResolution n d .landed = if l.direction = d then s.reGrant n .recovered else s.refuseCard n .wrongDirection := by
  simp only [State.afterResolution, settled, Option.map_some, Option.some.injEq]

end Way

section Settles
variable {s : State} {n : LaneId} {id : Identity} {m : List Byte} {d : Direction}

theorem askIncident_of_product (awaits : (s.lane n).engine.awaiting = .incident) (imaged : (s.lane n).engine.image = some m)
    {f : FareTable} {p : Product} (bound : s.boundProduct n = some (f, p)) :
    let now := (s.lane n).engine.admissionTime.getD 0
    s.askIncident n = s.takeComputed n f p
      (unclosedEntry f p m (s.incidents.answer (cardOriginStation m) (cardOriginTime m) now) now) := by
  unfold State.askIncident
  rw [if_pos ((waits_iff s n .incident).2 awaits), bound]
  simp only [imaged, Option.getD_some]

theorem askIncident_of_unknown (awaits : (s.lane n).engine.awaiting = .incident) (unknown : s.boundProduct n = none) :
    s.askIncident n = s.refuseCard n .unknownProduct := by
  unfold State.askIncident
  rw [if_pos ((waits_iff s n .incident).2 awaits), unknown]

end Settles

/-- Settles O51: the checks of one transaction in their order, then each function that they ask. -/
theorem resolutionLeadsToTheFare : Obligations.ResolutionLeadsToTheFare := by
  refine ⟨?_, ?_, ?_, ?_, ?_, ?_⟩
  · intro s n id m d on named imaged directed e now settled computed
    have ran : exec (.resolutionRequest n) s = .next (s.requestResolution n) := powered_next on
    have asked : exec (.incidentQuery n) s = .next (s.askIncident n) := powered_next on
    have funded (f : FareTable) (p : Product) (c : Computed) :
        s.takeComputed n f p c = match fundsRefusal d f p m c with
          | some r => s.refuseCard n r
          | none => computed s c := (takeComputed_eq imaged directed f p c).trans (by cases fundsRefusal d f p m c <;> rfl)
    refine ⟨fun other => ?_, ?_, ?_, fun other => ?_, ?_, ?_⟩
    · rw [ran, State.requestResolution, if_neg (mt (waits_iff s n .resolution).1 other)]
    · intro i f em wt ex awaits slot torn
      have steps := resolutionRequest_steps on named imaged directed awaits slot torn
      refine ⟨fun counter image => ?_, fun counter apart => ?_, fun old new => ?_⟩
      · rw [classify_landed counter image] at steps
        refine steps.trans (congrArg _ (afterResolution_landed (l := ⟨f.direction, f.newCounter⟩) ?_))
        rw [updEngine_engine]
        rfl
      · rw [classify_notLanded counter apart] at steps
        exact steps
      · rw [classify_conflict old new] at steps
        exact steps
    · intro awaits closed
      rw [ran, requestResolution_of_none awaits named closed]
      refine ⟨fun x seen lower => by rw [screenCounter_of_regressed named imaged seen lower], fun current => ?_⟩
      rw [screenCounter_of_current named imaged current]
      refine ⟨fun last => by rw [if_pos last], fun more expired => ?_, fun more valid unknown => ?_, fun f p more valid bound => ?_⟩
      · rw [if_neg more, productChecks_of_expired imaged expired]
      · rw [if_neg more, productChecks_of_unknown imaged valid unknown]
      · rw [if_neg more, productChecks_of_product imaged valid bound]
        refine ⟨fun low => ?_, fun enough pass outside => ?_, fun enough inside => ?_⟩
        · rw [productRefusal_of_privilege low]
          rfl
        · rw [productRefusal_of_dates enough pass outside]
          rfl
        · rw [productRefusal_of_valid enough inside]
          refine congrArg _ ((tripCheck_eq named imaged directed f p).trans ?_)
          cases tripRules d f p m ((s.seenLookup id).filter (fun x => x.counter == cardCounter m)) now with
          | computed c =>
            dsimp only
            exact (funded f p c).trans (by cases fundsRefusal d f p m c <;> rfl)
          | reGrant => rfl
          | refuse r => rfl
          | unclosed => rfl
    · rw [asked, State.askIncident, if_neg (mt (waits_iff s n .incident).1 other)]
    · intro awaits unknown
      rw [asked, askIncident_of_unknown awaits unknown]
    · intro f p awaits bound c
      refine asked.trans (congrArg _ ((askIncident_of_product awaits imaged bound).trans ((funded f p c).trans ?_)))
      cases fundsRefusal d f p m c <;> rfl
  · intro f p t o b
    refine ⟨?_, ?_, ?_, ?_⟩
    · intro start before after bands begun later
      have last : bandAt f.bands (t % 86400) = some b := bands ▸ bandAt_of_begun begun later
      exact congrArg (·.getD .peak) last
    · intro start before bands later
      have last : bandAt f.bands (t % 86400) = some b := bands ▸ bandAt_of_none_begun (bands ▸ later)
      exact congrArg (·.getD .peak) last
    · cases b <;> rfl
    · cases b <;> rfl
  · intro f p m seen now d c t near pass unused passback links rides opened noFare unclosed base stored left after
    have passes (z : Nat) : inPass m z = true ↔ pass z := inPass_iff m z
    have entryUnused : entryAllowance f seen now = true ↔ unused .entry := entryAllowance_iff f seen now
    have exitUnused : exitAllowance f seen t now = true ↔ unused .exit ∧ t.isOpen = false ∧ t.lastStation = f.station :=
      exitAllowance_iff f seen t now
    have linked : transfers f p t now = true ↔ links := transfers_iff f p t now
    refine ⟨?_, ?_, ?_, ?_, ?_, ?_, ?_, ?_, ?_, ?_, ?_, ?_, ?_⟩
    · exact fun isOpen allowed => entryRules_of_allowance isOpen (entryUnused.2 allowed)
    · intro isOpen barred again
      refine (entryRules_of_open isOpen (mt entryUnused.1 barred)).trans (if_pos ?_)
      rw [seenPassback_iff]
      exact again
    · intro isOpen barred once
      refine (entryRules_of_open isOpen (mt entryUnused.1 barred)).trans (if_neg ?_)
      rw [seenPassback_iff]
      exact once
    · exact fun isClosed link => (entryRules_of_closed isClosed).trans (if_pos (linked.2 link))
    · exact fun isClosed apart => (entryRules_of_closed isClosed).trans (if_neg (mt linked.1 apart))
    · intro covered free
      have zero : unclosedCharge f p m covered now = 0 := unclosedCharge_of_free (free.imp_right (And.imp_right (passes _).2))
      exact congrArg (fun x => (⟨x, rides, opened⟩ : Computed)) zero
    · intro charged outside
      obtain ⟨waive, minimum, none⟩ := unclosedCharge_of_charged (f := f) (now := now) charged
        (mt (And.imp_right (passes _).1) outside)
      exact ⟨congrArg (fun x => (⟨x, rides, opened⟩ : Computed)) waive,
        congrArg (fun x => (⟨x, rides, opened⟩ : Computed)) minimum, congrArg (fun x => (⟨x, rides, opened⟩ : Computed)) none⟩
    · exact fun isClosed allowed last => exitRules_of_allowance (exitUnused.2 ⟨allowed, isClosed, last⟩)
    · exact fun isClosed barred =>
        exitRules_of_closed (mt exitUnused.1 fun ⟨allowed, _, last⟩ => barred ⟨allowed, last⟩) isClosed
    · intro isOpen free
      have zero : exitCharge f p m now = 0 := exitCharge_of_free
        (free.imp_right fun ⟨scheme, origin, zone⟩ => ⟨scheme, (passes _).2 origin, (passes _).2 zone⟩)
      have rules := exitRules_of_open (f := f) (p := p) (seen := seen) (now := now) isOpen
      rw [zero] at rules
      exact rules
    · intro isOpen charged outside
      have value : exitCharge f p m now = stored := exitCharge_of_charged charged
        fun ⟨scheme, origin, zone⟩ => outside ⟨scheme, (passes _).1 origin, (passes _).1 zone⟩
      have rules := exitRules_of_open (f := f) (p := p) (seen := seen) (now := now) isOpen
      rw [value] at rules
      exact rules
    · exact fun entry scheme none => if_pos ⟨entry, scheme, none⟩
    · intro some
      have asStored : entryAsStoredValue f p m = true ↔ p.scheme = .storedValue ∨ (p.scheme = .periodPass ∧ ¬ pass f.zone) := by
        rw [entryAsStoredValue_iff, passes]
      refine ⟨fun low => (fundsRefusal_of_rides some).trans (if_pos low), fun floor => ?_⟩
      obtain ⟨stored, other⟩ := fundsRefusal_of_floor (c := c) some floor
      exact ⟨fun entry scheme => stored entry (asStored.2 scheme), fun not => other (mt (And.imp_right asStored.1) not)⟩
  · intro list station origin admission covers answer
    refine ⟨?_, ?_, ?_⟩
    · rintro ⟨i, member, covering, waive⟩
      exact answer_of_waive member ((covers_iff i).2 covering) waive
    · rintro ⟨i, member, covering⟩ minimum
      exact answer_of_minimum member ((covers_iff i).2 covering) fun j there c => minimum j there ((covers_iff j).1 c)
    · exact fun uncovered => answer_of_none fun i member c => uncovered i member ((covers_iff i).1 c)
  · intro m v
    exact ⟨rfl, rfl, rfl, rfl, rfl, rfl, rfl, rfl, rfl, cardBalance_of_length⟩
  · intro m balance rides t new
    refine ⟨?_, fun long => ⟨length_newBytes long balance rides t, counter_newBytes long balance rides t,
      balance_newBytes long balance rides t, rides_newBytes long balance rides t,
      fun station zone time legs charged last lastTime =>
        trip_newBytes long balance rides t ⟨station, zone, time, legs, charged, last, lastTime⟩⟩⟩
    cases h : t.isOpen <;> simp [new, newBytes, Trip.bytes, boolByte, slice, h, cardCounter]

end Sys2Proof.Machine
end

section
/-! PROOF. The resets (R43, R137, R186, R197): a lane's, by the phase of its engine, and the part's. -/

namespace Sys2Proof.Machine

/-! ### The gate of a lane that is reset (R137) -/

/-- The command after a reset: open in the emergency, else closed once both beams are clear. -/
def Lane.resetCommand (l : Lane) : Position :=
  if l.gate.emergency = true then .opened else if l.inputs.beamS = false ∧ l.inputs.beamP = false then .closed else l.gate.command

/-- The state that a reset leads to. -/
def Lane.resetState (l : Lane) (serves : Bool) : GateState :=
  if serves = false then .outOfService
  else if l.gate.emergency = true then .heldOpen
  else if l.resetCommand = .closed ∧ l.inputs.report = .closed then .closed
  else .closing

/-- The lane before the gate of a reset follows its new state. -/
def Lane.restated (l : Lane) (serves : Bool) : Lane :=
  { l with gate := { l.gate with
    openTimer := none, staffHold := false, motion := none, mode := l.config.mode, lock := lockFor l.config.mode
    state := if serves then (if l.gate.emergency then .heldOpen else .closing) else .outOfService } }

/-- Its motion timer runs until the report agrees with the command. -/
def Lane.timed (l : Lane) : Lane :=
  if l.inputs.report.agrees l.gate.command then l else l.updGate (fun g => { g with motion := some l.config.motionMs })

theorem restated_nextCommand (l : Lane) (serves : Bool) : (l.restated serves).nextCommand = l.resetCommand := by
  rw [nextCommand_eq, Lane.resetCommand]
  unfold Lane.restated
  cases serves <;> cases l.gate.emergency <;> simp

theorem timed_eq {l : Lane} (stopped : l.gate.motion = none ∨ l.inputs.report.agrees l.gate.command = false) :
    l.timed = { l with gate := { l.gate with
      motion := if l.inputs.report.agrees l.gate.command then none else some l.config.motionMs } } := by
  unfold Lane.timed
  split
  · next agrees =>
    rcases stopped with h | h
    · rw [← h]
    · exact absurd agrees (by simp [h])
  · rfl

/-- The gate of a lane that is reset, its queue forfeited before. -/
theorem regated_eq (l : Lane) (serves : Bool) :
    (l.restated serves).follow.timed.settleClosing = { l with gate := { l.gate with
      state := l.resetState serves, staffHold := false, command := l.resetCommand, openTimer := none
      motion := if l.inputs.report = (if l.resetCommand = .opened then .opened else .closed) then none
        else some (l.config.motionTimeout * 100)
      mode := l.config.mode, lock := lockFor l.config.mode } } := by
  have followed : (l.restated serves).follow = { l.restated serves with gate := { (l.restated serves).gate with
      command := l.resetCommand, motion := (l.restated serves).nextMotion l.resetCommand } } := by
    rw [follow_eq, restated_nextCommand]
  have motion : (l.restated serves).nextMotion l.resetCommand = none ∨ l.inputs.report.agrees l.resetCommand = false := by
    unfold Lane.nextMotion
    split
    · exact .inl rfl
    · split
      · exact .inl rfl
      · next apart => exact .inr (Bool.not_eq_true _ ▸ (not_or.1 apart).2)
  have state : (if (l.restated serves).gate.state = .closing ∧ l.resetCommand = .closed ∧ l.inputs.report = .closed then .closed
      else (l.restated serves).gate.state) = l.resetState serves := by
    unfold Lane.resetState Lane.restated
    cases serves <;> cases l.gate.emergency <;> simp
  rw [followed, timed_eq motion, settleClosing_eq, ← state]
  simp only [agrees_iff]
  rfl

theorem setLane_ready (s : State) (n : LaneId) (l : Lane) : (s.setLane n l).ready = s.ready := rfl

theorem resetGate_eq (s : State) (n : LaneId) :
    s.resetGate n = (s.forfeit n .reset).setLane n
      (((s.forfeit n .reset).lane n).restated ((s.lane n).config.service && s.ready)).follow.timed.settleClosing := by
  have service : (((s.forfeit n .reset).lane n).config.service && (s.forfeit n .reset).ready) = ((s.lane n).config.service && s.ready) := by
    have ready : (s.forfeit n .reset).ready = s.ready := by
      refine ready_congr ?_ ?_ ?_ ?_
      all_goals simp only [forfeit_frame]
    rw [ready, forfeit_lane]
  unfold State.resetGate
  simp only [updGate_eq, updLane_eq, lane_setLane_self, setLane_setLane, setLane_ready, service]
  rfl

/-! ### What a finished reset leaves (R137) -/

/-- The lane of a finished reset, from the lane whose queue has been forfeited (R13, R43, R137). -/
def Lane.afterReset (l : Lane) (serves : Bool) : Lane :=
  { l with
    gate := { l.gate with
      state := l.resetState serves, staffHold := false, command := l.resetCommand, openTimer := none
      motion := if l.inputs.report = (if l.resetCommand = .opened then .opened else .closed) then none
        else some (l.config.motionTimeout * 100)
      mode := l.config.mode, lock := lockFor l.config.mode }
    monitor := ⟨.clear, !l.inputs.clear, none⟩
    portS := l.portS.repolled, portP := l.portP.repolled, waiting := l.newOffers, resetting := none }

theorem setLane_record (s : State) (n : LaneId) (l : Lane) (lane : Option LaneId) (flags : RecordFlags) (b : RecordBody) :
    (s.record lane flags b).setLane n l = (s.setLane n l).record lane flags b := by
  rw [record_with (s := s) (t := s.setLane n l) rfl rfl rfl, record_with (s := s) (t := s) rfl rfl rfl]
  rfl

theorem record_lane (s : State) (lane : Option LaneId) (flags : RecordFlags) (b : RecordBody) (n : LaneId) :
    (s.record lane flags b).lane n = s.lane n := append_lane s lane flags b n

theorem finishReset_eq (s : State) (n : LaneId) :
    s.finishReset n = ((s.forfeit n .reset).setLane n
      (((s.forfeit n .reset).lane n).afterReset ((s.lane n).config.service && s.ready))).record (some n) RecordFlags.clear (.lane .reset) := by
  unfold State.finishReset
  simp only [resetGate_eq, regated_eq, updLane_eq, record_lane, setLane_record, lane_setLane_self, setLane_setLane]
  rfl

/-! ### The mark of a reset is apart from what it forfeits -/

/-- A lane marked as being reset. -/
def State.marked (s : State) (n : LaneId) (k : Option ResetKind) : State := s.setLane n { s.lane n with resetting := k }

theorem forfeitGrant_marked (s : State) (n : LaneId) (k : Option ResetKind) (cause : ForfeitCause) (g : Grant) :
    (s.marked n k).forfeitGrant n cause g = (s.forfeitGrant n cause g).marked n k := by
  rw [forfeitGrant_eq, forfeitGrant_eq, record_with (s := s) (t := s.marked n k) rfl rfl rfl, record_with (s := s) (t := s) rfl rfl rfl]
  simp [State.marked, State.setLane, State.lane]

theorem forfeit_marked (s : State) (n : LaneId) (k : Option ResetKind) (cause : ForfeitCause) :
    (s.marked n k).forfeit n cause = (s.forfeit n cause).marked n k := by
  have each : ∀ (queue : List Grant) (w : State), queue.foldl (fun t g => t.forfeitGrant n cause g) (w.marked n k) =
      (queue.foldl (fun t g => t.forfeitGrant n cause g) w).marked n k := by
    intro queue
    induction queue with
    | nil => exact fun _ => rfl
    | cons g queue ih =>
      intro w
      rw [List.foldl_cons, List.foldl_cons, forfeitGrant_marked, ih]
  have queue : ((s.marked n k).lane n).gate.queue = (s.lane n).gate.queue := by rw [State.marked, lane_setLane_self]
  unfold State.forfeit
  rw [queue, each]
  simp only [State.marked, updGate_eq, lane_setLane_self, setLane_setLane]

/-- What the reset of an idle lane leaves before it takes an offer. -/
def State.resetDone (s : State) (n : LaneId) : State :=
  ((s.forfeit n .reset).setLane n (((s.forfeit n .reset).lane n).afterReset ((s.lane n).config.service && s.ready))).record (some n)
    RecordFlags.clear (.lane .reset)

theorem finishReset_marked (s : State) (n : LaneId) (k : Option ResetKind) : (s.marked n k).finishReset n = s.resetDone n := by
  have service : (((s.marked n k).lane n).config.service && (s.marked n k).ready) = ((s.lane n).config.service && s.ready) := by
    rw [State.marked, lane_setLane_self, setLane_ready]
  have lane : ((s.forfeit n .reset).marked n k).lane n = { (s.forfeit n .reset).lane n with resetting := k } := by
    rw [State.marked, lane_setLane_self]
  rw [finishReset_eq, forfeit_marked, service, lane, State.marked, setLane_setLane]
  rfl

theorem resetDone_lane (s : State) (n : LaneId) :
    (s.resetDone n).lane n = ((s.forfeit n .reset).lane n).afterReset ((s.lane n).config.service && s.ready) := by
  rw [State.resetDone, record_lane, lane_setLane_self]

theorem resetDone_engine (s : State) (n : LaneId) : ((s.resetDone n).lane n).engine = (s.lane n).engine := by
  rw [resetDone_lane, forfeit_lane]
  rfl

theorem resetDone_resetting (s : State) (n : LaneId) : ((s.resetDone n).lane n).resetting = none := by
  rw [resetDone_lane]
  rfl

theorem resetDone_waiting (s : State) (n : LaneId) : ((s.resetDone n).lane n).waiting = (s.lane n).newOffers := by
  rw [resetDone_lane, forfeit_lane]
  rfl

theorem resetDone_lock (s : State) (n : LaneId) : ((s.resetDone n).lane n).gate.lock = lockFor (s.lane n).config.mode := by
  rw [resetDone_lane, forfeit_lane]
  rfl

theorem resetDone_ready (s : State) (n : LaneId) : (s.resetDone n).ready = s.ready := by
  refine ready_congr ?_ ?_ ?_ ?_
  all_goals simp only [State.resetDone, record_frame, setLane_clock, setLane_fare, setLane_keys, setLane_proc, forfeit_frame]

/-! ### By the phase of the engine (R43) -/

section Phases
variable {s : State} {n : LaneId} {k : ResetKind}

theorem marked_engine (s : State) (n : LaneId) (k : Option ResetKind) : ((s.marked n k).lane n).engine = (s.lane n).engine := by
  rw [State.marked, lane_setLane_self]

theorem resetLane_of_idle (idle : (s.lane n).engine.phase = .idle) : s.resetLane n k = (s.resetDone n).takeOffers n := by
  change (s.marked n (some k)).resetEngine n = _
  simp only [State.resetEngine, marked_engine, idle, finishReset_marked]

theorem resetLane_of_finishing (ending : (s.lane n).engine.phase = .finishing) : s.resetLane n k = s.marked n (some k) := by
  change (s.marked n (some k)).resetEngine n = _
  simp only [State.resetEngine, marked_engine, ending]

theorem resetLane_of_running (running : (s.lane n).engine.phase = .admitting ∨ (s.lane n).engine.phase = .reading ∨
    (s.lane n).engine.phase = .checking ∨ (s.lane n).engine.phase = .resolving) :
    s.resetLane n k = (s.marked n (some k)).abandon n .laneReset := by
  change (s.marked n (some k)).resetEngine n = _
  rcases running with h | h | h | h <;> simp only [State.resetEngine, marked_engine, h]

theorem resetLane_of_writing (writing : (s.lane n).engine.phase = .writing) :
    s.resetLane n k = (match (s.lane n).engine.side with
      | some side => (s.marked n (some k)).endExchange n side
      | none => s.marked n (some k)).lostDuring n := by
  change (s.marked n (some k)).resetEngine n = _
  cases side : (s.lane n).engine.side <;> simp only [State.resetEngine, marked_engine, writing, side]

end Phases

/-! ### The records of a reset -/

theorem forfeitGrants_counts (n : LaneId) (cause : ForfeitCause) : ∀ (queue : List Grant) (s : State), s.journal.gapCount = 0 →
    s.journal.count + queue.length ≤ 32752 → s.journal.next + queue.length ≤ 4294967280 →
    let t := queue.foldl (fun t g => t.forfeitGrant n cause g) s
    t.journal.gapCount = 0 ∧ t.journal.count = s.journal.count + queue.length ∧ t.journal.next = s.journal.next + queue.length
  | [], s, settled, _, _ => ⟨settled, rfl, rfl⟩
  | g :: queue, s, settled, count, next => by
    rw [List.length_cons] at count next
    have out : s.journal.reserved = false := by
      rw [← Bool.not_eq_true, reserved_iff]
      omega
    have journal : (s.forfeitGrant n cause g).journal = s.journal.store s.recordTime (some n)
        { RecordFlags.clear with emergency := decide (cause = .emergency), gapFollows := false } (.unusedGrant cause g) := by
      rw [forfeitGrant_eq, State.record, append_of_open out settled]
      rfl
    have length : (s.forfeitGrant n cause g).journal.count = s.journal.count + 1 := by
      rw [journal]
      simp [Journal.store, Journal.count]
    have after : (s.forfeitGrant n cause g).journal.next = s.journal.next + 1 := by rw [journal]; rfl
    obtain ⟨hgap, hcount, hnext⟩ := forfeitGrants_counts n cause queue (s.forfeitGrant n cause g) (by rw [journal]; exact settled)
      (by rw [length]; omega) (by rw [after]; omega)
    refine ⟨hgap, hcount.trans ?_, hnext.trans ?_⟩
    · rw [length, List.length_cons]
      omega
    · rw [after, List.length_cons]
      omega

theorem resetDone_bodies {s : State} {n : LaneId} (settled : s.journal.gapCount = 0)
    (count : s.journal.count + (s.lane n).gate.queue.length + 1 ≤ 32752)
    (next : s.journal.next + (s.lane n).gate.queue.length + 1 ≤ 4294967280) :
    (s.resetDone n).journal.records.map (·.body) =
      s.journal.records.map (·.body) ++ (s.lane n).gate.queue.map (fun x => .unusedGrant .reset x) ++ [.lane .reset] := by
  obtain ⟨hgap, hcount, hnext⟩ := forfeitGrants_counts n .reset (s.lane n).gate.queue s settled (by omega) (by omega)
  have bodies := forfeitGrants_records n .reset (s.lane n).gate.queue s settled (by omega) (by omega)
  have journal : (s.forfeit n .reset).journal =
      ((s.lane n).gate.queue.foldl (fun t g => t.forfeitGrant n .reset g) s).journal := by
    simp only [State.forfeit, updGate_frame]
  rw [← journal] at hgap hcount hnext bodies
  have out : (s.forfeit n .reset).journal.reserved = false := by
    rw [← Bool.not_eq_true, reserved_iff]
    omega
  rw [State.resetDone, State.record, append_of_open (s := (s.forfeit n .reset).setLane n _) out hgap, ← bodies]
  simp [Journal.store]

/-! ### The offer an idle engine takes after its reset (R6, R124) -/

theorem chosen_of_two {l : Lane} {o p : Offer} (two : l.waiting = [o, p]) (apart : o.side ≠ p.side) :
    l.chosen = some (if (l.gate.lock = .s ∧ p.side = .s) ∨ (l.gate.lock = .p ∧ p.side = .p) then p else o) := by
  unfold Lane.chosen Lane.offerAt
  rw [two]
  cases lock : l.gate.lock <;> cases ho : o.side <;> cases hp : p.side <;> simp_all [List.find?_cons]

theorem lockFor_side (m : DirMode) (side : Side) :
    ((lockFor m = .s ∧ side = .s) ∨ (lockFor m = .p ∧ side = .p)) ↔ (m = .entry ∧ side = .s) ∨ (m = .exit ∧ side = .p) := by
  cases m <;> cases side <;> simp [lockFor]

/-! ### What the reset of one lane touches (R43, R137) -/

/-- What the Command Processor holds beside the stage of INITIALISE STORE. -/
def State.dialog (s : State) : Option LongOp × Option LastCompletion × Option Sense × Vector (Option Sense) 8 :=
  (s.proc.tracker, s.proc.lastCompletion, s.proc.partSense, s.proc.laneSenses)

/-- From s to t the dialog is kept, and of the lanes, the gates aside, lane n alone may change, not in its configuration. -/
structure TouchesLane (n : LaneId) (s t : State) : Prop where
  dialog : t.dialog = s.dialog
  others : ∀ k, k ≠ n → (t.lane k).besideGate = (s.lane k).besideGate
  config : (t.lane n).config = (s.lane n).config

section Touches
variable {n : LaneId} {s t w : State}

theorem besideGate_parts {l k : Lane} (same : l.besideGate = k.besideGate) :
    l.config = k.config ∧ l.engine = k.engine ∧ l.resetting = k.resetting :=
  ⟨congrArg (·.1) same, congrArg (·.2.2.1) same, congrArg (·.2.2.2.2.2.2.2.2) same⟩

theorem TouchesLane.refl (n : LaneId) (s : State) : TouchesLane n s s := ⟨rfl, fun _ _ => rfl, rfl⟩

theorem TouchesLane.trans (first : TouchesLane n s t) (second : TouchesLane n t w) : TouchesLane n s w :=
  ⟨second.dialog.trans first.dialog, fun k other => (second.others k other).trans (first.others k other),
    second.config.trans first.config⟩

theorem touchesLane_of_beside (dialog : t.dialog = s.dialog) (beside : ∀ k, (t.lane k).besideGate = (s.lane k).besideGate) :
    TouchesLane n s t := ⟨dialog, fun k _ => beside k, congrArg (·.1) (beside n)⟩

theorem touchesLane_of_same (proc : t.proc = s.proc) (lanes : t.lanes = s.lanes) : TouchesLane n s t :=
  touchesLane_of_beside (by simp only [State.dialog, proc]) fun k => by simp only [State.lane, lanes]

theorem touchesLane_setLane {l : Lane} (config : l.config = (s.lane n).config) : TouchesLane n s (s.setLane n l) :=
  ⟨rfl, fun _ other => by rw [lane_setLane_ne _ other], by rw [lane_setLane_self, config]⟩

theorem touchesLane_updLane {f : Lane → Lane} (config : (f (s.lane n)).config = (s.lane n).config) : TouchesLane n s (s.updLane n f) :=
  touchesLane_setLane config

theorem touchesLane_updEngine (f : Engine → Engine) : TouchesLane n s (s.updEngine n f) :=
  touchesLane_setLane rfl

theorem touchesLane_updPort (side : Side) (f : Port → Port) : TouchesLane n s (s.updPort n side f) := by
  rw [updPort_eq]
  exact touchesLane_setLane (by cases side <;> rfl)

theorem touchesLane_settleGate (s : State) (n : LaneId) : TouchesLane n s (s.settleGate n) := by
  rw [settleGate_eq]
  exact touchesLane_setLane (congrArg (·.1) (settle_besideGate _))

theorem clearFare_dialog (s : State) : s.clearFare.dialog = s.dialog := by
  simp only [State.dialog, State.clearFare, settleReadiness_frame]

theorem releaseBinding_dialog (s : State) : s.releaseBinding.dialog = s.dialog := by
  have activated (w : State) : w.considerActivation.dialog = w.dialog := by
    simp only [State.dialog, considerActivation_frame]
  unfold State.releaseBinding
  split
  · dsimp only
    split_ifs
    · rfl
    · rw [activated, clearFare_dialog]
      rfl
    · rw [activated]
      rfl
  · rfl

theorem touchesLane_releaseBinding (s : State) (n : LaneId) : TouchesLane n s s.releaseBinding :=
  touchesLane_of_beside (releaseBinding_dialog s) (releaseBinding_besideGate s)

theorem touchesLane_forfeit (s : State) (n : LaneId) (cause : ForfeitCause) : TouchesLane n s (s.forfeit n cause) :=
  ⟨by simp only [State.dialog, forfeit_frame], fun k other => by rw [forfeit_lane_ne _ _ other], by rw [forfeit_lane]⟩

theorem touchesLane_takeOffer (s : State) (n : LaneId) : TouchesLane n s (s.takeOffer n) := by
  unfold State.takeOffer
  dsimp only
  split
  · split
    · next o _ =>
      split
      · exact touchesLane_setLane rfl
      · refine (touchesLane_setLane ?_).trans (touchesLane_updLane rfl)
        cases o.side <;> rfl
    · exact .refl n s
  · exact .refl n s

theorem touchesLane_takeOffers (s : State) (n : LaneId) : TouchesLane n s (s.takeOffers n) :=
  (touchesLane_takeOffer s n).trans (touchesLane_takeOffer _ n)

theorem touchesLane_finishReset (s : State) (n : LaneId) : TouchesLane n s (s.finishReset n) := by
  rw [finishReset_eq]
  refine ((touchesLane_forfeit s n .reset).trans (touchesLane_setLane
    (l := ((s.forfeit n .reset).lane n).afterReset ((s.lane n).config.service && s.ready)) rfl)).trans (touchesLane_of_same ?_ ?_)
  all_goals simp only [record_frame]

/-- The transaction's end before the lane's reset and its next offer (R11, R39). -/
def State.closed (s : State) (n : LaneId) : State :=
  let w := match (s.lane n).engine.side with
    | some side => s.updPort n side (fun p => { p.sendRelease (if (s.lane n).engine.grantQueued then Release.go else Release.stop) with
        gone := false, dropped := false })
    | none => s
  ((w.updLane n (fun l => { l with engine := l.engine.cleared, gate := { l.gate with place := false } })).settleGate n).releaseBinding

theorem endTransaction_eq_closed (s : State) (n : LaneId) :
    s.endTransaction n =
      (if ((s.closed n).lane n).resetting.isSome then (s.closed n).finishReset n else s.closed n).takeOffers n := by
  unfold State.endTransaction State.closed
  dsimp only <;> cases (s.lane n).engine.side <;> rfl

theorem touchesLane_closed (s : State) (n : LaneId) : TouchesLane n s (s.closed n) := by
  unfold State.closed
  refine TouchesLane.trans (.trans (.trans ?_ (touchesLane_updLane rfl)) (touchesLane_settleGate _ n)) (touchesLane_releaseBinding _ n)
  cases (s.lane n).engine.side with
  | none => exact .refl n s
  | some side => exact touchesLane_updPort side _

theorem touchesLane_endTransaction (s : State) (n : LaneId) : TouchesLane n s (s.endTransaction n) := by
  rw [endTransaction_eq_closed]
  refine TouchesLane.trans ((touchesLane_closed s n).trans ?_) (touchesLane_takeOffers _ n)
  split
  · exact touchesLane_finishReset _ n
  · exact .refl n _

theorem touchesLane_finishing (s : State) (n : LaneId) (duties : List Duty) : TouchesLane n s (s.finishing n duties) := by
  unfold State.finishing
  dsimp only
  split
  · exact (touchesLane_updEngine _).trans (touchesLane_endTransaction _ n)
  · exact touchesLane_updEngine _

theorem touchesLane_refuse (s : State) (n : LaneId) (r : RefusalCode) (duties : List Duty) : TouchesLane n s (s.refuse n r duties) :=
  ((touchesLane_updLane rfl).trans (touchesLane_updEngine _)).trans (touchesLane_finishing _ n duties)

theorem touchesLane_closeSlot (s : State) (i : SlotId) (outcome : TearOutcome) (n : LaneId) :
    TouchesLane n s (s.closeSlot i outcome n).1 := touchesLane_of_same (by simp) (by simp)

theorem touchesLane_resolve (s : State) (n : LaneId) : TouchesLane n s (s.resolve n).1 := by
  unfold State.resolve
  dsimp only
  split
  · split
    · exact .trans (touchesLane_closeSlot s _ _ n) (touchesLane_setLane rfl)
    · exact .refl n s
  · exact .refl n s

theorem touchesLane_abandon (s : State) (n : LaneId) (r : RefusalCode) : TouchesLane n s (s.abandon n r) := by
  have settled : TouchesLane n s (if (s.lane n).engine.phase = .resolving then (s.resolve n).1 else s) := by
    split
    · exact touchesLane_resolve s n
    · exact .refl n s
  unfold State.abandon
  dsimp only
  generalize (if (s.lane n).engine.phase = .resolving then (s.resolve n).1 else s) = w at settled ⊢
  refine (settled.trans ?_).trans (touchesLane_refuse _ n r _)
  split
  · split
    · exact touchesLane_updPort _ _
    · exact .refl n _
  · exact .refl n _

theorem touchesLane_lostDuring (s : State) (n : LaneId) : TouchesLane n s (s.lostDuring n) := by
  refine TouchesLane.trans ?_ (touchesLane_finishing _ n _)
  unfold State.tear
  refine TouchesLane.trans ?_ (touchesLane_updEngine _)
  split
  · exact touchesLane_of_same (by simp) (by simp)
  · exact .refl n s

theorem touchesLane_resetEngine (s : State) (n : LaneId) : TouchesLane n s (s.resetEngine n) := by
  unfold State.resetEngine
  dsimp only
  split
  · exact (touchesLane_finishReset _ n).trans (touchesLane_takeOffers _ n)
  · exact .refl n _
  · refine TouchesLane.trans ?_ (touchesLane_lostDuring _ n)
    split
    · exact touchesLane_updPort _ _
    · exact .refl n _
  all_goals exact touchesLane_abandon _ n _

theorem touchesLane_resetLane (s : State) (n : LaneId) (k : ResetKind) : TouchesLane n s (s.resetLane n k) :=
  (touchesLane_updLane (f := fun l => { l with resetting := some k }) rfl).trans (touchesLane_resetEngine _ n)

/-! ### A reset that waits, waits for FINISHING (R43, R137) -/

theorem takeOffer_resetting (s : State) (n : LaneId) : ((s.takeOffer n).lane n).resetting = (s.lane n).resetting := by
  unfold State.takeOffer
  dsimp only
  split
  · split
    · next o _ =>
      split
      · rw [lane_setLane_self]
        rfl
      · rw [State.countRefusal, updLane_eq, lane_setLane_self, lane_setLane_self]
        cases o.side <;> rfl
    · rfl
  · rfl

theorem takeOffers_resetting (s : State) (n : LaneId) : ((s.takeOffers n).lane n).resetting = (s.lane n).resetting :=
  (takeOffer_resetting _ n).trans (takeOffer_resetting s n)

theorem finishReset_resetting (s : State) (n : LaneId) : ((s.finishReset n).lane n).resetting = none := by
  rw [finishReset_eq, record_lane, lane_setLane_self]
  rfl

theorem endTransaction_resetting (s : State) (n : LaneId) : ((s.endTransaction n).lane n).resetting = none := by
  rw [endTransaction_eq_closed, takeOffers_resetting]
  split
  · exact finishReset_resetting _ n
  · next free => simpa using free

/-- A lane that is marked as being reset is FINISHING. -/
def Lane.waitsRightly (l : Lane) : Prop := l.resetting ≠ none → l.engine.phase = .finishing

theorem waitsRightly_of_none {l : Lane} (free : l.resetting = none) : l.waitsRightly := fun marked => absurd free marked

theorem finishing_waitsRightly (s : State) (n : LaneId) (duties : List Duty) : ((s.finishing n duties).lane n).waitsRightly := by
  unfold State.finishing
  dsimp only
  split
  · exact waitsRightly_of_none (endTransaction_resetting _ n)
  · intro _
    rw [updEngine_engine]

theorem resetLane_waitsRightly (s : State) (n : LaneId) (k : ResetKind) : ((s.resetLane n k).lane n).waitsRightly := by
  unfold State.resetLane State.resetEngine
  dsimp only
  split
  · exact waitsRightly_of_none ((takeOffers_resetting _ n).trans (finishReset_resetting _ n))
  · next ending => exact fun _ => ending
  · exact finishing_waitsRightly _ n _
  all_goals exact finishing_waitsRightly _ n _

end Touches

/-! ### RESET PART (R186, R197) -/

/-- Every lane reset with the part. -/
def State.resetLanes (s : State) : State := s.eachLane (fun n t => t.resetLane n .part)

theorem resetLanes_dialog (s : State) : s.resetLanes.dialog = s.dialog :=
  eachLane_keeps State.dialog _ (fun n t => (touchesLane_resetLane t n .part).dialog) s

theorem resetLanes_lane (s : State) (n : LaneId) :
    (s.resetLanes.lane n).config = (s.lane n).config ∧ (s.resetLanes.lane n).waitsRightly := by
  obtain ⟨w, before, after⟩ : ∃ w : State, (w.lane n).besideGate = (s.lane n).besideGate ∧
      (s.resetLanes.lane n).besideGate = ((w.resetLane n .part).lane n).besideGate := by
    unfold State.resetLanes State.eachLane
    rw [laneIds_eq]
    obtain ⟨w, _, before, after⟩ := foldl_at (view := fun t k => (t.lane k).besideGate) (f := fun t n => t.resetLane n .part)
      (P := fun _ => True) (fun m t k other => (touchesLane_resetLane t m .part).others k other) (fun _ _ _ => trivial) (s := s)
      trivial n
    exact ⟨w, before, after⟩
  obtain ⟨config, engine, resetting⟩ := besideGate_parts after
  obtain ⟨config', _, _⟩ := besideGate_parts before
  refine ⟨config.trans ((touchesLane_resetLane w n .part).config.trans config'), fun marked => ?_⟩
  rw [engine]
  exact resetLane_waitsRightly w n .part (resetting ▸ marked)

theorem resetLanes_frame (s : State) :
    s.resetLanes.link = s.link ∧ s.resetLanes.hot = s.hot ∧ s.resetLanes.incidents = s.incidents ∧ s.resetLanes.keys = s.keys ∧
    s.resetLanes.window = s.window ∧ s.resetLanes.retention = s.retention ∧ s.resetLanes.clock = s.clock ∧
    s.resetLanes.emergency = s.emergency ∧ s.resetLanes.notices.conditions = s.notices.conditions ∧
    s.resetLanes.notices.pending = s.notices.pending ∧ s.resetLanes.notices.levels = s.notices.levels := by
  have keeps : ∀ {α : Type} (π : State → α), (∀ n t, π (t.resetLane n .part) = π t) → π s.resetLanes = π s :=
    fun π each => eachLane_keeps π _ each s
  refine ⟨keeps (·.link) ?_, keeps (·.hot) ?_, keeps (·.incidents) ?_, keeps (·.keys) ?_, keeps (·.window) ?_, keeps (·.retention) ?_,
    keeps (·.clock) ?_, keeps (·.emergency) ?_, keeps (·.notices.conditions) ?_, keeps (·.notices.pending) ?_,
    keeps (·.notices.levels) ?_⟩
  all_goals exact fun n t => by simp only [resetLane_frame]

theorem resetsPart_iff (s : State) :
    s.lanes.toList.any (fun l => l.resetting == some .part) = true ↔ ∃ n, (s.lane n).resetting = some .part := by
  simp only [List.any_eq_true, mem_vector, beq_iff_eq]
  constructor
  · rintro ⟨l, ⟨n, rfl⟩, marked⟩
    exact ⟨n, marked⟩
  · rintro ⟨n, marked⟩
    exact ⟨_, ⟨n, rfl⟩, marked⟩

/-- The long operation that runs, if one does. -/
def State.running (s : State) : Option LongOp := s.proc.tracker.filter (fun op => !op.ended)

/-- The stores and the Station Link blocks after the first steps of RESET PART (R71, R89, R186). -/
def State.unlinked (s : State) : State :=
  { s with
    fare := { s.fare with pending := match s.running, s.fare.pending with
      | some _, .verifying version sections _ => .loading version sections
      | _, pending => pending }
    hot := match s.running, s.hot.load with
      | _, .idle => s.hot
      | _, .loading _ _ _ _ => s.hot.abandon
      | some _, .verifying _ _ _ => s.hot.abandon
      | none, .verifying _ _ _ => s.hot
    proc := { s.proc with
      laneSenses := Vector.replicate 8 none
      partSense := s.running.map (fun op => ⟨.aborted, op.command.toNat, none, some op.tag.toNat⟩)
      tracker := if s.running.isSome then none else s.proc.tracker
      lastCompletion := match s.running with
        | some op => some ⟨op.tag, op.command, .aborted⟩
        | none => s.proc.lastCompletion }
    notices := { s.notices with conditions := [], pending := [] } }

theorem running_of_op {s : State} {op : LongOp} (tracker : s.proc.tracker = some op) (runs : op.ended = false) : s.running = some op := by
  simp [State.running, tracker, runs]

theorem running_of_idle {s : State} (none : ∀ op, s.proc.tracker = some op → op.ended = true) : s.running = .none := by
  unfold State.running
  cases tracker : s.proc.tracker with
  | none => rfl
  | some op => simp [none op tracker]

theorem abandonLong_of_op {s : State} {op : LongOp} (tracker : s.proc.tracker = some op) (runs : op.ended = false) :
    s.abandonLong = ({ s.abandonOwner with
      proc := { s.proc with tracker := none, lastCompletion := some ⟨op.tag, op.command, .aborted⟩ } },
      some ⟨.aborted, op.command.toNat, none, some op.tag.toNat⟩) := by
  simp only [State.abandonLong, tracker, runs]
  rfl

theorem abandonLong_of_idle {s : State} (none : ∀ op, s.proc.tracker = some op → op.ended = true) : s.abandonLong = (s, .none) := by
  unfold State.abandonLong
  split
  · next op is => exact if_pos (none op is)
  · rfl

theorem resetLink_abandonLoading (s : State) : s.resetLink.abandonLoading = s.unlinked := by
  by_cases runs : ∃ op, s.proc.tracker = some op ∧ op.ended = false
  · obtain ⟨op, tracker, running⟩ := runs
    have some_ := running_of_op tracker running
    simp only [State.resetLink, abandonLong_of_op tracker running, State.abandonLoading, State.abandonOwner, State.unlinked, some_]
    cases load : s.hot.load <;> cases pending : s.fare.pending <;> simp [HotStore.abandon, load]
  · have idle : ∀ op, s.proc.tracker = some op → op.ended = true := fun op is => by simpa using fun h => runs ⟨op, is, h⟩
    have none_ := running_of_idle idle
    simp only [State.resetLink, abandonLong_of_idle idle, State.abandonLoading, State.unlinked, none_]
    cases load : s.hot.load <;> simp [load]

theorem resetLanes_eq (s : State) :
    s.resetLanes = ([0, 1, 2, 3, 4, 5, 6, 7] : List LaneId).foldl (fun w n => w.resetLane n .part) s := rfl

theorem resetPart_of_free {s : State} (free : ∀ n, (s.lane n).resetting ≠ some .part) (r : Request) :
    resetPart r s = (s.unlinked.resetLanes, .good []) := by
  rw [resetPart, if_neg (mt (resetsPart_iff s).1 (not_exists.2 free)), resetLink_abandonLoading, State.resetLanes]

theorem resetPart_of_waiting {s : State} (waits : ∃ n, (s.lane n).resetting = some .part) (r : Request) :
    resetPart r s = (s, .busy) := if_pos ((resetsPart_iff s).2 waits)

/-- What the resets of the lanes and the reply leave as it was. -/
theorem resetLanes_good (s : State) (r : Request) :
    let t := s.resetLanes.good r []
    t.dialog = s.dialog ∧ t.notices.conditions = s.notices.conditions ∧ t.notices.pending = s.notices.pending ∧
    t.notices.levels = s.notices.levels ∧ (∀ n, (t.lane n).waitsRightly) ∧ (∀ n, (t.lane n).config = (s.lane n).config) ∧
    t.clock = s.clock ∧ t.keys = s.keys ∧ t.hot = s.hot ∧ t.incidents = s.incidents ∧ t.emergency = s.emergency ∧
    t.window = s.window ∧ t.retention = s.retention ∧ t.link.requests = s.link.requests ∧
    t.link.replies = s.link.replies ++ [⟨false, [0x02, r.tag, 0x00]⟩] := by
  have frame := resetLanes_frame s
  have dialog := resetLanes_dialog s
  have lanes := resetLanes_lane s
  generalize s.resetLanes = w at frame dialog lanes ⊢
  intro t
  obtain ⟨link, hot, incidents, keys, window, retention, clock, emergency, conditions, pending, levels⟩ := frame
  have answered : t.link = { w.link with replies := w.link.replies ++ [⟨false, [0x02, r.tag, 0x00]⟩] } := rfl
  refine ⟨dialog, conditions, pending, levels, fun n => (lanes n).2, fun n => (lanes n).1, clock, keys, hot, incidents, emergency,
    window, retention, ?_, ?_⟩
  · rw [answered, link]
  · rw [answered, link]

/-- Settles O37: a lane's reset by the phase of its engine, the part's by what each lane's reset touches. -/
theorem resetsActOnLanes : Obligations.ResetsActOnLanes := by
  refine ⟨?_, ?_, ?_⟩
  · intro s n k l g e serves report command matched state port forfeited kept reset done taken t ending ended
    have hreport : l.inputs.report = report := report_eq l.inputs
    have hlock : lockFor l.config.mode = match l.config.mode with | .both => .free | .entry => .s | .exit => .p := lockFor_eq _
    have clear : (!l.inputs.clear) = (l.inputs.beamS || l.inputs.beamP) := by
      cases hs : l.inputs.beamS <;> cases hp : l.inputs.beamP <;> simp [LaneInputs.clear, hs, hp]
    have hreset : (forfeited.lane n).afterReset serves = reset := by
      have lane : forfeited.lane n = _ := forfeit_lane s n .reset
      simp only [reset, lane, Lane.afterReset, Lane.resetState, ← hlock, ← clear, state, matched, ← hreport] <;> rfl
    have hdone : s.resetDone n = done := by
      rw [State.resetDone, hreset]
    have engine : (done.lane n).engine = e := by rw [← hdone, resetDone_engine]
    have free : (done.lane n).resetting = none := by rw [← hdone, resetDone_resetting]
    have waiting : (done.lane n).waiting = kept := by rw [← hdone, resetDone_waiting] <;> rfl
    have lock : (done.lane n).gate.lock = lockFor l.config.mode := by rw [← hdone, resetDone_lock]
    have ready : done.ready = s.ready := by rw [← hdone, resetDone_ready]
    have idles (idle : e.phase = .idle) : t = done.takeOffers n := by
      rw [← hdone]
      exact resetLane_of_idle idle
    have takes (o : Offer) (others : List Offer) (idle : e.phase = .idle) (on : s.ready = true) (chosen : (done.lane n).chosen = some o)
        (left : kept.filter (fun x => x.side != o.side) = others) : t = taken o others := by
      rw [idles idle, takeOffers_of_ready done n o (by rw [engine]; exact idle) free (ready.trans on) chosen, Lane.begin_, engine,
        Lane.withdraw, waiting, left]
      simp only [taken]
      cases o.presence <;> rfl
    refine ⟨fun idle none => ?_, fun o idle on one => ?_, fun o p idle on two apart => ?_, fun o idle off one => ?_,
      fun idle settled count next => ?_, fun ending => resetLane_of_finishing ending, fun running => resetLane_of_running running, ?_⟩
    · rw [idles idle, takeOffers_of_none done n (waiting.trans none)]
    · exact takes o [] idle on (chosen_of_only (waiting.trans one)) (by rw [one]; simp)
    · have chosen := chosen_of_two (waiting.trans two) apart
      rw [lock] at chosen
      simp only [lockFor_side] at chosen
      by_cases second : (l.config.mode = .entry ∧ p.side = .s) ∨ (l.config.mode = .exit ∧ p.side = .p)
      · rw [if_pos second] at chosen ⊢
        exact takes p [o] idle on chosen (by rw [two]; simp [apart])
      · rw [if_neg second] at chosen ⊢
        exact takes o [p] idle on chosen (by rw [two]; simp [Ne.symm apart])
    · rw [idles idle, takeOffers_of_unready_only (by rw [engine]; exact idle) free (waiting.trans one) (ready.trans off)]
    · rw [idles idle, takeOffers_frame done n |>.2.2.2.2.2.2.2.2.2.2.2.2.2.1, ← hdone]
      exact resetDone_bodies settled count next
    · intro i f id writing slot held claim
      have whole : t = (s.setLane n ended).lostDuring n := by
        refine (resetLane_of_writing (k := k) writing).trans (congrArg (State.lostDuring · n) ?_)
        simp only [ended]
        cases e.side with
        | none => rfl
        | some x =>
          dsimp only
          rw [State.endExchange, State.marked, updPort_eq, lane_setLane_self, setLane_setLane]
          cases x <;> rfl
      have lane : (s.setLane n ended).lane n = ended := lane_setLane_self s n ended
      have engine' : ((s.setLane n ended).lane n).engine = e := by
        rw [lane]
        simp only [ended]
        split <;> rfl
      have torn := lostDuring_eq (s := s.setLane n ended) (i := i) (id := id) (by rw [engine']; exact slot) claim
      rw [engine'] at torn
      refine ⟨fun valid bounded => ?_, fun invalid => ?_⟩
      · rw [whole, torn, openReserved_of_valid (s := s.setLane n ended) held _ valid bounded]
        rfl
      · rw [whole, torn, openReserved_of_invalid (s := s.setLane n ended) held _ invalid]
  · intro s n r rest takes target
    refine (serve_of_takes takes (onLane resetLaneRequest)).trans ?_
    rw [onLane_of_lane target]
    rfl
  · intro s r rest takes u running emptied linked
    have served : exec .resetPart s = .next ((resetPart r u).1.answer r.tag r.target (resetPart r u).2) := serve_of_takes takes resetPart
    have unlinked : u.unlinked = linked := by
      have same : u.running = running := by simp only [State.running, u, takeRequest_fields, running]
      simp only [State.unlinked, same, linked, u, takeRequest_frame, takeRequest_fields] <;> rfl
    have lane (n : LaneId) : u.lane n = s.lane n := takeRequest_lane s r rest n
    refine ⟨fun ⟨n, waits⟩ => ?_, fun free => ?_⟩
    · rw [served, resetPart_of_waiting ⟨n, (congrArg Lane.resetting (lane n)).trans waits⟩]
      rfl
    · have ran : exec .resetPart s = .next (linked.resetLanes.good r []) := by
        rw [served, resetPart_of_free (fun n => (congrArg Lane.resetting (lane n)).trans_ne (free n)), unlinked, State.good]
      refine ⟨ran.trans (congrArg (fun w : State => (.next (w.good r []) : Host.Outcome State Fault Refusal)) (resetLanes_eq linked)),
        linked.resetLanes.good r [], ran, ?_⟩
      have leaves := resetLanes_good linked r
      generalize linked.resetLanes.good r [] = t at leaves ⊢
      obtain ⟨dialog, conditions, pending, levels, waits, config, clock, keys, hot, incidents, emergency, window, retention, requests,
        replies⟩ := leaves
      have tracker : t.proc.tracker = linked.proc.tracker := congrArg (·.1) dialog
      have last : t.proc.lastCompletion = linked.proc.lastCompletion := congrArg (·.2.1) dialog
      have part : t.proc.partSense = linked.proc.partSense := congrArg (·.2.2.1) dialog
      have senses : t.proc.laneSenses = Vector.replicate 8 none := congrArg (·.2.2.2) dialog
      refine ⟨conditions, pending, fun n => by simp [State.sense, senses], ?_, waits,
        fun n => (config n).trans (congrArg Lane.config (lane n)), clock.trans (takeRequest_clock s r rest), ?_, hot, ?_, ?_, ?_, ?_, ?_, ?_, ?_⟩
      · rw [tracker, last, part]
        rcases op : s.proc.tracker with _ | ⟨tag, command, ended⟩
        · simp only [linked, running, op]
          exact ⟨rfl, rfl, rfl⟩
        · cases ended
          · simp only [linked, running, op]
            exact ⟨rfl, rfl, rfl⟩
          · simp only [linked, running, op]
            exact ⟨rfl, rfl, rfl⟩
      · exact keys.trans (by simp only [linked, u, takeRequest_frame])
      · exact incidents.trans (by simp only [linked, u, takeRequest_frame])
      · exact emergency.trans (by simp only [linked, u, takeRequest_frame])
      · exact window.trans (by simp only [linked, u, takeRequest_frame])
      · exact retention.trans (by simp only [linked, u, takeRequest_frame])
      · exact levels
      · exact requests.trans (by simp only [linked, u, takeRequest_fields])
      · exact replies.trans (by simp only [linked, u, takeRequest_frame])

end Sys2Proof.Machine
end
